-- ==== Sys2Proof/Word.lean ====
section
/-!
DEFINITION. The word types of the Joprand C16. A value is a bit vector where the manual adds it modulo a power of
two (pack time, R40), sends it as a byte, or codes a set bit by bit (chapter 11, "Sets"); counts are plain naturals.
-/
namespace Sys2Proof

/-- One byte on a link, in a report, in a returned record or in an image bank. -/
abbrev Byte := BitVec 8

/-- Pack time and every time held in it: a 32-bit count of microseconds that wraps (R40). -/
abbrev Time := BitVec 32

/-- A set of chain positions 1 to 16: bit p − 1 stands for position p (chapter 11, "Sets"). -/
abbrev PosSet := BitVec 16

/-- A set of fault classes 1 to 16: bit n − 1 stands for class n (chapter 11, "Sets"). -/
abbrev ClassSet := BitVec 16

end Sys2Proof
end

