-- ==== Sys2Proof/Config.lean ====
section
/-!
DEFINITION. What one implementation of the C16 fixes, and the free values: constants without a body, so that nothing
can be proved of the values the manual leaves open.
-/
namespace Sys2Proof.Config

/-- A byte of non-volatile memory whose programming or erase a reset cut off: "leaves the bytes concerned undefined"
(R169), "leaves the bank partly erased" (R168). The argument numbers the free values a run has used (log entry 11). -/
opaque freeByte : Nat → BitVec 8

/-- Which of the old and the new service record a write cut off by a reset leaves in memory (R161, R180); true is the
new one (log entry 11). -/
opaque freeChoice : Nat → Bool

/-- The sequence byte of a WAKE, ENUM or SLEEP frame, which no rule gives (log entry 12). -/
opaque freeSequence : Nat → BitVec 8

/-- The entry index reported for a position map that holds no SHUNT entry: R165 names the first failing entry, and
here no entry fails by itself (log entry 26). -/
opaque noShuntIndex : Nat

end Sys2Proof.Config
end

