-- ==== Sys2Proof/Syntax.lean ====
section
/-!
DEFINITION. The commands the C16 takes: one constructor per row of spec/opcode_table.json. A row is one whole,
indivisible step of the part (spec file 95): a frame that arrives, an event on a line, a time that is reached, a
transmission that starts or ends, or the management engine's execution of the request at the head of its queue.
-/
namespace Sys2Proof

/-- The three contactors: K+ (main positive), K− (main negative), KP (precharge). -/
inductive Contactor where
  | kPos | kNeg | kPre
  deriving DecidableEq, Repr

/-- The level a discrete input line takes. -/
inductive Level where
  | asserted | deasserted
  deriving DecidableEq, Repr

/-- What a receiver collects (R2): the bytes between two delimiters, more than 72 bytes with no end delimiter, or a
partial frame cut by a new start delimiter. -/
inductive Reception where
  | frame (bytes : List Byte)
  | overrun
  | cut
  deriving DecidableEq, Repr

/-- The commands of the part, in the order of the table. A row that is a frame's arrival carries what was received;
a row that is a timer's or a sweep's own event names which one; the request rows carry nothing, because they execute
the request that stands at the head of the request queue (R183). The three line rows carry the level the line takes:
the level in the row's name is the row's event, the other one is the quiet edge (log entry 7). -/
inductive Instr where
  | powerOn
  | resetN
  | boot
  | northFrameCheckFail (r : Reception)
  | northFrameDiscard (bytes : List Byte)
  | mgmtReqAccept (bytes : List Byte)
  | northCommand (bytes : List Byte)
  | broadcastCommand (bytes : List Byte)
  | northActivity
  | northTransmitStart
  | restartEffect
  | southFrameCheckFail (r : Reception)
  | southResponse (bytes : List Byte)
  | sample (bytes : List Byte)
  | enumReply (bytes : List Byte)
  | chainSpoof (bytes : List Byte)
  | southFrameDiscard (bytes : List Byte)
  | southTransmitStart
  | commandFrameEnd
  | bringupFrameDue
  | enumFrameEnd
  | enumWindowClose
  | retryTimerExpiry
  | transactionDeadline (sequence : Byte)
  | cycleStart
  | slotLaunchTime (slot : Nat)
  | sweepCloseTime (sweep : BitVec 16)
  | supervisionExpiry
  | feedbackLineChange (k : Contactor) (closed : Bool)
  | feedbackTimerExpiry (k : Contactor)
  | watchExpiry (k : Contactor)
  | prechargeLimitExpiry
  | softOpenWaitExpiry
  | wakeInAssert (level : Level)
  | tamperInAssert (level : Level)
  | serviceInDeassert (level : Level)
  | deepFeedbackClosed (kPos kNeg kPre : Bool)
  | patrolTimerExpiry
  | sleepBroadcastDue
  | sleepBroadcastEnd
  | deepEntry
  | eraseComplete
  | checkComplete
  | writeProgrammingEnd
  | switchStart
  | recordWriteComplete
  | tableLoadComplete
  | unknownRequest
  | status
  | readCounters
  | readFaults
  | ackFaults
  | readEvents
  | connect
  | disconnect
  | disconnectNow
  | clearLockout
  | scheduleStart
  | scheduleStop
  | setTime
  | sleep
  | keepalive
  | updOpen
  | updErase
  | updWrite
  | updCheck
  | updCommit
  | updAbort
  | updStatus
  | readImage
  | clearTamper
  | resetSouth
  | restart
  deriving DecidableEq, Repr

end Sys2Proof
end

