-- ==== Sys2Proof/Decode.lean ====
section
/-!
DEFINITION. No row of spec/opcode_table.json gives bits (every row's "fields" is empty): the part has no command
words, so no word spells a command.
-/
namespace Sys2Proof

/-- The command a word of the table's bits spells: none, for every word, because the table gives no row any bits. -/
def decodeTableWord (_nbits _w : Nat) : Option Instr := none

end Sys2Proof
end

