-- ==== Sys2Proof/Machine/Bits.lean ====
section
/-!
DEFINITION. Times, saturating counts, big-endian fields, position sets and the per-position rows: the plain
arithmetic the rules share.
-/
namespace Sys2Proof.Machine

/-! ### Pack time (introduction, "Pack time") -/

/-- `now` is at or after `t`: equal to it or after it, modulo 2^32. -/
def atOrAfter (now t : Time) : Bool := decide ((now - t).toNat < 2147483648)

/-- `b` is strictly after `a`: (b − a) mod 2^32 lies in 1 to 2^31 − 1. -/
def isAfter (b a : Time) : Bool := decide (1 ≤ (b - a).toNat) && decide ((b - a).toNat < 2147483648)

/-- The time `us` microseconds after `t`. -/
def later (t : Time) (us : Nat) : Time := t + BitVec.ofNat 32 us

/-- The time `ms` milliseconds after `t`. -/
def laterMs (t : Time) (ms : Nat) : Time := later t (ms * 1000)

/-- A timer is due: it runs and its expiry is at or before `now`. -/
def timerDue (now : Time) : Option Time → Bool
  | none => false
  | some e => atOrAfter now e

/-! ### Saturating counters (introduction, "Saturating counters") -/

/-- One more on a 16-bit saturating counter. -/
def bump16 (n : Nat) : Nat := min (n + 1) 65535

/-- One more on an 8-bit saturating counter. -/
def bump8 (n : Nat) : Nat := min (n + 1) 255

/-! ### Multi-byte fields: big-endian (introduction, "Byte order") -/

/-- The low `n` bytes of `v`, most significant first. -/
def be : Nat → Nat → List Byte
  | 0, _ => []
  | n + 1, v => BitVec.ofNat 8 (v / 256 ^ n) :: be n v

/-- The low `n` bytes of a signed value in two's complement, most significant first. -/
def beInt (n : Nat) (v : Int) : List Byte := be n (v % (256 ^ n : Nat)).toNat

/-- A big-endian field read as an unsigned number. -/
def ofBe (bs : List Byte) : Nat := bs.foldl (fun acc b => 256 * acc + b.toNat) 0

/-- An unsigned number of `n` bytes read as two's complement. -/
def signed (n v : Nat) : Int := if 2 * v < 256 ^ n then (v : Int) else (v : Int) - (256 ^ n : Nat)

/-- One flag at bit `i` of a flags byte. -/
def flag (i : Nat) (b : Bool) : Nat := if b then 2 ^ i else 0

/-! ### Position sets -/

/-- The sixteen positions in ascending order. -/
def allPositions : List Nat := [1, 2, 3, 4, 5, 6, 7, 8, 9, 10, 11, 12, 13, 14, 15, 16]

/-- Position `p` belongs to the set. -/
def hasPos (s : PosSet) (p : Nat) : Bool := decide (1 ≤ p) && s.getLsbD (p - 1)

/-- The set holding position `p` alone. -/
def posBit (p : Nat) : PosSet := if 1 ≤ p ∧ p ≤ 16 then BitVec.twoPow 16 (p - 1) else 0

/-- The set with position `p` added. -/
def addPos (s : PosSet) (p : Nat) : PosSet := s ||| posBit p

/-- The set with position `p` removed. -/
def dropPos (s : PosSet) (p : Nat) : PosSet := s &&& ~~~ posBit p

/-- The members of a set in ascending order. -/
def positionsOf (s : PosSet) : List Nat := allPositions.filter (hasPos s)

/-! ### Rows of sixteen, one entry per position or channel 1 to 16 -/

/-- The entry of position (or channel) `p`; `d` outside 1 to 16. -/
def atPos {α : Type} (v : Vector α 16) (d : α) (p : Nat) : α := if p = 0 then d else v.getD (p - 1) d

/-- The row with the entry of position `p` replaced; unchanged outside 1 to 16. -/
def setPos {α : Type} (v : Vector α 16) (p : Nat) (x : α) : Vector α 16 :=
  if p = 0 then v else v.setIfInBounds (p - 1) x

end Sys2Proof.Machine
end

