-- ==== Sys2Proof/Machine/Memory.lean ====
section
/-!
DEFINITION. The bytes of one image bank (section 9.2) as a list of cells in canonical form: addresses strictly rising,
every address inside the bank, and no cell that holds the erased value, which is what an unlisted byte reads as.
The CRC-32 of an image (R193) stands here too.
-/
namespace Sys2Proof.Machine

/-- The bytes of a bank that differ from the erased value. -/
abbrev Memory := List Host.Cell

/-- The size of a bank in bytes (section 9.2). -/
def bankSize : Nat := 4096

/-- The erased value, which every unlisted byte reads as: "An erase sets every byte of the bank to the erased value,
FF hex" (section 9.2). -/
def erasedByte : Byte := 0xFF#8

/-- The byte at an address. -/
def Memory.read (m : Memory) (a : Nat) : Byte :=
  match m with
  | [] => erasedByte
  | c :: rest => if c.1 = a then c.2 else Memory.read rest a

/-- The memory without the cell of an address. -/
def Memory.erase (m : Memory) (a : Nat) : Memory :=
  match m with
  | [] => []
  | c :: rest => if c.1 = a then rest else c :: Memory.erase rest a

/-- The memory with a cell set, in address order. -/
def Memory.insert (m : Memory) (a : Nat) (b : Byte) : Memory :=
  match m with
  | [] => [(a, b)]
  | c :: rest =>
    if c.1 = a then (a, b) :: rest
    else if a < c.1 then (a, b) :: c :: rest
    else c :: Memory.insert rest a b

/-- One byte written; the erased value removes the cell, so that equal contents are equal lists. -/
def Memory.write (m : Memory) (a : Nat) (b : Byte) : Memory :=
  if b = erasedByte then m.erase a else m.insert a b

/-- Bytes written at ascending addresses from `a`. -/
def Memory.writeAll (m : Memory) (a : Nat) : List Byte → Memory
  | [] => m
  | b :: bs => Memory.writeAll (m.write a b) (a + 1) bs

/-- The `n` bytes from address `a`. -/
def Memory.readAll (m : Memory) (a n : Nat) : List Byte := (List.range n).map (fun i => m.read (a + i))

/-- Every byte of the bank holds the erased value (section 9.2). -/
def Memory.blank (m : Memory) : Bool := m.all (fun c => c.2 == erasedByte)

/-- The canonical form from address `lo` on. -/
def Memory.wfFrom (lo : Nat) : Memory → Bool
  | [] => true
  | c :: rest => decide (lo ≤ c.1) && decide (c.1 < bankSize) && decide (c.2 ≠ erasedByte) && Memory.wfFrom (c.1 + 1) rest

/-- The canonical form of a bank's bytes. -/
def Memory.wf (m : Memory) : Bool := Memory.wfFrom 0 m

/-! ### CRC-32 (R193) -/

/-- One bit step of the reflected CRC-32 register: polynomial 04C11DB7 hex, reflected EDB88320 hex. -/
def crc32Bit (r : BitVec 32) : BitVec 32 := if r.getLsbD 0 then (r >>> 1) ^^^ 0xEDB88320#32 else r >>> 1

/-- One byte enters the register, least significant bit first. -/
def crc32Byte (r : BitVec 32) (b : Byte) : BitVec 32 :=
  let r := r ^^^ b.setWidth 32
  crc32Bit (crc32Bit (crc32Bit (crc32Bit (crc32Bit (crc32Bit (crc32Bit (crc32Bit r)))))))

/-- The CRC-32 of R193: starts at FFFFFFFF hex, result inverted. -/
def crc32 (bs : List Byte) : BitVec 32 := ~~~ bs.foldl crc32Byte 0xFFFFFFFF#32

end Sys2Proof.Machine
end

