-- ==== Sys2Proof/Machine/Frame.lean ====
section
/-!
DEFINITION. The frame of both links (section 11.1), its CRC-16 (R192), the frame check (R2), and how a checked frame
is sorted on the north link (R3) and on the south link (R5).
-/
namespace Sys2Proof.Machine

/-- The twelve known frame kinds (R2, section 11.1). -/
inductive Kind where
  | command | response | trigger | sample | sync | enum | enumReply | wake | sleep | mgmtReq | mgmtRsp | report
  deriving DecidableEq, Repr

/-- The kind byte (section 11.1). -/
def Kind.code : Kind → Nat
  | .command => 0 | .response => 1 | .trigger => 2 | .sample => 3 | .sync => 4 | .enum => 5
  | .enumReply => 6 | .wake => 7 | .sleep => 8 | .mgmtReq => 9 | .mgmtRsp => 10 | .report => 11

/-- The kind that a kind byte names; none for an unknown kind. -/
def Kind.ofCode (b : Byte) : Option Kind :=
  match b.toNat with
  | 0 => some .command | 1 => some .response | 2 => some .trigger | 3 => some .sample
  | 4 => some .sync | 5 => some .enum | 6 => some .enumReply | 7 => some .wake
  | 8 => some .sleep | 9 => some .mgmtReq | 10 => some .mgmtRsp | 11 => some .report
  | _ => none

/-- A frame without its computed parts: the length byte and the CRC-16 trailer follow from the rest. -/
structure Frame where
  /-- Byte 0. -/
  dest : Byte
  /-- Byte 1. -/
  source : Byte
  /-- Byte 2. -/
  kind : Kind
  /-- Byte 3. -/
  seq : Byte
  /-- Byte 5: status or flags, by kind. -/
  status : Byte
  /-- Bytes 6 on; at most 64 in any frame that is sent or accepted. -/
  payload : List Byte
  deriving DecidableEq, Repr

/-- One bit step of the CRC-16 register: polynomial 1021 hex, most significant bit first (R192). -/
def crc16Bit (r : BitVec 16) : BitVec 16 := if r.msb then (r <<< 1) ^^^ 0x1021#16 else r <<< 1

/-- One byte enters the CRC-16 register. -/
def crc16Byte (r : BitVec 16) (b : Byte) : BitVec 16 :=
  let r := r ^^^ (b.setWidth 16 <<< 8)
  crc16Bit (crc16Bit (crc16Bit (crc16Bit (crc16Bit (crc16Bit (crc16Bit (crc16Bit r)))))))

/-- The CRC-16 of R192: the register starts at FFFF hex and no final inversion is applied. -/
def crc16 (bs : List Byte) : BitVec 16 := bs.foldl crc16Byte 0xFFFF#16

/-- The bytes the CRC-16 covers: destination to last payload byte. -/
def Frame.body (f : Frame) : List Byte :=
  [f.dest, f.source, BitVec.ofNat 8 f.kind.code, f.seq, BitVec.ofNat 8 f.payload.length, f.status] ++ f.payload

/-- The frame as sent: the body and the CRC-16 computed afresh over it, high byte first (R192). -/
def Frame.bytes (f : Frame) : List Byte := f.body ++ be 2 (crc16 f.body).toNat

/-- The number of bytes on the wire: 8 + payload length (R1). -/
def Frame.size (f : Frame) : Nat := 8 + f.payload.length

/-- How long a frame holds its link, delimiters included: 4n + 8 µs (R1). -/
def Frame.wireTime (f : Frame) : Nat := 4 * f.size + 8

/-- The frame check of R2 and the frame it reads; none when any condition fails. -/
def parseFrame (bs : List Byte) : Option Frame :=
  match bs with
  | d :: s :: k :: q :: l :: st :: rest =>
    if bs.length < 8 ∨ 72 < bs.length ∨ 64 < l.toNat ∨ bs.length ≠ 8 + l.toNat then none
    else if be 2 (crc16 (bs.take (bs.length - 2))).toNat ≠ bs.drop (bs.length - 2) then none
    else
      match Kind.ofCode k with
      | none => none
      | some kind => some { dest := d, source := s, kind := kind, seq := q, status := st, payload := rest.take l.toNat }
  | _ => none

/-- What was received, checked: overruns and cut frames fail like a bad CRC (R2). -/
def checkReception : Reception → Option Frame
  | .frame bs => parseFrame bs
  | .overrun => none
  | .cut => none

/-- Where a north-in frame goes (R3). -/
inductive NorthSort where
  /-- The frame check failed. -/
  | checkFail
  /-- To the management engine. -/
  | request (f : Frame)
  /-- To the router, destination 1 to 30. -/
  | command (f : Frame)
  /-- To the router, destination 31. -/
  | broadcast (f : Frame)
  /-- Discarded for its kind or destination. -/
  | discard
  deriving DecidableEq, Repr

/-- The table of R3. A destination byte above 31 is no destination of section 11.1 and is discarded (log entry 13). -/
def sortNorth (r : Reception) : NorthSort :=
  match checkReception r with
  | none => .checkFail
  | some f =>
    match f.kind with
    | .mgmtReq => if f.dest = 0 then .request f else .discard
    | .command =>
      if f.dest = 31 then .broadcast f
      else if 1 ≤ f.dest.toNat ∧ f.dest.toNat ≤ 30 then .command f
      else .discard
    | _ => .discard

/-- Where a south-in frame goes (R5), with the sender's position. -/
inductive SouthSort where
  | checkFail
  /-- A COMMAND or MGMT_REQ for destination 0: a chain spoof. -/
  | spoof
  | response (p : Nat) (f : Frame)
  | sample (p : Nat) (f : Frame)
  | enumReply (p : Nat) (f : Frame)
  | discard
  deriving DecidableEq, Repr

/-- The table of R5. A destination byte above 31 is discarded like 1 to 31 (log entry 13). -/
def sortSouth (r : Reception) : SouthSort :=
  match checkReception r with
  | none => .checkFail
  | some f =>
    if f.dest ≠ 0 then .discard
    else
      let p := f.source.toNat
      let fromModule : Bool := decide (1 ≤ p) && decide (p ≤ 16)
      match f.kind with
      | .command => .spoof
      | .mgmtReq => .spoof
      | .response => if fromModule then .response p f else .discard
      | .sample => if fromModule then .sample p f else .discard
      | .enumReply => if fromModule then .enumReply p f else .discard
      | _ => .discard

end Sys2Proof.Machine
end

