-- ==== Sys2Proof/Machine/Tables.lean ====
section
/-!
DEFINITION. The fault classes and actions (R85, R92) and the tables in use: position map (chapter 2), pass table
(R23), schedule (R42, R43), limit sets (R68), interlock table (R92) and parameters (R102, R141), with the empty
tables of R163 and the look-ups the blocks make.
-/
namespace Sys2Proof.Machine

/-! ### Fault classes and actions -/

/-- The sixteen fault classes (R85). -/
inductive FaultClass where
  | cellOv | cellUv | cellOt | cellUt | packOc | sumMismatch | moduleLost | linkDown | moduleForeign | senseFault
  | tamper | hostSilent | chainSpoof | contactorFault | prechargeFail | configSwitch
  deriving DecidableEq, Repr

/-- The class number, 1 to 16 (R85). -/
def FaultClass.number : FaultClass → Nat
  | .cellOv => 1 | .cellUv => 2 | .cellOt => 3 | .cellUt => 4 | .packOc => 5 | .sumMismatch => 6
  | .moduleLost => 7 | .linkDown => 8 | .moduleForeign => 9 | .senseFault => 10 | .tamper => 11
  | .hostSilent => 12 | .chainSpoof => 13 | .contactorFault => 14 | .prechargeFail => 15 | .configSwitch => 16

/-- The classes in ascending number. -/
def FaultClass.all : List FaultClass :=
  [.cellOv, .cellUv, .cellOt, .cellUt, .packOc, .sumMismatch, .moduleLost, .linkDown, .moduleForeign, .senseFault,
   .tamper, .hostSilent, .chainSpoof, .contactorFault, .prechargeFail, .configSwitch]

/-- Classes 13 to 16 are event classes; the others are condition classes (R85). -/
def FaultClass.isEvent : FaultClass → Bool
  | .chainSpoof | .contactorFault | .prechargeFail | .configSwitch => true
  | .cellOv | .cellUv | .cellOt | .cellUt | .packOc | .sumMismatch | .moduleLost | .linkDown | .moduleForeign
  | .senseFault | .tamper | .hostSilent => false

/-- The classes whose objects the sample evaluator owns and returns to NORMAL (R79, R85). -/
def FaultClass.ofEvaluator : FaultClass → Bool
  | .cellOv | .cellUv | .cellOt | .cellUt | .packOc | .sumMismatch | .moduleLost | .senseFault => true
  | .linkDown | .moduleForeign | .tamper | .hostSilent | .chainSpoof | .contactorFault | .prechargeFail
  | .configSwitch => false

/-- The bit of a class in a class set. -/
def FaultClass.bit (k : FaultClass) : ClassSet := posBit k.number

/-- A class set names the class. -/
def hasClass (s : ClassSet) (k : FaultClass) : Bool := hasPos s k.number

/-- The six interlock actions, in ascending order (R92). -/
inductive Action where
  | none | report | blockClose | openSoft | openNow | lockout
  deriving DecidableEq, Repr

/-- The action's place in the order NONE < REPORT < … < LOCKOUT, which is also its code (R92, chapter 11). -/
def Action.code : Action → Nat
  | .none => 0 | .report => 1 | .blockClose => 2 | .openSoft => 3 | .openNow => 4 | .lockout => 5

/-- The action of a code; none above 5. -/
def Action.ofCode : Nat → Option Action
  | 0 => some .none | 1 => some .report | 2 => some .blockClose | 3 => some .openSoft | 4 => some .openNow
  | 5 => some .lockout | _ => Option.none

/-- The higher of two actions. -/
def Action.sup (a b : Action) : Action := if a.code < b.code then b else a

/-! ### The tables -/

/-- Module kinds (R8). -/
inductive ModuleKind where
  | cell | shunt
  deriving DecidableEq, Repr

/-- CELL 0, SHUNT 1 (chapter 11). -/
def ModuleKind.code : ModuleKind → Nat
  | .cell => 0 | .shunt => 1

/-- A position map entry (section 2.1, layout in section 11.6). The sixteen trims stand in channel order; in a SHUNT
entry the gain is the current gain and the first three trims are the current, pack-voltage and link-voltage offsets. -/
structure MapEntry where
  logical : Nat
  position : Nat
  kind : ModuleKind
  identity : BitVec 48
  cells : Nat
  temps : Nat
  gain : Int
  trims : List Int
  deriving DecidableEq, Repr

/-- The actions of the pass table (R23). -/
inductive PassAction where
  | pass | refuse | passWhenOpen | passWhenService
  deriving DecidableEq, Repr

/-- A pass table entry: key value, mask and action (R23). -/
structure PassEntry where
  key : BitVec 32
  mask : BitVec 32
  action : PassAction
  deriving DecidableEq, Repr

/-- Slot kinds (R43). -/
inductive SlotKind where
  | sweep | shunt
  deriving DecidableEq, Repr

/-- Summary modes (R43, R131). -/
inductive SummaryMode where
  | all | exceptions | none
  deriving DecidableEq, Repr

/-- A schedule slot (R43). -/
structure Slot where
  offset : Nat
  kind : SlotKind
  target : PosSet
  mask : Byte
  window : Nat
  sheddable : Bool
  patrol : Bool
  detail : Bool
  summary : SummaryMode
  deriving DecidableEq, Repr

/-- The schedule header (R42). -/
structure ScheduleHeader where
  cycleLength : Nat
  lead : Nat
  skewLimit : Nat
  missedLimit : Nat
  /-- Reading max age, in ms. -/
  maxAge : Nat
  highMark : Nat
  lowMark : Nat
  deriving DecidableEq, Repr

/-- A limit set (R68). -/
structure LimitSet where
  ut : Int
  uc : Int
  lt : Int
  lc : Int
  nt : Nat
  nc : Nat
  deriving DecidableEq, Repr

/-- An interlock table entry (R92). -/
structure InterlockEntry where
  action : Action
  latching : Bool
  wake : Bool
  deriving DecidableEq, Repr

/-- The power parameters (R141). -/
structure PowerParams where
  /-- Patrol period, in minutes. -/
  period : Nat
  /-- Patrol cycle count. -/
  cycles : Nat
  deriving DecidableEq, Repr

/-- The parameters record (section 11.6), times in the unit stated there. -/
structure Params where
  linkThreshold : Nat
  responseTimeout : Nat
  supervisionMs : Nat
  feedbackMs : Nat
  debounceMs : Nat
  prechargeRatio : Nat
  minPackVoltage : Nat
  prechargeMs : Nat
  prechargeCurrent : Nat
  breakCurrent : Nat
  softOpenMs : Nat
  power : Option PowerParams
  deriving DecidableEq, Repr

/-- The tables in use. -/
structure Tables where
  map : List MapEntry
  pass : List PassEntry
  passDefault : PassAction
  header : ScheduleHeader
  slots : List Slot
  /-- The twelve limit sets in the order of R69; none while the store has no tables. -/
  limits : Option (Vector LimitSet 12)
  /-- The sixteen entries of the interlock table in class order; none while no interlock table is in use (R96). -/
  interlock : Option (Vector InterlockEntry 16)
  params : Params
  deriving DecidableEq, Repr

/-- The schedule header while the store is LOADING or UNCONFIGURED (R42). -/
def ScheduleHeader.empty : ScheduleHeader :=
  { cycleLength := 10000, lead := 1000, skewLimit := 100, missedLimit := 15, maxAge := 100, highMark := 48, lowMark := 32 }

/-- The parameters while the store is LOADING or UNCONFIGURED (R6, R20, R98, R102). Those that R102 gives as "not
used" there stand at 0 (log entry 29). -/
def Params.empty : Params :=
  { linkThreshold := 8, responseTimeout := 65535, supervisionMs := 2550, feedbackMs := 200, debounceMs := 50,
    prechargeRatio := 0, minPackVoltage := 0, prechargeMs := 0, prechargeCurrent := 0, breakCurrent := 0,
    softOpenMs := 0, power := none }

/-- The empty tables (R163). -/
def Tables.empty : Tables :=
  { map := [], pass := [], passDefault := .refuse, header := .empty, slots := [], limits := none, interlock := none,
    params := .empty }

/-! ### Look-ups -/

/-- The map entry of a logical number (R21). -/
def Tables.byLogical (t : Tables) (l : Nat) : Option MapEntry := t.map.find? (fun e => e.logical == l)

/-- The map entry of a position. -/
def Tables.byPosition (t : Tables) (p : Nat) : Option MapEntry := t.map.find? (fun e => e.position == p)

/-- The positions the map gives as CELL. -/
def Tables.cellPositions (t : Tables) : List Nat := (t.map.filter (fun e => e.kind == .cell)).map (·.position)

/-- The SHUNT position of the map. -/
def Tables.shuntPosition (t : Tables) : Option Nat := (t.map.find? (fun e => e.kind == .shunt)).map (·.position)

/-- The channel numbers a map entry names, in ascending order (R62). -/
def MapEntry.channels (e : MapEntry) : List Nat :=
  match e.kind with
  | .cell => (List.range e.cells).map (· + 1) ++ (List.range e.temps).map (· + 13)
  | .shunt => [1, 2, 3]

/-- The trim of channel `n`, 0 where the entry holds none. -/
def MapEntry.trim (e : MapEntry) (n : Nat) : Int := e.trims.getD (n - 1) 0

/-- The interlock entry of a class; none while no interlock table is in use. -/
def Tables.entryOf (t : Tables) (k : FaultClass) : Option InterlockEntry :=
  match t.interlock with
  | none => none
  | some v => v[k.number - 1]?

/-- The class's action in the table in use. -/
def Tables.actionOf (t : Tables) (k : FaultClass) : Option Action := (t.entryOf k).map (·.action)

/-- The class's latching flag; clear while no interlock table is in use (R87, R96), and without effect for TAMPER and
the event classes (R88, R89). -/
def Tables.latches (t : Tables) (k : FaultClass) : Bool :=
  if k.isEvent ∨ k = .tamper then false
  else match t.entryOf k with
    | none => false
    | some e => e.latching

/-- The class's wake flag; clear while no interlock table is in use (R97). -/
def Tables.wakes (t : Tables) (k : FaultClass) : Bool :=
  match t.entryOf k with
  | none => false
  | some e => e.wake

/-- Limit set families, in the order of R68's table. -/
inductive LimitFamily where
  | cellVoltage | temperature | packCurrent | sumDeviation | senseFault | moduleLost
  deriving DecidableEq, Repr

/-- The family's place in R68's table, from 0. -/
def LimitFamily.index : LimitFamily → Nat
  | .cellVoltage => 0 | .temperature => 1 | .packCurrent => 2 | .sumDeviation => 3 | .senseFault => 4 | .moduleLost => 5

/-- The run kinds (R51). -/
inductive RunKind where
  | normal | patrol
  deriving DecidableEq, Repr

/-- The limit set of a family for a run kind: ACTIVE before PATROL for each family (R68, R69). -/
def Tables.limitSet (t : Tables) (f : LimitFamily) (r : RunKind) : Option LimitSet :=
  match t.limits with
  | none => none
  | some v => v[2 * f.index + (match r with | .normal => 0 | .patrol => 1)]?

end Sys2Proof.Machine
end

