-- ==== Sys2Proof/Machine/Types.lean ====
section
/-!
DEFINITION. The named states, records and queue entries of the eleven blocks, each with its code of chapter 11.
-/
namespace Sys2Proof.Machine

/-! ### Links -/

/-- South link states (section 1.3). -/
inductive LinkState where
  | off | waking | enumerating | up | down
  deriving DecidableEq, Repr

def LinkState.code : LinkState → Nat
  | .off => 0 | .waking => 1 | .enumerating => 2 | .up => 3 | .down => 4

/-- What the end of a frame on a wire means to a block (R1). -/
inductive WireTag where
  /-- Nothing. -/
  | plain
  /-- A tracked command: its record goes SENT at the end (R30). -/
  | tracked (seq : Byte)
  /-- The ENUM frame: the window opens at the end (R7). -/
  | enum
  /-- A SLEEP broadcast (R143, R155). -/
  | sleep
  deriving DecidableEq, Repr

/-- The frame a transmitter holds, from its start until its end has been taken and its gap has passed. -/
structure OnWire where
  frame : Frame
  start : Time
  tag : WireTag
  /-- The end event that a tag other than `plain` owes has been taken. -/
  endTaken : Bool
  deriving DecidableEq, Repr

/-- The moment the end delimiter has been sent (R1). -/
def OnWire.endTime (w : OnWire) : Time := later w.start w.frame.wireTime

/-- The end delimiter has been sent. -/
def OnWire.ended (now : Time) (w : OnWire) : Bool := atOrAfter now w.endTime

/-- The frame's end and the 4 µs gap are over and no end event is owed (R1). -/
def OnWire.released (now : Time) (w : OnWire) : Bool :=
  atOrAfter now (later w.endTime 4) && (decide (w.tag = .plain) || w.endTaken)

/-- The link is free (R1). -/
def linkFree (now : Time) : Option OnWire → Bool
  | none => true
  | some w => w.released now

/-- A stored enumeration reply (R8). -/
structure EnumReply where
  identity : BitVec 48
  kind : ModuleKind
  cells : Nat
  temps : Nat
  deriving DecidableEq, Repr

/-- A sampling frame waiting at the south transmit arbiter's first tier (R18). -/
inductive SamplingFrame where
  /-- SYNC carrying C_k (R47). -/
  | sync (time : Time)
  /-- TRIGGER of an open sweep (R49). -/
  | trigger (sweep : BitVec 16) (sampleTime : Time) (target : PosSet)
  deriving DecidableEq, Repr

/-! ### Router -/

/-- State of a tracker record; SENT carries its deadline (R28, R30). -/
inductive TxState where
  | queued
  | sent (deadline : Time)
  deriving DecidableEq, Repr

/-- A tracker record (R28). -/
structure TxRecord where
  seq : Byte
  logical : Nat
  position : Nat
  /-- The field R28 names "kind": the module command code. -/
  code : Byte
  state : TxState
  deriving DecidableEq, Repr

/-- A frame of the south queue; `tracked` is false for a broadcast (R36). -/
structure SouthEntry where
  frame : Frame
  tracked : Bool
  deriving DecidableEq, Repr

/-- A frame of the north forward queue: a refusal or a tracked outcome (R35). -/
structure ForwardEntry where
  frame : Frame
  refusal : Bool
  deriving DecidableEq, Repr

/-! ### Scheduler -/

/-- Schedule state (section 3.3). -/
inductive SchedState where
  | running | stopped
  deriving DecidableEq, Repr

/-- RUNNING 0, STOPPED 1: the order of R41's table (log entry 25). -/
def SchedState.code : SchedState → Nat
  | .running => 0 | .stopped => 1

/-- A run (R45, R58). -/
structure Run where
  kind : RunKind
  /-- T0 has come. It waits for the start of an old run's SYNC or TRIGGER (R45). -/
  begun : Bool
  /-- The cycle count k: C_k is the latest cycle start reached. -/
  cycle : Nat
  /-- C_k. -/
  cycleStart : Time
  /-- The slots whose launch time in this cycle has been taken. -/
  launched : List Nat
  /-- A patrol run's cycle count n, read when the run starts (R141). -/
  cycles : Nat
  /-- A patrol run has reached C_n: launching has ended (R58). -/
  launchEnded : Bool
  deriving DecidableEq, Repr

/-- A channel entry's status in a SAMPLE (R52). -/
inductive ChStatus where
  | ok | openWire | notConverted
  deriving DecidableEq, Repr

def ChStatus.code : ChStatus → Nat
  | .ok => 0 | .openWire => 1 | .notConverted => 2

/-- The buffer of one replied position (R51). -/
structure Buffer where
  position : Nat
  taken : Time
  channels : List (ChStatus × BitVec 24)
  deriving DecidableEq, Repr

/-- An open sweep (R51). -/
structure Sweep where
  number : BitVec 16
  slotIndex : Nat
  /-- The slot as it stood at launch. -/
  slot : Slot
  runKind : RunKind
  sampleTime : Time
  closeTime : Time
  target : PosSet
  replied : PosSet
  skewed : PosSet
  buffers : List Buffer
  deriving DecidableEq, Repr

/-! ### Evaluator -/

/-- The state of a channel (R61). -/
inductive TripState where
  | normal | trippedHigh | trippedLow
  deriving DecidableEq, Repr

/-- Pending direction in NORMAL (R61). -/
inductive Pending where
  | none | high | low
  deriving DecidableEq, Repr

/-- A channel state (R61). -/
structure ChanState where
  state : TripState
  counter : Nat
  pending : Pending
  deriving DecidableEq, Repr

/-- NORMAL, counter 0, pending NONE. -/
def ChanState.normal : ChanState := { state := .normal, counter := 0, pending := .none }

/-- A two-state object: a sense object or a module-lost object (R61). -/
structure ObjState where
  tripped : Bool
  counter : Nat
  deriving DecidableEq, Repr

/-- NORMAL, counter 0. -/
def ObjState.normal : ObjState := { tripped := false, counter := 0 }

/-- The shunt reading (R61, R76). -/
structure ShuntReading where
  current : Int
  packVoltage : Int
  linkVoltage : Int
  sampleTime : Time
  sweep : BitVec 16
  deriving DecidableEq, Repr

/-- Fault directions: HIGH 0, LOW 1, NONE 2 (chapter 11). -/
inductive Direction where
  | high | low | none
  deriving DecidableEq, Repr

def Direction.code : Direction → Nat
  | .high => 0 | .low => 1 | .none => 2

/-- A fault record's key: fault code (class and direction), position and channel (R80). -/
structure FaultKey where
  cls : FaultClass
  dir : Direction
  /-- 1 to 16, or 0 for a pack-level fault. -/
  position : Nat
  channel : Option Nat
  deriving DecidableEq, Repr

/-- A fault record (R80). -/
structure FaultRecord where
  key : FaultKey
  active : Bool
  first : Time
  last : Time
  trips : Nat
  worst : Option Int
  deriving DecidableEq, Repr

/-! ### Interlock unit -/

/-- A tripped object as the interlock unit counts it (R86). -/
structure FaultObject where
  cls : FaultClass
  position : Nat
  channel : Option Nat
  deriving DecidableEq, Repr

/-- When a change of class activity forms the effective action: at once (R94), or later in one step, as in a table
switch (R173). -/
inductive Forming where
  | now | later
  deriving DecidableEq, Repr

/-! ### Contactor sequencer -/

/-- Connection states (R101). -/
inductive ConnState where
  | opened | negClosing | precharging | mainClosing | closed | softOpening | opening | lockedOut
  deriving DecidableEq, Repr

def ConnState.code : ConnState → Nat
  | .opened => 0 | .negClosing => 1 | .precharging => 2 | .mainClosing => 3 | .closed => 4 | .softOpening => 5
  | .opening => 6 | .lockedOut => 7

/-- OPEN or LOCKED_OUT. -/
def ConnState.atRest : ConnState → Bool
  | .opened | .lockedOut => true
  | .negClosing | .precharging | .mainClosing | .closed | .softOpening | .opening => false

/-- A running feedback timer: its expiry and the driven value it waits for (R104). -/
structure FbTimer where
  expiry : Time
  target : Bool
  deriving DecidableEq, Repr

/-- The watch of a contactor (R105). -/
inductive Watch where
  | armed
  | timing (expiry : Time)
  | spent
  deriving DecidableEq, Repr

/-- What the sequencer keeps for one contactor (R101); a drive is true while driven closed. -/
structure ContactorState where
  drive : Bool := false
  timer : Option FbTimer := none
  watch : Watch := .armed
  deriving DecidableEq, Repr

/-- The cause of a contactor event (R121). -/
inductive Cause where
  | request
  | cls (k : FaultClass)
  | sleepFeedback
  deriving DecidableEq, Repr

/-- REQUEST 0, class 1 to 16, SLEEP_FEEDBACK 17 (section 11.4). -/
def Cause.code : Cause → Nat
  | .request => 0 | .cls k => k.number | .sleepFeedback => 17

/-- Contactor event kinds (R121). -/
inductive EventKind where
  | closeDone | openDone | openedUnderLoad | prechargeAbort | failClose | weld | feedbackLost | lockoutEnter | lockoutClear
  deriving DecidableEq, Repr

def EventKind.code : EventKind → Nat
  | .closeDone => 0 | .openDone => 1 | .openedUnderLoad => 2 | .prechargeAbort => 3 | .failClose => 4 | .weld => 5
  | .feedbackLost => 6 | .lockoutEnter => 7 | .lockoutClear => 8

/-- A contactor event record (R121). -/
structure EventRecord where
  number : BitVec 16
  time : Time
  kind : EventKind
  contactor : Option Contactor
  cause : Cause
  before : ConnState
  after : ConnState
  current : Option Int
  linkVoltage : Option Int
  deriving DecidableEq, Repr

/-! ### Report queue -/

/-- Report classes (R125). -/
inductive ReportClass where
  | sweep | priority
  deriving DecidableEq, Repr

/-- A queued report (R125). -/
structure QueuedReport where
  cls : ReportClass
  frame : Frame
  deriving DecidableEq, Repr

/-! ### Power controller -/

/-- Power states (R140). -/
inductive PowerState where
  | active | sleepEntry | deep | patrol
  deriving DecidableEq, Repr

def PowerState.code : PowerState → Nat
  | .active => 0 | .sleepEntry => 1 | .deep => 2 | .patrol => 3

/-- The entry step (R140). -/
inductive EntryStep where
  | none | step2 | step3 | step4 | step5 | running | returning
  deriving DecidableEq, Repr

/-- The wake causes (R140). -/
inductive WakeCause where
  | wakeLine | northActivity | tamper | feedback | patrolTimer | classActivated | linkFailed
  deriving DecidableEq, Repr

/-- The cause's bit in the wake cause set's byte (chapter 11, "Sets"). -/
def WakeCause.bit : WakeCause → Nat
  | .wakeLine => 0 | .northActivity => 1 | .tamper => 2 | .feedback => 3 | .patrolTimer => 4 | .classActivated => 5
  | .linkFailed => 6

/-- The MODEL's own: what the part did when it left DEEP, while no microsecond has passed since, so that a second source
"arrives together" with the first (R146; log entry 42). -/
inductive LeftDeep where
  /-- It has not just left DEEP. -/
  | no
  /-- It started a patrol. -/
  | patrol
  deriving DecidableEq, Repr

/-- One truth value for each contactor. -/
structure ContactorFlags where
  kPos : Bool := false
  kNeg : Bool := false
  kPre : Bool := false
  deriving DecidableEq, Repr

def ContactorFlags.get (f : ContactorFlags) : Contactor → Bool
  | .kPos => f.kPos | .kNeg => f.kNeg | .kPre => f.kPre

def ContactorFlags.set (f : ContactorFlags) (k : Contactor) (b : Bool) : ContactorFlags :=
  match k with
  | .kPos => { f with kPos := b }
  | .kNeg => { f with kNeg := b }
  | .kPre => { f with kPre := b }

/-! ### Table store -/

/-- Bank names. -/
inductive BankName where
  | a | b
  deriving DecidableEq, Repr

/-- A 0, B 1, none 2 (chapter 11). -/
def BankName.code : Option BankName → Nat
  | some .a => 0 | some .b => 1 | none => 2

/-- Bank states (R158). -/
inductive BankState where
  | active | retired | erased | written | staged
  deriving DecidableEq, Repr

def BankState.code : BankState → Nat
  | .active => 0 | .retired => 1 | .erased => 2 | .written => 3 | .staged => 4

/-- Store states (R158). -/
inductive StoreState where
  | loading | configured | unconfigured
  deriving DecidableEq, Repr

def StoreState.code : StoreState → Nat
  | .loading => 0 | .configured => 1 | .unconfigured => 2

/-- Update states (R158). -/
inductive UpdateState where
  | idle | ready | erasing | checking | commitPending | switching
  deriving DecidableEq, Repr

def UpdateState.code : UpdateState → Nat
  | .idle => 0 | .ready => 1 | .erasing => 2 | .checking => 3 | .commitPending => 4 | .switching => 5

/-- The service record (R160); its default is what a record never written, or failing its check, reads as. -/
structure ServiceRecord where
  active : Option BankName := none
  floor : Nat := 0
  tamper : Bool := false
  lockout : Bool := false
  deriving DecidableEq, Repr

/-- The record write state (R161). A write in progress carries the fields it is writing and its end. -/
inductive RecordWrite where
  | idle
  | inProgress (fields : ServiceRecord) (done : Time)
  | inProgressWaiting (fields : ServiceRecord) (done : Time)
  deriving DecidableEq, Repr

def RecordWrite.code : RecordWrite → Nat
  | .idle => 0 | .inProgress _ _ => 1 | .inProgressWaiting _ _ => 2

/-- How far a switch has come (R172). -/
inductive SwitchPhase where
  /-- No switch. -/
  | none
  /-- The switch's record write waits behind an earlier one. -/
  | waiting
  /-- The switch's record write is in progress. -/
  | writing
  /-- The load runs until the time given. -/
  | loading (done : Time)
  deriving DecidableEq, Repr

/-- End codes of a check (R138, R164), with table id and entry index for TABLE. -/
inductive EndCode where
  | staged | format | length | crc | versionLow
  | table (id index : Nat)
  deriving DecidableEq, Repr

def EndCode.code : EndCode → Nat
  | .staged => 0 | .format => 1 | .length => 2 | .crc => 3 | .versionLow => 4 | .table _ _ => 5

/-! ### Management engine -/

/-- The status codes of a response, from OK 0 to FEEDBACK 13 (section 10.2, section 11.1). -/
inductive Status where
  | ok | busy | state | badArgument | unknownRequest | unconfigured | updating | blocked | notActive | notErased
  | noService | tamper | tamperOpen | feedback
  deriving DecidableEq, Repr

def Status.code : Status → Nat
  | .ok => 0 | .busy => 1 | .state => 2 | .badArgument => 3 | .unknownRequest => 4 | .unconfigured => 5
  | .updating => 6 | .blocked => 7 | .notActive => 8 | .notErased => 9 | .noService => 10 | .tamper => 11
  | .tamperOpen => 12 | .feedback => 13

/-- The 25 requests (section 11.3). -/
inductive Request where
  | status | readCounters | readFaults | ackFaults | readEvents | connect | disconnect | disconnectNow | clearLockout
  | scheduleStart | scheduleStop | setTime | sleep | keepalive | updOpen | updErase | updWrite | updCheck | updCommit
  | updAbort | updStatus | readImage | clearTamper | resetSouth | restart
  deriving DecidableEq, Repr

/-- The requests in the order of their codes, which run from 1 (section 11.3). -/
def Request.all : List Request :=
  [.status, .readCounters, .readFaults, .ackFaults, .readEvents, .connect, .disconnect, .disconnectNow, .clearLockout,
   .scheduleStart, .scheduleStop, .setTime, .sleep, .keepalive, .updOpen, .updErase, .updWrite, .updCheck, .updCommit,
   .updAbort, .updStatus, .readImage, .clearTamper, .resetSouth, .restart]

/-- The request a code byte names; none for 0 and above 25. -/
def Request.ofCode (b : Byte) : Option Request := if b = 0 then none else Request.all[b.toNat - 1]?

/-- A response waiting for the north link; `restart` marks the OK response of a taken RESTART (R191). -/
structure Response where
  frame : Frame
  restart : Bool
  deriving DecidableEq, Repr

/-- A UPD_WRITE in programming (R169). -/
structure Programming where
  /-- The sequence number of the request, for its response. -/
  seq : Byte
  offset : Nat
  data : List Byte
  deriving DecidableEq, Repr

/-- A taken RESTART (R191). -/
inductive RestartState where
  | notTaken
  | taken
  /-- Its OK response started on the wire and ends at the time given. -/
  | answered (ends : Time)
  deriving DecidableEq, Repr

end Sys2Proof.Machine
end

