-- ==== Sys2Proof/Machine/Image.lean ====
section
/-!
DEFINITION. The image in a bank (section 11.6): its header and directory, the checks of R164, the full table
validation of R165 (with R43, R69, R93, R102, R141), and the tables it holds.
-/
namespace Sys2Proof.Machine

/-- A big-endian unsigned field of `n` bytes at address `a`. -/
def Memory.field (m : Memory) (a n : Nat) : Nat := ofBe (m.readAll a n)

/-- A big-endian signed field of `n` bytes at address `a`. -/
def Memory.fieldInt (m : Memory) (a n : Nat) : Int := signed n (m.field a n)

/-! ### Header and directory -/

/-- The image version, bytes 4 to 7. -/
def imageVersion (m : Memory) : Nat := m.field 4 4

/-- The total length, bytes 8 to 9. -/
def imageTotal (m : Memory) : Nat := m.field 8 2

/-- The directory's offset of a table id. -/
def tableOffset (m : Memory) (id : Nat) : Nat := m.field (10 + 3 * id) 2

/-- The directory's entry count of a table id. -/
def tableCount (m : Memory) (id : Nat) : Nat := m.field (12 + 3 * id) 1

/-- Header size of a table id: the pass table's default action and the schedule's header. -/
def tableHeader (id : Nat) : Nat := [0, 0, 1, 13, 0, 0].getD id 0

/-- Entry size of a table id. -/
def tableEntry (id : Nat) : Nat := [26, 45, 9, 12, 18, 2].getD id 0

/-- The address of entry `i` of a table. -/
def entryAddress (m : Memory) (id i : Nat) : Nat := tableOffset m id + tableHeader id + i * tableEntry id

/-- A table's extent, from its offset to the byte after its last entry. -/
def tableExtent (m : Memory) (id : Nat) : Nat × Nat :=
  (tableOffset m id, tableOffset m id + tableHeader id + tableCount m id * tableEntry id)

/-! ### Checks 1 to 3 of R164 -/

/-- Check 1: the format tag. -/
def formatOk (m : Memory) : Bool := m.readAll 0 4 == [0x4A#8, 0x43#8, 0x31#8, 0x36#8]

/-- Two extents share a byte. -/
def extentsOverlap (a b : Nat × Nat) : Bool := decide (max a.1 b.1 < min a.2 b.2)

/-- The table ids in directory order. -/
def tableIds : List Nat := [0, 1, 2, 3, 4, 5]

/-- Check 2: the total length and the six extents. -/
def lengthOk (m : Memory) : Bool :=
  decide (64 ≤ imageTotal m) && decide (imageTotal m ≤ bankSize) &&
  tableIds.all (fun id =>
    let x := tableExtent m id
    decide (28 ≤ x.1) && decide (x.2 ≤ imageTotal m - 4) &&
    tableIds.all (fun j => decide (j ≤ id) || !extentsOverlap x (tableExtent m j)))

/-- Check 3, which the load of a switch repeats (R172, R193): the CRC-32 over bytes 0 to total length − 5 equals the
trailer. -/
def crcOk (m : Memory) : Bool :=
  be 4 (crc32 (m.readAll 0 (imageTotal m - 4))).toNat == m.readAll (imageTotal m - 4) 4

/-! ### The tables as the bytes give them -/

/-- Kind of a map entry: CELL 0, SHUNT 1. Any other byte fails `mapEntryOk`, which reads the byte itself. -/
def moduleKindOf (n : Nat) : ModuleKind := if n = 0 then .cell else .shunt

/-- Position map entry `i`. -/
def mapEntryAt (m : Memory) (i : Nat) : MapEntry :=
  let a := entryAddress m 1 i
  { logical := m.field a 1, position := m.field (a + 1) 1, kind := moduleKindOf (m.field (a + 2) 1),
    identity := BitVec.ofNat 48 (m.field (a + 3) 6), cells := m.field (a + 9) 1, temps := m.field (a + 10) 1,
    gain := m.fieldInt (a + 11) 2, trims := (List.range 16).map (fun n => m.fieldInt (a + 13 + 2 * n) 2) }

/-- Pass table actions by code. -/
def passActionOf (n : Nat) : PassAction :=
  match n with
  | 0 => .pass | 1 => .refuse | 2 => .passWhenOpen | _ => .passWhenService

/-- Pass table entry `i`. -/
def passEntryAt (m : Memory) (i : Nat) : PassEntry :=
  let a := entryAddress m 2 i
  { key := BitVec.ofNat 32 (m.field a 4), mask := BitVec.ofNat 32 (m.field (a + 4) 4),
    action := passActionOf (m.field (a + 8) 1) }

/-- Summary modes by code. -/
def summaryModeOf (n : Nat) : SummaryMode :=
  match n with
  | 0 => .all | 1 => .exceptions | _ => .none

/-- The schedule header. -/
def scheduleHeaderOf (m : Memory) : ScheduleHeader :=
  let a := tableOffset m 3
  { cycleLength := m.field a 4, lead := m.field (a + 4) 2, skewLimit := m.field (a + 6) 2,
    missedLimit := m.field (a + 8) 1, maxAge := m.field (a + 9) 2, highMark := m.field (a + 11) 1,
    lowMark := m.field (a + 12) 1 }

/-- Schedule slot `i`. -/
def slotAt (m : Memory) (i : Nat) : Slot :=
  let a := entryAddress m 3 i
  let flags := BitVec.ofNat 8 (m.field (a + 10) 1)
  { offset := m.field a 4, kind := if m.field (a + 4) 1 = 0 then .sweep else .shunt,
    target := BitVec.ofNat 16 (m.field (a + 5) 2), mask := BitVec.ofNat 8 (m.field (a + 7) 1),
    window := m.field (a + 8) 2, sheddable := flags.getLsbD 0, patrol := flags.getLsbD 1, detail := flags.getLsbD 2,
    summary := summaryModeOf (m.field (a + 11) 1) }

/-- Limit set `i`. -/
def limitSetAt (m : Memory) (i : Nat) : LimitSet :=
  let a := entryAddress m 4 i
  { ut := m.fieldInt a 4, uc := m.fieldInt (a + 4) 4, lt := m.fieldInt (a + 8) 4, lc := m.fieldInt (a + 12) 4,
    nt := m.field (a + 16) 1, nc := m.field (a + 17) 1 }

/-- Interlock entry `i`. -/
def interlockEntryAt (m : Memory) (i : Nat) : InterlockEntry :=
  let a := entryAddress m 5 i
  let flags := BitVec.ofNat 8 (m.field (a + 1) 1)
  { action := (Action.ofCode (m.field a 1)).getD .none, latching := flags.getLsbD 0, wake := flags.getLsbD 1 }

/-- The parameters record. -/
def paramsOf (m : Memory) : Params :=
  let a := tableOffset m 0
  { linkThreshold := m.field a 1, responseTimeout := m.field (a + 1) 2, supervisionMs := m.field (a + 3) 2,
    feedbackMs := m.field (a + 5) 1, debounceMs := m.field (a + 6) 1, prechargeRatio := m.field (a + 7) 2,
    minPackVoltage := m.field (a + 9) 2, prechargeMs := m.field (a + 11) 2, prechargeCurrent := m.field (a + 13) 4,
    breakCurrent := m.field (a + 17) 4, softOpenMs := m.field (a + 21) 2,
    power := some { period := m.field (a + 23) 2, cycles := m.field (a + 25) 1 } }

/-- The position map of the image. -/
def mapOf (m : Memory) : List MapEntry := (List.range (tableCount m 1)).map (mapEntryAt m)

/-- The schedule slots of the image. -/
def slotsOf (m : Memory) : List Slot := (List.range (tableCount m 3)).map (slotAt m)

/-- The tables an image holds, as a load takes them into use. -/
def loadTables (m : Memory) : Tables :=
  { map := mapOf m,
    pass := (List.range (tableCount m 2)).map (passEntryAt m),
    passDefault := passActionOf (m.field (tableOffset m 2) 1),
    header := scheduleHeaderOf m,
    slots := slotsOf m,
    limits := some (Vector.ofFn (fun i : Fin 12 => limitSetAt m i)),
    interlock := some (Vector.ofFn (fun i : Fin 16 => interlockEntryAt m i)),
    params := paramsOf m }

/-! ### Full table validation (R165) -/

/-- Index FF hex: an entry count out of range, or a failing header field. -/
def headerIndex : Nat := 255

/-- The index of the first entry of `n` that fails. -/
def firstFailing (n : Nat) (ok : Nat → Bool) : Option Nat := (List.range n).find? (fun i => !ok i)

/-- `lo ≤ v ≤ hi` for an unsigned field. -/
def within (lo v hi : Nat) : Bool := decide (lo ≤ v) && decide (v ≤ hi)

/-- `lo ≤ v ≤ hi` for a signed field. -/
def withinInt (lo v hi : Int) : Bool := decide (lo ≤ v) && decide (v ≤ hi)

/-- The parameters in layout order, each with its range (R102, R141, R165). -/
def paramChecks (p : Params) : List Bool :=
  [within 1 p.linkThreshold 15, within 500 p.responseTimeout 65535,
   within 10 p.supervisionMs 2550 && decide (p.supervisionMs % 10 = 0), within 5 p.feedbackMs 200,
   within 1 p.debounceMs 50, within 800 p.prechargeRatio 990, within 1 p.minPackVoltage 65535,
   within 50 p.prechargeMs 10000, within 1 p.prechargeCurrent 500000, within 0 p.breakCurrent 500000,
   within 10 p.softOpenMs 5000,
   match p.power with | none => false | some q => within 1 q.period 1440,
   match p.power with | none => false | some q => within 1 q.cycles 15]

/-- The parameters table. -/
def validateParams (m : Memory) : Option Nat :=
  if tableCount m 0 ≠ 1 then some headerIndex
  else firstFailing 13 (fun i => (paramChecks (paramsOf m)).getD i true)

/-- The trims of an entry lie in range: cell offsets −512..511 and temperature offsets −128..127 (R64, R65) for a CELL
entry; for a SHUNT entry the current offset −32,768..32,767 and the two voltage offsets −128..127. R65 gives no range
for the link-voltage offset; that it has the pack-voltage offset's is the model's choice (DESIGN CHOICE, log entry 39).
-/
def trimsOk (e : MapEntry) : Bool :=
  withinInt (-2048) e.gain 2047 &&
  match e.kind with
  | .cell => (List.range 12).all (fun i => withinInt (-512) (e.trim (i + 1)) 511) &&
      (List.range 4).all (fun i => withinInt (-128) (e.trim (i + 13)) 127)
  | .shunt => withinInt (-32768) (e.trim 1) 32767 && withinInt (-128) (e.trim 2) 127 && withinInt (-128) (e.trim 3) 127

/-- The kind byte of map entry `i`, as the image holds it. -/
def mapKindByte (m : Memory) (i : Nat) : Nat := m.field (entryAddress m 1 i + 2) 1

/-- Map entry `i` passes. An entry that shares its logical number, its position or the SHUNT kind with another fails,
and so does the other (log entry 26). An entry whose kind byte is neither CELL nor SHUNT fails, and is no SHUNT entry.
-/
def mapEntryOk (m : Memory) (i : Nat) : Bool :=
  let e := mapEntryAt m i
  let others := (List.range (tableCount m 1)).filter (· ≠ i)
  within 1 e.logical 16 && within 1 e.position 16 && decide (mapKindByte m i ≤ 1) &&
  others.all (fun j =>
    decide ((mapEntryAt m j).logical ≠ e.logical) && decide ((mapEntryAt m j).position ≠ e.position)) &&
  (match e.kind with
   | .cell => within 0 e.cells 12 && within 0 e.temps 4
   | .shunt => decide (e.cells = 0) && decide (e.temps = 0) && others.all (fun j => decide (mapKindByte m j ≠ 1))) &&
  trimsOk e

/-- The position map. -/
def validateMap (m : Memory) : Option Nat :=
  if within 1 (tableCount m 1) 16 then
    match firstFailing (tableCount m 1) (mapEntryOk m) with
    | some i => some i
    | none => if (mapOf m).any (fun e => e.kind == .shunt) then none else some Config.noShuntIndex
  else some headerIndex

/-- The pass table. -/
def validatePass (m : Memory) : Option Nat :=
  if within 0 (tableCount m 2) 12 && decide (m.field (tableOffset m 2) 1 ≤ 3) then
    firstFailing (tableCount m 2) (fun i => decide (m.field (entryAddress m 2 i + 8) 1 ≤ 3))
  else some headerIndex

/-- The schedule header's fields lie in their ranges (R42). -/
def scheduleHeaderOk (h : ScheduleHeader) : Bool :=
  within 2000 h.cycleLength 1000000 && within 320 h.lead 5000 && within 1 h.skewLimit 500 &&
  within 1 h.missedLimit 15 && within 1 h.maxAge 1000 && within 8 h.highMark 56 && decide (h.lowMark < h.highMark)

/-- Two offsets differ by at least 320 µs. -/
def spaced (a b : Nat) : Bool := decide (a + 320 ≤ b) || decide (b + 320 ≤ a)

/-- The set of positions a map gives. -/
def mappedSet (map : List MapEntry) : PosSet := map.foldl (fun s e => addPos s e.position) 0

/-- Slot `i` passes the checks of R43, against this image's own position map (R165). -/
def slotOk (m : Memory) (i : Nat) : Bool :=
  let h := scheduleHeaderOf m
  let s := slotAt m i
  let a := entryAddress m 3 i
  let others := ((List.range (tableCount m 3)).filter (· ≠ i)).map (slotAt m)
  let shunts := (mapOf m).filter (fun e => e.kind == .shunt)
  decide (320 ≤ s.offset) && decide (s.offset + 320 ≤ h.cycleLength) &&
  decide (m.field (a + 4) 1 ≤ 1) && within 200 s.window 60000 && decide (m.field (a + 11) 1 ≤ 2) &&
  decide (s.target ≠ 0) && decide (s.target &&& ~~~ mappedSet (mapOf m) = 0) &&
  (match s.kind with | .sweep => true | .shunt => decide (s.target = mappedSet shunts)) &&
  others.all (fun o => spaced o.offset s.offset)

/-- The schedule. -/
def validateSchedule (m : Memory) : Option Nat :=
  if within 0 (tableCount m 3) 24 && scheduleHeaderOk (scheduleHeaderOf m) then
    firstFailing (tableCount m 3) (slotOk m)
  else some headerIndex

/-- Limit set `i` passes the checks of R69; sets stand in R68's class order, ACTIVE before PATROL. -/
def limitSetOk (i : Nat) (s : LimitSet) : Bool :=
  let ordered (lo hi : Int) : Bool :=
    withinInt lo s.ut hi && withinInt lo s.uc hi && withinInt lo s.lt hi && withinInt lo s.lc hi &&
    decide (s.lt ≤ s.lc) && decide (s.lc < s.uc) && decide (s.uc ≤ s.ut)
  let zero : Bool := decide (s.ut = 0) && decide (s.uc = 0) && decide (s.lt = 0) && decide (s.lc = 0)
  within 1 s.nt 15 && within 1 s.nc 15 &&
  match i / 2 with
  | 0 => ordered 0 65535
  | 1 => ordered (-550) 1550
  | 2 => ordered (-8388608) 8388607
  | 3 => decide (s.lt = 0) && decide (s.lc = 0) && decide (0 < s.uc) && decide (s.uc ≤ s.ut) && decide (s.ut ≤ 65535)
  | 4 => zero
  | _ => zero && decide (s.nt = 1) && decide (s.nc = 1)

/-- The limit sets. -/
def validateLimits (m : Memory) : Option Nat :=
  if tableCount m 4 ≠ 12 then some headerIndex
  else firstFailing 12 (fun i => limitSetOk i (limitSetAt m i))

/-- Interlock entry `i` (for class i + 1) passes the checks of R93. -/
def interlockEntryOk (m : Memory) (i : Nat) : Bool :=
  let a := m.field (entryAddress m 5 i) 1
  decide (a ≤ 5) &&
  match i + 1 with
  | 8 => decide (2 ≤ a)
  | 10 => decide (2 ≤ a)
  | 11 => decide (2 ≤ a)
  | 14 => decide (a = 5)
  | _ => true

/-- The interlock table. -/
def validateInterlock (m : Memory) : Option Nat :=
  if tableCount m 5 ≠ 16 then some headerIndex
  else firstFailing 16 (interlockEntryOk m)

/-- The full table validation in directory order: table id and entry index of the first failure (R165). -/
def validateTables (m : Memory) : Option (Nat × Nat) :=
  match validateParams m with
  | some i => some (0, i)
  | none =>
  match validateMap m with
  | some i => some (1, i)
  | none =>
  match validatePass m with
  | some i => some (2, i)
  | none =>
  match validateSchedule m with
  | some i => some (3, i)
  | none =>
  match validateLimits m with
  | some i => some (4, i)
  | none =>
  match validateInterlock m with
  | some i => some (5, i)
  | none => none

/-- The checks of R164 in order, with the version test that the caller asks for: above the floor at UPD_CHECK, equal
to it at boot. -/
def checkImage (m : Memory) (versionOk : Nat → Bool) : EndCode :=
  if !formatOk m then .format
  else if !lengthOk m then .length
  else if !crcOk m then .crc
  else if !versionOk (imageVersion m) then .versionLow
  else
    match validateTables m with
    | some (id, i) => .table id i
    | none => .staged

end Sys2Proof.Machine
end

