-- ==== Sys2Proof/Machine/State.lean ====
section
/-!
DEFINITION. The state of the C16, block by block as section "Block overview" names them, each field with the value it
takes after a reset as its default; and the queue of waiting commands. A time field is a pack time (R40).
-/
namespace Sys2Proof.Machine

/-- The discrete input lines (introduction, "Discrete lines"). A feedback is true while it reads closed. RESET_N is an
event (RESET_N) and holds no level here. The levels are the outside world's, so a reset leaves them. -/
structure Lines where
  wakeIn : Bool := false
  tamperIn : Bool := false
  serviceIn : Bool := false
  feedback : ContactorFlags := {}
  deriving DecidableEq, Repr

/-- North link interface (chapter 1). Running or watching follows the power state (R4), so it is no field. -/
structure North where
  /-- North CRC errors (R2). -/
  crcErrors : Nat := 0
  /-- The frame on north-out (R1). -/
  wire : Option OnWire := none
  deriving DecidableEq, Repr

/-- South link interface (section 1.3). -/
structure South where
  link : LinkState := .waking
  errorCount : Nat := 0
  goodRun : Nat := 0
  silentRun : Nat := 0
  /-- The retry timer's expiry, while it runs. -/
  retry : Option Time := none
  /-- Stored enumeration replies, one per position. -/
  replies : Vector (Option EnumReply) 16 := Vector.replicate 16 none
  /-- The close time of an open enumeration window (R8). -/
  window : Option Time := none
  /-- The positions whose foreign flag is set. -/
  foreign : PosSet := 0
  linkLost : Bool := false
  /-- South CRC errors. -/
  crcErrors : Nat := 0
  downEvents : Nat := 0
  retries : Nat := 0
  spoofs : Nat := 0
  /-- WAKE frames started in this bring-up (R7). -/
  wakesSent : Nat := 0
  /-- The ENUM frame of this bring-up has started. -/
  enumSent : Bool := false
  /-- When the next WAKE or the ENUM falls due (R7). -/
  bringAt : Option Time := none
  /-- A WAKE or ENUM has fallen due, at the time given, and waits for the arbiter (R18). -/
  bringDue : Option Time := some 0#32
  /-- SYNC and TRIGGER frames waiting for the arbiter (R18). -/
  sampling : List SamplingFrame := []
  /-- A SLEEP broadcast has fallen due, at the time given, and waits for the arbiter (R18, R143, R155). -/
  sleepDue : Option Time := none
  /-- The frame on south-out (R1). -/
  wire : Option OnWire := none
  deriving DecidableEq, Repr

/-- Frame router (section 2.1). -/
structure Router where
  tracker : List TxRecord := []
  southQueue : List SouthEntry := []
  forward : List ForwardEntry := []
  late : Nat := 0
  refusalsDiscarded : Nat := 0
  deriving DecidableEq, Repr

/-- Sweep scheduler (R60). -/
structure Scheduler where
  packTime : Time := 0
  state : SchedState := .stopped
  run : Option Run := none
  /-- The commit hold is set (R50). -/
  hold : Bool := false
  /-- The commit hold has taken effect (R50). -/
  holdInEffect : Bool := false
  nextSweep : BitVec 16 := 0
  /-- The sweep tracker, in launch order (R51). -/
  sweeps : List Sweep := []
  throttled : Bool := false
  slotMiss : Vector Nat 24 := Vector.replicate 24 0
  /-- Missed-reply counts (R54). -/
  missed : Vector Nat 16 := Vector.replicate 16 0
  lateSamples : Nat := 0
  unsolicited : Nat := 0
  duplicates : Nat := 0
  skewedSamples : Nat := 0
  missedSlots : Nat := 0
  shedSlots : Nat := 0
  deriving DecidableEq, Repr

/-- Sample evaluator (R61). -/
structure Evaluator where
  channels : Vector (Vector ChanState 16) 16 := Vector.replicate 16 (Vector.replicate 16 ChanState.normal)
  sum : ChanState := ChanState.normal
  sense : Vector ObjState 16 := Vector.replicate 16 ObjState.normal
  lost : Vector ObjState 16 := Vector.replicate 16 ObjState.normal
  shunt : Option ShuntReading := none
  records : List FaultRecord := []
  recordsLost : Nat := 0
  deriving DecidableEq, Repr

/-- Interlock unit (R100). The supervision timer runs from the reset with the 2,550 ms of R98. -/
structure Interlock where
  /-- The objects counted as tripped (R86). -/
  tripped : List FaultObject := []
  /-- The latches of classes 1 to 12 (R87). -/
  latches : ClassSet := 0
  /-- The active event classes (R88). -/
  events : ClassSet := 0
  effective : Action := .none
  faultOut : Bool := false
  /-- The supervision timer's expiry, while it runs (R98). -/
  supervision : Option Time := some 2550000#32
  /-- The silence condition (R99). -/
  silence : Bool := false
  deriving DecidableEq, Repr

/-- Contactor sequencer (R101). The lockout flag is the record copy's (R158). -/
structure Sequencer where
  conn : ConnState := .opened
  kPos : ContactorState := {}
  kNeg : ContactorState := {}
  kPre : ContactorState := {}
  /-- T_pc (R108). -/
  tPc : Option Time := none
  /-- The precharge limit timer's expiry, while it runs (R110). -/
  prechargeEnd : Option Time := none
  /-- T_so (R115). -/
  tSo : Option Time := none
  /-- The soft-open wait timer's expiry, while it runs (R115). -/
  softEnd : Option Time := none
  /-- The under-load reading: current and link voltage (R115). -/
  underLoad : Option (Int × Int) := none
  openingCause : Option Cause := none
  /-- Lockout pending, with its cause. -/
  pendingLockout : Option FaultClass := none
  events : List EventRecord := []
  nextEvent : BitVec 16 := 0
  overwritten : Nat := 0
  deriving DecidableEq, Repr

/-- Report queue (R125). The fill is the queue's length. -/
structure Reports where
  queue : List QueuedReport := []
  nextSeq : BitVec 8 := 0
  priorityLoss : Bool := false
  sweepDiscarded : Nat := 0
  priorityDiscarded : Nat := 0
  /-- The MODEL's own field: while a sweep closes, the reports that wait until its own reports have been made (R134; log
  entry 14); none between commands. -/
  held : Option (List (List Byte)) := none
  deriving DecidableEq, Repr

/-- Power controller (R140). -/
structure Power where
  state : PowerState := .active
  step : EntryStep := .none
  /-- The patrol timer's time left in µs, while it runs (R151, log entry 27). -/
  patrolTimer : Option Nat := none
  /-- The wake cause set, coded as on the wire. -/
  causes : BitVec 8 := 0
  openFeedback : ContactorFlags := {}
  closedFeedback : ContactorFlags := {}
  escalating : Option FaultClass := none
  patrols : Nat := 0
  hostWake : Bool := false
  /-- The SLEEP broadcast of this sleep entry, or of this patrol's return, has started (R145, R154). -/
  sleepSent : Bool := false
  /-- The MODEL's own field: the part has left DEEP at this moment (R146; log entry 42). -/
  leftDeep : LeftDeep := .no
  deriving DecidableEq, Repr

/-- One image bank (section 9.2): bytes in non-volatile memory, state in RAM (R158). -/
structure Bank where
  bytes : Memory := []
  state : BankState := .erased
  deriving DecidableEq, Repr

/-- Table store (R158). -/
structure Store where
  bankA : Bank := {}
  bankB : Bank := {}
  /-- The service record in non-volatile memory; none when it has never been written or fails its check (R160). -/
  record : Option ServiceRecord := none
  state : StoreState := .loading
  /-- The record copy. -/
  copy : ServiceRecord := {}
  /-- Boot step 1 has read the service record into the record copy (R162). -/
  recordRead : Bool := false
  write : RecordWrite := .idle
  update : UpdateState := .idle
  switch : SwitchPhase := .none
  staged : Option Nat := none
  versionInUse : Option Nat := none
  /-- When the erase in progress completes (R168). -/
  eraseEnd : Option Time := none
  /-- SERVICE_IN deasserted while an erase or a programming had to complete first (R176). -/
  abortPending : Bool := false
  /-- The tamper latch is to be set when the programming in progress has completed (R169, R177; log entry 48). -/
  tamperPending : Bool := false
  /-- The tables in use. -/
  tables : Tables := Tables.empty
  deriving DecidableEq, Repr

/-- Management engine (R185). -/
structure Management where
  requests : List Frame := []
  /-- The request being executed beyond its own step: a UPD_WRITE in programming. -/
  programming : Option Programming := none
  responses : List Response := []
  overflow : Nat := 0
  restart : RestartState := .notTaken
  deriving DecidableEq, Repr

/-- The part: its eleven blocks and lines. -/
structure Part where
  lines : Lines := {}
  north : North := {}
  /-- The kind/direction discards counter, which both link interfaces feed (R3, R5, R187). -/
  kindDiscards : Nat := 0
  south : South := {}
  router : Router := {}
  sched : Scheduler := {}
  eval : Evaluator := {}
  interlock : Interlock := {}
  seq : Sequencer := {}
  reports : Reports := {}
  power : Power := {}
  store : Store := {}
  mgmt : Management := {}
  /-- The MODEL's own field: how many free values have been used (log entry 11). -/
  freeIndex : Nat := 0
  deriving DecidableEq, Repr

/-- The machine's state: the part, and the commands that wait, first in first out. -/
structure State where
  part : Part
  pending : List Instr
  deriving DecidableEq, Repr

/-- Why the machine stops. -/
inductive Fault where
  /-- Raised by WRITE_PROGRAMMING_END when the bytes to program reach past the end of the bank, an address that does not
  exist. No run reaches it: UPD_WRITE answers BAD_ARGUMENT first (R169). Safe: the machine stops. -/
  | noSuchBankByte (address : Nat)
  deriving DecidableEq, Repr

/-- Why a command is refused. -/
inductive Refusal where
  /-- Raised by Machine/Dispatch.lean for a command without a meaning; no command is left so. Safe: nothing runs. -/
  | notModelled (mnemonic : String)
  deriving DecidableEq, Repr

/-- The machine right after the first reset of a part fresh from manufacture: banks blank, service record never
written (R160, R163), every other item at its reset value, and no command waiting (log entry 8). -/
def State.reset : State := { part := {}, pending := [] }

end Sys2Proof.Machine
end

