-- ==== Sys2Proof/Machine/Flags.lean ====
section
/-!
DEFINITION. The derived conditions of the state that rules test and the flags bytes report: class activity (R87 to
R89), the effective action (R94, R96), FAULT_OUT (R95), the throttle test (R57), the interface conditions (R4), the
engine's places (R181), and the flags bytes of chapter 11.
-/
namespace Sys2Proof.Machine

/-! ### Class activity and the effective action -/

/-- Some object of the class is tripped. -/
def Part.hasObject (c : Part) (k : FaultClass) : Bool := c.interlock.tripped.any (fun o => o.cls == k)

/-- The class is active: an event class until acknowledged (R88); TAMPER while the latch is set, its one object
(R89); LINK_DOWN never in DEEP (R89); any other condition class while an object is tripped or its latch set (R87). -/
def Part.classActive (c : Part) (k : FaultClass) : Bool :=
  if k.isEvent then hasClass c.interlock.events k
  else if k = .tamper then c.hasObject k
  else if k = .linkDown ∧ c.power.state = .deep then false
  else c.hasObject k || hasClass c.interlock.latches k

/-- The active classes in ascending number. -/
def Part.activeClasses (c : Part) : List FaultClass := FaultClass.all.filter c.classActive

/-- A class set from a list of classes. -/
def classSetOf (l : List FaultClass) : ClassSet := l.foldl (fun s k => s ||| k.bit) 0

/-- The class activity set of STATUS. -/
def Part.activitySet (c : Part) : ClassSet := classSetOf c.activeClasses

/-- The effective action: the highest action in the table in use among the active classes (R94); with no interlock
table, REPORT if any class is active (R96). -/
def Part.effectiveAction (c : Part) : Action :=
  match c.store.tables.interlock with
  | none => if c.activeClasses.isEmpty then .none else .report
  | some _ => c.activeClasses.foldl (fun a k => a.sup ((c.store.tables.actionOf k).getD .none)) .none

/-- The class an action is due to: the lowest-numbered active class whose action equals it (R113). -/
def Part.dueClass (c : Part) (a : Action) : Option FaultClass :=
  c.activeClasses.find? (fun k => c.store.tables.actionOf k == some a)

/-- FAULT_OUT's level (R95). -/
def Part.faultLevel (c : Part) : Bool :=
  decide (Action.openSoft.code ≤ c.interlock.effective.code) || decide (c.seq.conn = .lockedOut)

/-! ### Conditions of blocks -/

/-- The north link interface is running: ACTIVE, and SLEEP_ENTRY until step 6 (R4). -/
def Part.northRunning (c : Part) : Bool :=
  match c.power.state with
  | .active | .sleepEntry => true
  | .deep | .patrol => false

/-- The throttle state for a fill and the marks of a header (R57). -/
def throttleFor (h : ScheduleHeader) (fill : Nat) (old : Bool) : Bool :=
  if h.highMark ≤ fill then true else if fill ≤ h.lowMark then false else old

/-- The engine's places that are occupied (R181). -/
def Management.places (m : Management) : Nat :=
  m.requests.length + m.responses.length + (if m.programming.isSome then 1 else 0)

/-- The tracked load: tracker records and waiting tracked outcomes (R35). -/
def Router.trackedLoad (r : Router) : Nat := r.tracker.length + (r.forward.filter (fun e => !e.refusal)).length

/-- The refusals that wait in the north forward queue (R35). -/
def Router.refusals (r : Router) : Nat := (r.forward.filter (fun e => e.refusal)).length

/-- The target bank: the bank the record copy does not name as active, bank A while none is named (R158). -/
def Store.target (s : Store) : BankName :=
  match s.copy.active with
  | some .a => .b
  | some .b => .a
  | none => .a

/-- A bank by name. -/
def Store.bank (s : Store) : BankName → Bank
  | .a => s.bankA
  | .b => s.bankB

/-- The target bank itself. -/
def Store.targetBank (s : Store) : Bank := s.bank s.target

/-- The shunt reading is valid at `now`: its age is at most the reading max age in use (R77). The age is taken modulo
2^32, so a reading whose S is still ahead of now is not valid (DESIGN CHOICE, log entry 50). -/
def ShuntReading.valid (r : ShuntReading) (now : Time) (h : ScheduleHeader) : Bool :=
  decide ((now - r.sampleTime).toNat ≤ h.maxAge * 1000)

/-! ### Flags bytes (chapter 11) -/

/-- A flags byte from its bits, bit 0 first. -/
def flagsByte (bits : List Bool) : Byte :=
  BitVec.ofNat 8 ((bits.zipIdx.map (fun p => flag p.2 p.1)).foldl (· + ·) 0)

/-- STATUS flags A (section 11.3): the record copy's flags are clear and the floor absent until the service record has
been read (R186). -/
def Part.statusFlagsA (c : Part) : Byte :=
  flagsByte [c.sched.throttled, c.store.recordRead && c.store.copy.tamper, c.store.recordRead && c.store.copy.lockout,
    c.reports.priorityLoss, c.store.versionInUse.isSome, c.store.recordRead]

/-- STATUS flags B (section 11.3). -/
def Part.statusFlagsB (c : Part) : Byte :=
  flagsByte [c.lines.serviceIn, c.lines.wakeIn, c.lines.tamperIn, c.lines.feedback.kPos, c.lines.feedback.kNeg,
    c.lines.feedback.kPre]

/-- The flags of a fault record (section 11.4). -/
def FaultRecord.flags (r : FaultRecord) : Byte := flagsByte [!r.active, r.worst.isSome]

/-- The flags of an event record (section 11.4). -/
def EventRecord.flags (r : EventRecord) : Byte := flagsByte [r.current.isSome, r.linkVoltage.isSome]

/-- The flags of UPD_STATUS (section 11.3). -/
def Part.updateFlags (c : Part) : Byte :=
  flagsByte [c.store.staged.isSome, c.store.versionInUse.isSome, c.store.copy.tamper, c.lines.serviceIn, c.lines.tamperIn]

end Sys2Proof.Machine
end

