-- ==== Sys2Proof/Machine/Operands.lean ====
section
/-!
DEFINITION. What the part reads out of received payloads: the request code and arguments of a MGMT_REQ (R183, section
11.3), the frame key of a COMMAND (R22), the ENUM_REPLY (R8) and the SAMPLE (R52, section 11.2).
-/
namespace Sys2Proof.Machine

/-- Payload byte `i`, 0 where the payload is shorter. -/
def Frame.byte (f : Frame) (i : Nat) : Byte := f.payload.getD i 0

/-- The `n`-byte big-endian field at payload byte `i`. -/
def Frame.field (f : Frame) (i n : Nat) : Nat := ofBe ((f.payload.drop i).take n)

/-- The request a MGMT_REQ names; none for an empty payload or an unknown code (R183). -/
def Frame.request (f : Frame) : Option Request :=
  match f.payload with
  | [] => none
  | b :: _ => Request.ofCode b

/-- The payload length and the argument ranges that a request's own rule answers with BAD_ARGUMENT (R183): the length
for its arguments, READ_COUNTERS' clear byte (R187), READ_FAULTS' start index (R83), and the offset and count of
UPD_WRITE and READ_IMAGE (R169, R189). -/
def Frame.argumentsOk (f : Frame) (r : Request) : Bool :=
  let n := f.payload.length
  match r with
  | .readCounters => decide (n = 1) || (decide (n = 2) && decide ((f.byte 1).toNat ≤ 1))
  | .readFaults => decide (n = 2) && decide ((f.byte 1).toNat ≤ 31)
  | .ackFaults => decide (n = 3)
  | .setTime => decide (n = 5)
  | .updWrite =>
    let offset := f.field 1 2
    let count := f.field 3 1
    decide (4 ≤ n) && decide (offset ≤ 4095) && decide (1 ≤ count) && decide (count ≤ 48) &&
      decide (offset + count ≤ 4096) && decide (n = 4 + count)
  | .readImage =>
    let offset := f.field 1 2
    let count := f.field 3 1
    decide (n = 4) && decide (offset ≤ 4095) && decide (1 ≤ count) && decide (count ≤ 48) &&
      decide (offset + count ≤ 4096)
  | .status | .readEvents | .connect | .disconnect | .disconnectNow | .clearLockout | .scheduleStart | .scheduleStop
  | .sleep | .keepalive | .updOpen | .updErase | .updCheck | .updCommit | .updAbort | .updStatus | .clearTamper
  | .resetSouth | .restart => decide (n = 1)

/-- The frame key (R22): destination, kind, module command code and sub-address, absent payload bytes taken as 0. -/
def Frame.passKey (f : Frame) : BitVec 32 :=
  BitVec.ofNat 32 (ofBe [f.dest, BitVec.ofNat 8 f.kind.code, f.byte 0, f.byte 1])

/-- An entry matches a frame key: every key bit that the mask selects equals the entry's (R23). -/
def PassEntry.matchesKey (e : PassEntry) (key : BitVec 32) : Bool := decide (key &&& e.mask = e.key &&& e.mask)

/-- An ENUM_REPLY's payload: exactly 9 bytes, a known kind and counts in range; none otherwise (R8). -/
def parseEnumReply (payload : List Byte) : Option EnumReply :=
  if payload.length ≠ 9 then none
  else
    let kind := (payload.getD 6 0).toNat
    let cells := (payload.getD 7 0).toNat
    let temps := (payload.getD 8 0).toNat
    if 1 < kind ∨ 12 < cells ∨ 4 < temps then none
    else some { identity := BitVec.ofNat 48 (ofBe (payload.take 6)), kind := if kind = 0 then .cell else .shunt,
                cells := cells, temps := temps }

/-- What a well-formed SAMPLE carries (R52). -/
structure SampleData where
  sweep : BitVec 16
  taken : Time
  channels : List (ChStatus × BitVec 24)
  deriving DecidableEq, Repr

/-- The two status bits of channel entry `i` (from 0): entry 0 in bits 7–6 of the first status byte (section 11.2). -/
def sampleStatusBits (statuses : List Byte) (i : Nat) : Nat :=
  (statuses.getD (i / 4) 0).toNat / 2 ^ (6 - 2 * (i % 4)) % 4

/-- A channel status; none for the unknown code 3. -/
def ChStatus.ofCode : Nat → Option ChStatus
  | 0 => some .ok | 1 => some .openWire | 2 => some .notConverted | _ => none

/-- A SAMPLE's payload; none when its channel count exceeds 16, its length is not 11 + 3n, or a status is unknown
(R52). -/
def parseSample (payload : List Byte) : Option SampleData :=
  let n := (payload.getD 6 0).toNat
  if payload.length < 11 ∨ 16 < n ∨ payload.length ≠ 11 + 3 * n then none
  else
    let statuses := (payload.drop 7).take 4
    if (List.range n).any (fun i => (ChStatus.ofCode (sampleStatusBits statuses i)).isNone) then none
    else some { sweep := BitVec.ofNat 16 (ofBe (payload.take 2)), taken := BitVec.ofNat 32 (ofBe ((payload.drop 2).take 4)),
                channels := (List.range n).map (fun i =>
                  ((ChStatus.ofCode (sampleStatusBits statuses i)).getD .notConverted,
                   BitVec.ofNat 24 (ofBe ((payload.drop (11 + 3 * i)).take 3)))) }

end Sys2Proof.Machine
end

