-- ==== Sys2Proof/Machine/Layouts.lean ====
section
/-!
DEFINITION. The byte layouts of what the part sends (chapter 11): the frames it makes, records as returned, report
payloads and the return data of the requests.
-/
namespace Sys2Proof.Machine

/-- One byte from a small number. -/
def byte (n : Nat) : Byte := BitVec.ofNat 8 n

/-- A value that may be absent, sent as 0 when it is. -/
def beOpt (n : Nat) (v : Option Nat) : List Byte := be n (v.getD 0)

/-- A signed value that may be absent, sent as 0 when it is. -/
def beIntOpt (n : Nat) (v : Option Int) : List Byte := beInt n (v.getD 0)

/-! ### Frames the part makes -/

/-- SYNC: to 31 from 0, sequence 0, payload C_k (R47). -/
def syncFrame (t : Time) : Frame :=
  { dest := 31, source := 0, kind := .sync, seq := 0, status := 0, payload := be 4 t.toNat }

/-- TRIGGER: to 31 from 0, sequence the low eight bits of the sweep number; sweep number, S and target set (R49). -/
def triggerFrame (sweep : BitVec 16) (s : Time) (target : PosSet) : Frame :=
  { dest := 31, source := 0, kind := .trigger, seq := sweep.setWidth 8, status := 0,
    payload := be 2 sweep.toNat ++ be 4 s.toNat ++ be 2 target.toNat }

/-- The frame of a waiting sampling entry. -/
def SamplingFrame.frame : SamplingFrame → Frame
  | .sync t => syncFrame t
  | .trigger n s target => triggerFrame n s target

/-- WAKE: to 31 from 0, 64 bytes of 55 hex (R7, section 11.2). -/
def wakeFrame (seq : Byte) : Frame :=
  { dest := 31, source := 0, kind := .wake, seq := seq, status := 0, payload := List.replicate 64 0x55#8 }

/-- ENUM: to 31 from 0, empty payload (R7). -/
def enumFrame (seq : Byte) : Frame :=
  { dest := 31, source := 0, kind := .enum, seq := seq, status := 0, payload := [] }

/-- The SLEEP broadcast: to 31 from 0, empty payload (R143, R155). -/
def sleepFrame (seq : Byte) : Frame :=
  { dest := 31, source := 0, kind := .sleep, seq := seq, status := 0, payload := [] }

/-- A REPORT: to 0 from 0, with its report sequence number (R126). -/
def reportFrame (seq : Byte) (payload : List Byte) : Frame :=
  { dest := 0, source := 0, kind := .report, seq := seq, status := 0, payload := payload }

/-- A MGMT_RSP: to 0 from 0, with the request's sequence and code; return data follow the code byte (R184). -/
def responseFrame (req : Frame) (st : Status) (data : List Byte) : Frame :=
  { dest := 0, source := 0, kind := .mgmtRsp, seq := req.seq, status := byte st.code, payload := req.byte 0 :: data }

/-- The status a synthesized response carries (section 11.1). -/
inductive SynthStatus where
  | timeout | busy | refused | noRoute | seqClash | linkDown
  deriving DecidableEq, Repr

def SynthStatus.code : SynthStatus → Nat
  | .timeout => 1 | .busy => 2 | .refused => 3 | .noRoute => 4 | .seqClash => 5 | .linkDown => 6

/-- A synthesized RESPONSE: to 0, from the destination as received, bit 7 of the status byte set (R34). -/
def synthFrame (source seq : Byte) (st : SynthStatus) (payload : List Byte) : Frame :=
  { dest := 0, source := source, kind := .response, seq := seq, status := byte (128 + st.code), payload := payload }

/-! ### Records as returned (section 11.4) -/

/-- The channel or class byte of a value that may be absent: 0 when it is. -/
def optByte (v : Option Nat) : Byte := byte (v.getD 0)

/-- A fault record's 17 bytes. -/
def FaultRecord.bytes (r : FaultRecord) : List Byte :=
  [byte r.key.cls.number, byte r.key.dir.code, byte r.key.position, optByte r.key.channel, r.flags] ++
  be 4 r.first.toNat ++ be 4 r.last.toNat ++ [byte r.trips] ++ beIntOpt 3 r.worst

/-- A contactor's code in an event record: absent 0, K+ 1, K− 2, KP 3. -/
def contactorCode : Option Contactor → Nat
  | none => 0 | some .kPos => 1 | some .kNeg => 2 | some .kPre => 3

/-- An event record's 17 bytes. -/
def EventRecord.bytes (r : EventRecord) : List Byte :=
  be 2 r.number.toNat ++ be 4 r.time.toNat ++
  [byte r.kind.code, byte (contactorCode r.contactor), byte r.cause.code, byte r.before.code, byte r.after.code, r.flags] ++
  beIntOpt 3 r.current ++ beIntOpt 2 r.linkVoltage

/-! ### Report payloads (section 11.5), byte 0 the report kind -/

/-- What a FAULT report says happened (R135). -/
inductive FaultChange where
  | created | tripped | cleared
  deriving DecidableEq, Repr

def FaultChange.code : FaultChange → Nat
  | .created => 0 | .tripped => 1 | .cleared => 2

/-- FAULT (R135). -/
def faultPayload (change : FaultChange) (index : Nat) (r : FaultRecord) : List Byte :=
  [byte 2, byte change.code, byte index] ++ r.bytes

/-- EVENT (R136). -/
def eventPayload (r : EventRecord) (overwritten : Nat) : List Byte := [byte 3] ++ r.bytes ++ [byte overwritten]

/-- POWER (R137). -/
def powerPayload (left : PowerState) (causes : BitVec 8) (now : Time) (patrols : Nat) (cls : Option FaultClass) : List Byte :=
  [byte 4, byte left.code, causes] ++ be 4 now.toNat ++ be 2 patrols ++ [optByte (cls.map (·.number))]

/-- The outcome of an UPDATE report, with its further content (R138). -/
inductive UpdateOutcome where
  | erased
  | checked (code : EndCode) (version : Option Nat)
  | switched (version : Nat)
  | switchFailed
  | aborted (stateEnded : UpdateState)
  deriving DecidableEq, Repr

def UpdateOutcome.code : UpdateOutcome → Nat
  | .erased => 0 | .checked _ _ => 1 | .switched _ => 2 | .switchFailed => 3 | .aborted _ => 4

/-- The version an outcome carries. -/
def UpdateOutcome.version : UpdateOutcome → Option Nat
  | .checked _ v => v | .switched v => some v | .erased => none | .switchFailed => none | .aborted _ => none

/-- End code, table id, entry index and ended state of an outcome; 0 where it does not use them. -/
def UpdateOutcome.tail : UpdateOutcome → List Byte
  | .checked (.table id i) _ => [byte 5, byte id, byte i, 0]
  | .checked e _ => [byte e.code, 0, 0, 0]
  | .aborted s => [0, 0, 0, byte s.code]
  | .erased => [0, 0, 0, 0]
  | .switched _ => [0, 0, 0, 0]
  | .switchFailed => [0, 0, 0, 0]

/-- UPDATE, with the update state, store state and version floor after the outcome (R138). -/
def updatePayload (o : UpdateOutcome) (bank : BankName) (update : UpdateState) (store : StoreState) (floor : Nat) : List Byte :=
  [byte 5, byte o.code, byte (BankName.code (some bank)), byte update.code, byte store.code] ++ be 4 floor ++
  [flagsByte [o.version.isSome]] ++ beOpt 4 o.version ++ o.tail

/-- An extreme cell of a SUMMARY: value, position, channel. -/
structure CellValue where
  value : Int
  position : Nat
  channel : Nat
  deriving DecidableEq, Repr

/-- One channel of a replied position, with its corrected value when its status is OK (R75). -/
structure ChanValue where
  channel : Nat
  status : ChStatus
  value : Option Int
  deriving DecidableEq, Repr

/-- The channels of one replied position. -/
structure PositionValues where
  position : Nat
  channels : List ChanValue
  deriving DecidableEq, Repr

/-- The sweep results (R75). -/
structure SweepResults where
  minCell : Option CellValue := none
  maxCell : Option CellValue := none
  sum : Option Nat := none
  sumSkipped : Bool := false
  current : Option Int := none
  packVoltage : Option Int := none
  linkVoltage : Option Int := none
  trips : Nat := 0
  clears : Nat := 0
  values : List PositionValues := []
  deriving DecidableEq, Repr

/-- An extreme cell's four bytes; 0 when absent. -/
def cellBytes : Option CellValue → List Byte
  | none => [0, 0, 0, 0]
  | some v => beInt 2 v.value ++ [byte v.position, byte v.channel]

/-- SUMMARY (R132). -/
def summaryPayload (sw : Sweep) (foreign : PosSet) (r : SweepResults) : List Byte :=
  [byte 0] ++ be 2 sw.number.toNat ++ [byte sw.slotIndex] ++ be 4 sw.sampleTime.toNat ++
  be 2 sw.target.toNat ++ be 2 sw.replied.toNat ++ be 2 sw.skewed.toNat ++ be 2 foreign.toNat ++
  cellBytes r.minCell ++ cellBytes r.maxCell ++ beOpt 2 r.sum ++
  [flagsByte [r.minCell.isSome, r.maxCell.isSome, r.sum.isSome, r.sumSkipped, r.current.isSome, r.packVoltage.isSome,
    r.linkVoltage.isSome]] ++
  beIntOpt 3 r.current ++ beIntOpt 2 r.packVoltage ++ beIntOpt 2 r.linkVoltage ++
  [byte (min r.trips 255), byte (min r.clears 255)]

/-- A DETAIL channel entry: descriptor, then the value when the status is OK; 3 bytes for the pack current, 2 for any
other channel (section 11.5). -/
def detailEntry (kind : ModuleKind) (v : ChanValue) : List Byte :=
  [byte (64 * v.status.code + v.channel)] ++
  match v.value with
  | none => []
  | some x => if kind = .shunt ∧ v.channel = 1 then beInt 3 x else beInt 2 x

/-- DETAIL (R133). -/
def detailPayload (sw : Sweep) (e : MapEntry) (taken : Time) (v : PositionValues) : List Byte :=
  [byte 1] ++ be 2 sw.number.toNat ++ [byte sw.slotIndex] ++ be 4 sw.sampleTime.toNat ++
  [byte v.position, byte e.logical, flagsByte [decide (e.kind = .shunt), hasPos sw.skewed v.position]] ++
  be 4 taken.toNat ++ (v.channels.map (detailEntry e.kind)).flatten

/-! ### Return data (section 11.3) -/

/-- STATUS (R186): 27 bytes after the request code. -/
def Part.statusData (c : Part) : List Byte :=
  [byte c.power.state.code, byte c.seq.conn.code, byte c.store.state.code, byte c.store.update.code,
   byte c.sched.state.code, byte c.south.link.code, c.statusFlagsA, c.statusFlagsB] ++
  be 4 c.sched.packTime.toNat ++ [byte c.sched.sweeps.length, byte c.interlock.effective.code] ++
  be 2 c.activitySet.toNat ++ be 2 c.interlock.latches.toNat ++ [byte c.reports.queue.length] ++
  beOpt 4 c.store.versionInUse ++ be 4 (if c.store.recordRead then c.store.copy.floor else 0)

/-- The 19 16-bit counters in the table order of R187. -/
def Part.counters (c : Part) : List Nat :=
  [c.north.crcErrors, c.south.crcErrors, c.kindDiscards, c.south.downEvents, c.south.retries, c.router.late,
   c.sched.lateSamples, c.sched.unsolicited, c.sched.duplicates, c.sched.skewedSamples, c.sched.missedSlots,
   c.sched.shedSlots, c.router.refusalsDiscarded, c.reports.sweepDiscarded, c.reports.priorityDiscarded,
   c.eval.recordsLost, c.south.spoofs, c.mgmt.overflow, c.power.patrols]

/-- READ_COUNTERS: the counters, the overwrite counter and the 24 slot miss counts (R187). -/
def Part.countersData (c : Part) : List Byte :=
  (c.counters.map (be 2)).flatten ++ [byte c.seq.overwritten] ++ (c.sched.slotMiss.toList.map byte)

/-- READ_FAULTS: total, number returned, records (R83). -/
def faultsData (total : Nat) (rs : List FaultRecord) : List Byte :=
  [byte total, byte rs.length] ++ (rs.map FaultRecord.bytes).flatten

/-- READ_EVENTS: records in the queue, overwrite counter, number returned, records (R123). -/
def eventsData (total overwritten : Nat) (rs : List EventRecord) : List Byte :=
  [byte total, byte overwritten, byte rs.length] ++ (rs.map EventRecord.bytes).flatten

/-- ACK_FAULTS: activity set and latched set (R91). -/
def Part.ackData (c : Part) : List Byte := be 2 c.activitySet.toNat ++ be 2 c.interlock.latches.toNat

/-- KEEPALIVE: pack time and power state (R188). -/
def Part.keepaliveData (c : Part) : List Byte := be 4 c.sched.packTime.toNat ++ [byte c.power.state.code]

/-- UPD_OPEN: target bank, its bank state, staged version (R167). -/
def Part.openData (c : Part) : List Byte :=
  [byte (BankName.code (some c.store.target)), byte c.store.targetBank.state.code, flagsByte [c.store.staged.isSome]] ++
  beOpt 4 c.store.staged

/-- UPD_STATUS (R179). -/
def Part.updateData (c : Part) : List Byte :=
  [byte c.store.update.code, byte c.store.state.code, byte (BankName.code c.store.copy.active),
   byte (BankName.code (some c.store.target)), byte c.store.bankA.state.code, byte c.store.bankB.state.code, c.updateFlags] ++
  beOpt 4 c.store.staged ++ beOpt 4 c.store.versionInUse ++ be 4 c.store.copy.floor ++ [byte c.store.write.code]

end Sys2Proof.Machine
end

