-- ==== Sys2Proof/Machine/Ops.lean ====
section
/-!
DEFINITION. The operations several blocks share: the clock, report admission (R126, R127, R129), the fault record
list (R80 to R82), the contactor event queue (R122), requests for a service record write (R161), FAULT_OUT (R95) and
management responses (R184). The part has no exception entry: raising a flag or a line is an operation's effect.
-/
namespace Sys2Proof.Machine

/-- "Now": the pack time. -/
def Part.now (c : Part) : Time := c.sched.packTime

/-- The tables in use. -/
def Part.tables (c : Part) : Tables := c.store.tables

/-- One more free value used. -/
def Part.useFree (c : Part) : Part := { c with freeIndex := c.freeIndex + 1 }

/-! ### Reports -/

/-- The report queue hands its fill to the scheduler, which sets its throttle state (R57, R129). -/
def Part.handFill (c : Part) : Part :=
  { c with sched.throttled := throttleFor c.tables.header c.reports.queue.length c.sched.throttled }

/-- The report joins the queue's tail and the new fill is handed on (R127, R129). -/
def Part.admitReport (cls : ReportClass) (f : Frame) (c : Part) : Part :=
  Part.handFill { c with reports.queue := c.reports.queue ++ [{ cls := cls, frame := f }] }

/-- A report is made: it takes the next sequence number whether or not it is admitted (R126), and the queue admits or
discards it by its class and the fill (R127). -/
def Part.offerReport (cls : ReportClass) (payload : List Byte) (c : Part) : Part :=
  let f := reportFrame c.reports.nextSeq payload
  let c1 : Part := { c with reports.nextSeq := c.reports.nextSeq + 1 }
  match cls with
  | .sweep =>
    if c.reports.queue.length < 56 then c1.admitReport .sweep f
    else { c1 with reports.sweepDiscarded := bump16 c.reports.sweepDiscarded }
  | .priority =>
    if c.reports.queue.length < 64 then c1.admitReport .priority f
    else { c1 with reports.priorityDiscarded := bump16 c.reports.priorityDiscarded, reports.priorityLoss := true }

/-- A priority report of the sequencer's answer to a trip: while a sweep closes it waits until the close has made its
own reports (R134; log entry 14), and otherwise it is offered at once. -/
def Part.offerAnswer (payload : List Byte) (c : Part) : Part :=
  match c.reports.held with
  | none => c.offerReport .priority payload
  | some ps => { c with reports.held := some (ps ++ [payload]) }

/-- A sweep begins to close: the reports of the sequencer's answers wait (R134). -/
def Part.holdAnswers (c : Part) : Part := { c with reports.held := some [] }

/-- The close has made its reports, and those that waited are offered in the order in which they were made (R134). -/
def Part.releaseAnswers (c : Part) : Part :=
  ((c.reports.held).getD []).foldl (fun c payload => c.offerReport .priority payload) { c with reports.held := none }

/-! ### The fault record list -/

/-- The FAULT report of a class: that of PRECHARGE_FAIL belongs to the sequencer's answer, behind its EVENT report
(R110, R122), and every other is offered at once (R135). -/
def Part.offerFault (k : FaultClass) (payload : List Byte) (c : Part) : Part :=
  if k = .prechargeFail then c.offerAnswer payload else c.offerReport .priority payload

/-- The place of the record with a key (R80). -/
def recordIndex (rs : List FaultRecord) (k : FaultKey) : Option Nat := rs.findIdx? (fun r => r.key == k)

/-- The worse of two values for a direction: the higher for HIGH, the lower for LOW, none for NONE (R80). -/
def worseValue (d : Direction) (old new : Option Int) : Option Int :=
  match d, old, new with
  | .none, _, _ => none
  | _, none, n => n
  | _, o, none => o
  | .high, some o, some n => some (max o n)
  | .low, some o, some n => some (min o n)

/-- A trip of an existing record: ACTIVE, last time, trip count, worst value (R81). -/
def FaultRecord.retrip (r : FaultRecord) (t : Time) (v : Option Int) : FaultRecord :=
  { r with active := true, last := t, trips := bump8 r.trips, worst := worseValue r.key.dir r.worst v }

/-- A new record (R81). -/
def FaultRecord.create (k : FaultKey) (t : Time) (v : Option Int) : FaultRecord :=
  { key := k, active := true, first := t, last := t, trips := 1, worst := worseValue k.dir none v }

/-- A trip reaches the list: a record is created, or tripped again, with one FAULT report; or the list is full and
the trip is counted as lost (R81, R135). -/
def Part.recordTrip (k : FaultKey) (t : Time) (v : Option Int) (c : Part) : Part :=
  match recordIndex c.eval.records k with
  | some i =>
    match c.eval.records[i]? with
    | some r =>
      let r' := r.retrip t v
      Part.offerFault k.cls (faultPayload .tripped i r') { c with eval.records := c.eval.records.set i r' }
    | none => c
  | none =>
    if c.eval.records.length < 32 then
      let r := FaultRecord.create k t v
      Part.offerFault k.cls (faultPayload .created c.eval.records.length r)
        { c with eval.records := c.eval.records ++ [r] }
    else { c with eval.recordsLost := bump16 c.eval.recordsLost }

/-- A clear reaches the list: an ACTIVE record with the key goes CLEARED with one FAULT report (R82, R135). -/
def Part.recordClear (k : FaultKey) (t : Time) (c : Part) : Part :=
  match recordIndex c.eval.records k with
  | some i =>
    match c.eval.records[i]? with
    | some r =>
      if r.active then
        let r' : FaultRecord := { r with active := false, last := t }
        Part.offerFault k.cls (faultPayload .cleared i r') { c with eval.records := c.eval.records.set i r' }
      else c
    | none => c
  | none => c

/-- A value fed while the channel stays tripped is compared with the record's worst value; no report (R82). -/
def Part.recordOffer (k : FaultKey) (v : Int) (c : Part) : Part :=
  { c with eval.records := c.eval.records.map (fun r =>
      if r.key = k ∧ r.active then { r with worst := worseValue k.dir r.worst (some v) } else r) }

/-! ### The service record -/

/-- A service record write is asked for (R161): it begins at once with the record copy's fields as they stand, or
waits, or merges with the write that waits. A write takes 6 ms. -/
def Part.requestWrite (c : Part) : Part :=
  match c.store.write with
  | .idle => { c with store.write := .inProgress c.store.copy (later c.now 6000) }
  | .inProgress f d => { c with store.write := .inProgressWaiting f d }
  | .inProgressWaiting _ _ => c

/-! ### FAULT_OUT -/

/-- The interlock unit sets FAULT_OUT (R95). -/
def Part.driveFaultOut (c : Part) : Part := { c with interlock.faultOut := c.faultLevel }

/-! ### The contactor event queue -/

/-- A record is appended with the next event number; the oldest of 32 is overwritten; one EVENT report is made
(R122, R134, R136). -/
def Part.appendEvent (kind : EventKind) (k : Option Contactor) (cause : Cause) (before after : ConnState)
    (current linkVoltage : Option Int) (c : Part) : Part :=
  let r : EventRecord :=
    { number := c.seq.nextEvent, time := c.now, kind := kind, contactor := k, cause := cause, before := before,
      after := after, current := current, linkVoltage := linkVoltage }
  let full : Bool := decide (32 ≤ c.seq.events.length)
  let lost := if full then bump8 c.seq.overwritten else c.seq.overwritten
  let kept := if full then c.seq.events.drop 1 else c.seq.events
  Part.offerAnswer (eventPayload r lost)
    { c with seq.events := kept ++ [r], seq.nextEvent := c.seq.nextEvent + 1, seq.overwritten := lost }

/-- A record with the current and link voltage of the latest shunt reading, valid or not (R77, R121). -/
def Part.logEvent (kind : EventKind) (k : Option Contactor) (cause : Cause) (before after : ConnState) (c : Part) : Part :=
  c.appendEvent kind k cause before after (c.eval.shunt.map (·.current)) (c.eval.shunt.map (·.linkVoltage))

/-! ### Management responses -/

/-- The engine makes a response to a request (R184). -/
def Part.respond (req : Frame) (st : Status) (data : List Byte) (c : Part) : Part :=
  { c with mgmt.responses := c.mgmt.responses ++ [{ frame := responseFrame req st data, restart := false }] }

end Sys2Proof.Machine
end

