-- ==== Sys2Proof/Machine/Contactors.lean ====
section
/-!
DEFINITION. The contactor sequencer's own transitions (chapter 6): drives, checks and watches (R103 to R105), the
closing sequence (R108, R111), soft open (R115), opening (R116, R117), lockout (R118), aborts (R112) and the answer to
a new effective action (R113). Contactor faults (R106), which also reach the interlock unit, stand in Interlock.lean.
-/
namespace Sys2Proof.Machine

/-! ### One contactor -/

/-- What the sequencer keeps for a contactor. -/
def Sequencer.contactor (q : Sequencer) : Contactor → ContactorState
  | .kPos => q.kPos | .kNeg => q.kNeg | .kPre => q.kPre

/-- The sequencer with one contactor replaced. -/
def Sequencer.withContactor (q : Sequencer) (k : Contactor) (x : ContactorState) : Sequencer :=
  match k with
  | .kPos => { q with kPos := x }
  | .kNeg => { q with kNeg := x }
  | .kPre => { q with kPre := x }

/-- A contactor's auxiliary feedback reads closed. -/
def Part.feedback (c : Part) (k : Contactor) : Bool := c.lines.feedback.get k

/-- The part with one contactor replaced. -/
def Part.withContactor (c : Part) (k : Contactor) (x : ContactorState) : Part :=
  { c with seq := c.seq.withContactor k x }

/-- A drive is set. A change starts the contactor's feedback timer for the new value, unless the feedback already
reads it, when the check passes at the change itself; either way the watch is left ARMED (R104, R105). A drive that
already has the value is left as it is. -/
def Part.drive (k : Contactor) (v : Bool) (c : Part) : Part :=
  if (c.seq.contactor k).drive = v then c
  else c.withContactor k
    { drive := v, watch := .armed,
      timer := if c.feedback k = v then none
        else some { expiry := laterMs c.now c.tables.params.feedbackMs, target := v } }

/-- DRV_POS, then DRV_PRE, then DRV_NEG open, in one step: DRV_NEG never opens before DRV_POS (R103). -/
def Part.openDrives (c : Part) : Part := ((c.drive .kPos false).drive .kPre false).drive .kNeg false

/-- The watch of a contactor after a change of its feedback, its drive or its timer (R105). A contactor whose timer runs
is not settled and its watch stays; in DEEP the watch is held. -/
def Part.updateWatch (k : Contactor) (c : Part) : Part :=
  let x := c.seq.contactor k
  if c.power.state = .deep ∨ x.timer.isSome then c
  else
    let agrees : Bool := c.feedback k == x.drive
    match x.watch with
    | .armed =>
      if agrees then c
      else c.withContactor k { x with watch := .timing (laterMs c.now c.tables.params.debounceMs) }
    | .timing _ => if agrees then c.withContactor k { x with watch := .armed } else c
    | .spent => if agrees then c.withContactor k { x with watch := .armed } else c

/-- The three watches. -/
def Part.updateWatches (c : Part) : Part :=
  Part.updateWatch .kPre (Part.updateWatch .kNeg (Part.updateWatch .kPos c))

/-- The check of a contactor's last drive change has passed or failed: its timer is stopped (R104, "settled"). -/
def Part.settled (c : Part) (k : Contactor) : Bool := (c.seq.contactor k).timer.isNone

/-! ### Lockout (R118) -/

/-- Lockout pending is set with a cause, unless it is already set (R106). -/
def Part.setPending (k : FaultClass) (c : Part) : Part :=
  { c with seq.pendingLockout := match c.seq.pendingLockout with | none => some k | some p => some p }

/-- LOCKED_OUT is entered: drives open, lockout pending cleared, LOCKOUT_ENTER appended, the flag set in the record
copy and a write asked for, and the interlock unit told (R118). The record's state before is the state left (R121; log
entry 46). -/
def Part.enterLockedOut (before : ConnState) (c : Part) : Part :=
  let cause := c.seq.pendingLockout.getD .contactorFault
  let c1 := c.openDrives
  let c2 : Part := { c1 with seq.conn := .lockedOut, seq.pendingLockout := none }
  let c3 := c2.logEvent .lockoutEnter none (.cls cause) before .lockedOut
  let c4 : Part := { c3 with store.copy.lockout := true }
  c4.requestWrite.driveFaultOut

/-! ### Opening (R116, R117) -/

/-- The opening ends: OPEN, or LOCKED_OUT with lockout pending; the record of the opening; the references, the
under-load reading and the opening cause set absent (R117). -/
def Part.endOpening (c : Part) : Part :=
  let after : ConnState := if c.seq.pendingLockout.isSome then .lockedOut else .opened
  let cause := c.seq.openingCause.getD .request
  let c1 := c.openDrives
  let c2 : Part := { c1 with seq.conn := after, seq.tSo := none }
  let c3 :=
    match c.seq.underLoad with
    | some u => c2.appendEvent .openedUnderLoad none cause .opening after (some u.1) (some u.2)
    | none => c2.logEvent .openDone none cause .opening after
  let c4 : Part := { c3 with seq.underLoad := none, seq.openingCause := none }
  if c.seq.pendingLockout.isSome then c4.enterLockedOut .opening else c4

/-- OPENING goes on as far as the feedbacks allow (R116): once FB_POS reads open, DRV_NEG opens; once FB_NEG reads open
with DRV_NEG open, the opening ends. -/
def Part.advanceOpening (c : Part) : Part :=
  let c1 := if c.seq.conn = .opening ∧ c.feedback .kPos = false then c.drive .kNeg false else c
  if c1.seq.conn = .opening ∧ c1.seq.kNeg.drive = false ∧ c1.feedback .kNeg = false then c1.endOpening else c1

/-- OPENING is entered (R116): DRV_POS and DRV_PRE open, the two timers stop, T_pc is set absent. The opening cause of a
soft open is kept (R115). -/
def Part.enterOpening (cause : Cause) (c : Part) : Part :=
  let c1 := (c.drive .kPos false).drive .kPre false
  { c1 with
    seq.conn := .opening, seq.prechargeEnd := none, seq.softEnd := none, seq.tPc := none,
    seq.openingCause := if c.seq.conn = .softOpening then c.seq.openingCause else some cause }

/-- OPENING is entered and goes on at once. -/
def Part.startOpening (cause : Cause) (c : Part) : Part := (c.enterOpening cause).advanceOpening

/-- SOFT_OPENING is entered from CLOSED (R115). -/
def Part.enterSoftOpening (cause : Cause) (c : Part) : Part :=
  { c with
    seq.conn := .softOpening, seq.tSo := some c.now, seq.openingCause := some cause,
    seq.softEnd := some (laterMs c.now c.tables.params.softOpenMs) }

/-! ### Closing (R108, R111) -/

/-- CLOSED is entered: the timers stop, T_pc is set absent, CLOSE_DONE is appended (R111). -/
def Part.enterClosed (c : Part) : Part :=
  Part.logEvent .closeDone none .request .mainClosing .closed
    { c with seq.conn := .closed, seq.softEnd := none, seq.prechargeEnd := none, seq.tPc := none }

/-- MAIN_CLOSING goes on: the check of K+ has passed, so DRV_PRE opens; the check of KP has passed, so CLOSED is
entered (R111). -/
def Part.advanceMain (c : Part) : Part :=
  let c1 := if c.seq.conn = .mainClosing ∧ c.settled .kPos then c.drive .kPre false else c
  if c1.seq.conn = .mainClosing ∧ c1.settled .kPos ∧ c1.seq.kPre.drive = false ∧ c1.settled .kPre then c1.enterClosed
  else c1

/-- MAIN_CLOSING is entered: the precharge limit timer stops and DRV_POS closes (R109, R111). -/
def Part.enterMain (c : Part) : Part :=
  let c1 : Part := { c with seq.conn := .mainClosing, seq.prechargeEnd := none }
  (c1.drive .kPos true).advanceMain

/-- PRECHARGING is entered: T_pc is now and the precharge limit timer starts (R108, R110). -/
def Part.enterPrecharging (c : Part) : Part :=
  { c with
    seq.conn := .precharging, seq.tPc := some c.now,
    seq.prechargeEnd := some (laterMs c.now c.tables.params.prechargeMs) }

/-- NEG_CLOSING goes on: the check of K− has passed, so DRV_PRE closes; the check of KP has passed, so PRECHARGING is
entered (R108). -/
def Part.advanceNeg (c : Part) : Part :=
  let c1 := if c.seq.conn = .negClosing ∧ c.settled .kNeg then c.drive .kPre true else c
  if c1.seq.conn = .negClosing ∧ c1.settled .kNeg ∧ c1.seq.kPre.drive = true ∧ c1.settled .kPre then c1.enterPrecharging
  else c1

/-- NEG_CLOSING is entered: DRV_NEG closes (R107, R108). -/
def Part.enterNeg (c : Part) : Part :=
  let c1 : Part := { c with seq.conn := .negClosing }
  (c1.drive .kNeg true).advanceNeg

/-- The step that waits for a check goes on, by connection state (R104). -/
def Part.advance (c : Part) : Part :=
  match c.seq.conn with
  | .negClosing => c.advanceNeg
  | .mainClosing => c.advanceMain
  | .opening => c.advanceOpening
  | .opened | .precharging | .closed | .softOpening | .lockedOut => c

/-! ### Aborts and orders (R112 to R114) -/

/-- A close is aborted from NEG_CLOSING or PRECHARGING: OPEN at once, with a PRECHARGE_ABORT (R112). -/
def Part.abortToOpen (cause : Cause) (c : Part) : Part :=
  let c1 := c.openDrives
  let c2 : Part := { c1 with seq.conn := .opened, seq.prechargeEnd := none, seq.tPc := none }
  c2.logEvent .prechargeAbort none cause c.seq.conn .opened

/-- The sequencer takes a new effective action (R113). LOCKOUT sets lockout pending with the class that it is due to,
whatever cause stood there (log entry 18). An abort to OPEN by LOCKOUT is two transitions with a record
each, the PRECHARGE_ABORT to OPEN and the LOCKOUT_ENTER from OPEN: R121 leaves the state between them open (DESIGN
CHOICE, log entry 46). -/
def Part.takeAction (a : Action) (c : Part) : Part :=
  let due := (c.dueClass a).getD .contactorFault
  if a.code < Action.blockClose.code then c
  else
    let c1 : Part := if a = .lockout ∧ c.seq.conn ≠ .lockedOut then { c with seq.pendingLockout := some due } else c
    match c.seq.conn with
    | .opened => if a = .lockout then c1.enterLockedOut .opened else c1
    | .negClosing | .precharging =>
      let c2 := c1.abortToOpen (.cls due)
      if a = .lockout then c2.enterLockedOut .opened else c2
    | .mainClosing => c1.startOpening (.cls due)
    | .closed =>
      match a with
      | .openSoft => c1.enterSoftOpening (.cls due)
      | .openNow | .lockout => c1.startOpening (.cls due)
      | .none | .report | .blockClose => c1
    | .softOpening =>
      match a with
      | .openNow | .lockout => c1.startOpening (.cls due)
      | .none | .report | .blockClose | .openSoft => c1
    | .opening | .lockedOut => c1

/-- DISCONNECT (R114). -/
def Part.softDisconnect (c : Part) : Part :=
  match c.seq.conn with
  | .negClosing | .precharging => c.abortToOpen .request
  | .mainClosing => c.startOpening .request
  | .closed => c.enterSoftOpening .request
  | .opened | .lockedOut | .softOpening | .opening => c

/-- DISCONNECT_NOW (R114). -/
def Part.hardDisconnect (c : Part) : Part :=
  match c.seq.conn with
  | .negClosing | .precharging => c.abortToOpen .request
  | .mainClosing | .closed | .softOpening => c.startOpening .request
  | .opened | .lockedOut | .opening => c

end Sys2Proof.Machine
end

