-- ==== Sys2Proof/Machine/Runs.lean ====
section
/-!
DEFINITION. Runs, due SYNC frames, the commit hold and aborted sweeps (R45 to R50, R56), and the south link's entry to
WAKING (R7, R16): what the blocks above call without reaching the interlock unit.
-/
namespace Sys2Proof.Machine

/-! ### Runs -/

/-- A SYNC falls due: it waits at the south arbiter if the link is UP, and is discarded otherwise (R18, R47). -/
def Part.syncDue (t : Time) (c : Part) : Part :=
  if c.south.link = .up then { c with south.sampling := c.south.sampling ++ [.sync t] } else c

/-- A supercycle start of a normal or patrol run: the commit hold takes effect if it is set, and otherwise a SYNC falls
due (R47, R50). -/
def Part.supercycle (t : Time) (c : Part) : Part :=
  if c.sched.hold then { c with sched.holdInEffect := true } else c.syncDue t

/-- A run begins at T0 = now, which is its supercycle start C_0 (R45). -/
def Part.beginRun (r : Run) (c : Part) : Part :=
  Part.supercycle c.now
    { c with sched.run := some { r with begun := true, cycle := 0, cycleStart := c.now, launched := [] } }

/-- A run starts and replaces any run there is. It begins at once, unless a SYNC or TRIGGER still waits for the south
link: then T0 is the moment that frame starts (R45). The hold is set for a run that starts during COMMIT_PENDING or
SWITCHING, and clear for the others (R171). -/
def Part.startRun (kind : RunKind) (hold : Bool) (c : Part) : Part :=
  let r : Run :=
    { kind := kind, begun := false, cycle := 0, cycleStart := c.now, launched := [],
      cycles := (match c.tables.params.power with | none => 0 | some p => p.cycles), launchEnded := false }
  let c1 : Part := { c with sched.run := some r, sched.hold := hold, sched.holdInEffect := false }
  if c1.south.sampling.isEmpty then c1.beginRun r else c1

/-- The update state sets the commit hold of a run that starts now (R171). -/
def Part.holdForNewRun (c : Part) : Bool :=
  match c.store.update with
  | .commitPending | .switching => true
  | .idle | .ready | .erasing | .checking => false

/-- A normal run starts if the schedule state is RUNNING (R45). -/
def Part.startNormalRun (hold : Bool) (c : Part) : Part :=
  if c.sched.state = .running then c.startRun .normal hold else c

/-- A run that waited for the frames of the old run begins once none is left (R45; log entry 21). -/
def Part.settleRun (c : Part) : Part :=
  match c.sched.run with
  | none => c
  | some r => if r.begun = false ∧ c.south.sampling.isEmpty then c.beginRun r else c

/-- The run ends; the commit hold goes with it. -/
def Part.endRun (c : Part) : Part := { c with sched.run := none, sched.hold := false, sched.holdInEffect := false }

/-- The normal run ends (R45, R46). -/
def Part.endNormalRun (c : Part) : Part :=
  match c.sched.run with
  | none => c
  | some r => if r.kind = .normal then c.endRun else c

/-- A normal run exists. -/
def Part.normalRun (c : Part) : Bool :=
  match c.sched.run with
  | none => false
  | some r => decide (r.kind = .normal)

/-- The commit hold is cleared by an abort of the update: a hold that had not taken effect leaves the run going, and one
that had starts a new normal run if the schedule is RUNNING (R50). -/
def Part.releaseHold (c : Part) : Part :=
  let c1 : Part := { c with sched.hold := false, sched.holdInEffect := false }
  if c.sched.holdInEffect then c1.startNormalRun false else c1

/-! ### Aborted sweeps -/

/-- A waiting frame is the TRIGGER of the sweep. -/
def SamplingFrame.triggers (n : BitVec 16) : SamplingFrame → Bool
  | .sync _ => false
  | .trigger m _ _ => m == n

/-- Every open sweep that satisfies `p` is closed as ABORTED, unevaluated, and its waiting TRIGGER is withdrawn (R56).
-/
def Part.abortSweeps (p : Sweep → Bool) (c : Part) : Part :=
  let gone := (c.sched.sweeps.filter p).map (·.number)
  Part.settleRun
    { c with
      sched.sweeps := c.sched.sweeps.filter (fun w => !p w),
      south.sampling := c.south.sampling.filter (fun f => !(gone.any (fun n => f.triggers n))) }

/-- The link leaves UP: SYNC and TRIGGER frames that wait are discarded, and a sweep whose TRIGGER is discarded is
closed as ABORTED (R18, R49). -/
def Part.dropSampling (c : Part) : Part :=
  let c1 := c.abortSweeps (fun w => c.south.sampling.any (fun f => f.triggers w.number))
  Part.settleRun { c1 with south.sampling := [] }

/-! ### Bring-up -/

/-- The south link goes to WAKING from whatever state it is in: an open window is abandoned, a running retry timer is
stopped, and the first WAKE falls due (R7, R16). -/
def Part.enterWaking (c : Part) : Part :=
  Part.dropSampling
    { c with
      south.link := .waking, south.retry := none, south.window := none, south.wakesSent := 0, south.enumSent := false,
      south.bringAt := none, south.bringDue := some c.now }

/-! ### Supervision timer and HOST_WAKE -/

/-- The supervision timer restarts with the period in use (R98). -/
def Part.restartSupervision (c : Part) : Part :=
  { c with interlock.supervision := some (laterMs c.now c.tables.params.supervisionMs) }

/-- A cause joins the wake cause set (R149). -/
def Part.addCause (w : WakeCause) (c : Part) : Part :=
  { c with power.causes := c.power.causes ||| BitVec.twoPow 8 w.bit }

/-- The set holds a cause. -/
def Part.hasCause (c : Part) (w : WakeCause) : Bool := c.power.causes.getLsbD w.bit

/-- The POWER report of a return to ACTIVE, with HOST_WAKE by R150 when `escalated` or the set holds TAMPER or FEEDBACK;
the set is emptied and the escalating class set absent (R137, R149, R150). -/
def Part.powerReport (left : PowerState) (escalated : Bool) (c : Part) : Part :=
  let wake := escalated || c.hasCause .tamper || c.hasCause .feedback
  let c1 := c.offerReport .priority (powerPayload left c.power.causes c.now c.power.patrols c.power.escalating)
  { c1 with
    power.causes := 0, power.escalating := none, power.hostWake := if wake then true else c1.power.hostWake }

/-! ### Returns to ACTIVE that reach no fault class (R145, R154) -/

/-- Sleep entry is abandoned (R145): a waiting SLEEP broadcast is withdrawn, the south link goes to WAKING, the
supervision timer restarts and the POWER report is made. -/
def Part.abandonEntry (w : WakeCause) (c : Part) : Part :=
  let c1 := c.addCause w
  let c2 : Part := { c1 with power.state := .active, power.step := .none, power.sleepSent := false, south.sleepDue := none }
  let c3 := c2.restartSupervision
  let c4 := c3.enterWaking
  c4.powerReport .sleepEntry false

/-- A patrol escalates (R154): open patrol sweeps are aborted and the patrol run ends; ACTIVE, with the supervision
timer restarted; the south link goes to WAKING if the return's SLEEP broadcast has started, and otherwise a waiting
broadcast is withdrawn; the POWER report is made with HOST_WAKE asserted; a normal run starts at once if RUNNING. -/
def Part.escalate (w : WakeCause) (cls : Option FaultClass) (c : Part) : Part :=
  let c1 := c.addCause w
  let c2 : Part := { c1 with power.escalating := cls, sched.run := none }
  let c3 := c2.abortSweeps (fun s => decide (s.runKind = .patrol))
  let returning := decide (c.power.step = .returning) && c.power.sleepSent
  let c4 : Part := { c3 with power.state := .active, power.step := .none, power.sleepSent := false }
  let c5 := c4.restartSupervision
  let c6 := if returning then c5.enterWaking else { c5 with south.sleepDue := none }
  let c7 := c6.powerReport .patrol true
  c7.startNormalRun c7.holdForNewRun

end Sys2Proof.Machine
end

