-- ==== Sys2Proof/Machine/Interlock.lean ====
section
/-!
DEFINITION. The interlock unit (chapter 5): the effective action and its hand-over (R94, R95), trips and clears of
objects with latches (R86, R87), event classes (R88), activation notices (R97), acknowledgement (R91), and the
contactor faults and precharge failures that the sequencer hands it (R106, R110).
-/
namespace Sys2Proof.Machine

/-! ### The effective action -/

/-- The effective action is formed afresh; a new value goes to the sequencer, and FAULT_OUT follows (R94, R95). -/
def Part.refreshAction (c : Part) : Part :=
  let a := c.effectiveAction
  if a = c.interlock.effective then c.driveFaultOut
  else (Part.takeAction a { c with interlock.effective := a }).driveFaultOut

/-- The effective action after a change of class activity: formed afresh at once (R94), or left to step 4 of a table
switch (R173). -/
def Part.formAction (f : Forming) (c : Part) : Part :=
  match f with
  | .now => c.refreshAction
  | .later => c

/-- An activation notice reaches the power controller: in PATROL a class whose wake flag is set escalates the patrol,
and in the other power states the notice does nothing (R97, R153). -/
def Part.notice (k : FaultClass) (c : Part) : Part :=
  if c.power.state = .patrol ∧ c.tables.wakes k then c.escalate .classActivated (some k) else c

/-! ### Trips, clears and events -/

/-- A trip of an object without its activation notice: it is counted, the latch is set if the class latches, and the
effective action follows as `f` says (R86, R87). -/
def Part.countTrip (o : FaultObject) (c : Part) (f : Forming := .now) : Part :=
  if c.interlock.tripped.contains o then c
  else
    Part.formAction f
      { c with
        interlock.tripped := c.interlock.tripped ++ [o],
        interlock.latches := if c.tables.latches o.cls then c.interlock.latches ||| o.cls.bit else c.interlock.latches }

/-- A trip of an object; a class that it takes from inactive to active is activated (R86, R97; log entry 15). -/
def Part.tripObject (o : FaultObject) (c : Part) (f : Forming := .now) : Part :=
  if c.interlock.tripped.contains o ∨ c.classActive o.cls then c.countTrip o f else (c.countTrip o f).notice o.cls

/-- A clear of an object; one that is not counted as tripped changes nothing (R86). -/
def Part.clearObject (o : FaultObject) (c : Part) (f : Forming := .now) : Part :=
  if c.interlock.tripped.contains o then
    Part.formAction f { c with interlock.tripped := c.interlock.tripped.filter (fun x => x != o) }
  else c

/-- The key of a pack-level record of a class: direction NONE, position 0, channel absent (R90). -/
def packKey (k : FaultClass) : FaultKey := { cls := k, dir := .none, position := 0, channel := none }

/-- The one object of a pack-level condition class. -/
def packObject (k : FaultClass) : FaultObject := { cls := k, position := 0, channel := none }

/-- A pack-level condition is set: its record, then its object (R13, R90, R99). -/
def Part.setCondition (k : FaultClass) (c : Part) : Part :=
  (c.recordTrip (packKey k) c.now none).tripObject (packObject k)

/-- A pack-level condition is cleared (R13, R90, R99). -/
def Part.clearCondition (k : FaultClass) (c : Part) : Part :=
  (c.recordClear (packKey k) c.now).clearObject (packObject k)

/-- An event of an event class: its record, then the class activity (R88, R90). -/
def Part.eventClass (k : FaultClass) (c : Part) : Part :=
  let c1 := c.recordTrip (packKey k) c.now none
  let c2 := Part.refreshAction { c1 with interlock.events := c1.interlock.events ||| k.bit }
  if c.classActive k then c2 else c2.notice k

/-! ### Supervision (R98, R99) -/

/-- The silence condition is cleared, if it is set. -/
def Part.clearSilence (c : Part) : Part :=
  if c.interlock.silence then Part.clearCondition .hostSilent { c with interlock.silence := false } else c

/-! ### Acknowledgement (R91) -/

/-- ACK_FAULTS acts on one class it names, before the effective action is formed afresh. -/
def Part.ackClass (k : FaultClass) (c : Part) : Part :=
  if k.isEvent then
    if hasClass c.interlock.events k then
      Part.recordClear (packKey k) c.now { c with interlock.events := c.interlock.events &&& ~~~ k.bit }
    else c
  else if k = .tamper ∨ c.hasObject k then c
  else { c with interlock.latches := c.interlock.latches &&& ~~~ k.bit }

/-- ACK_FAULTS: every class named, and then the effective action (R91, R94). R91 gives no order in which the classes are
taken; ascending class number is the model's (DESIGN CHOICE, log entry 45). -/
def Part.ackFaults (s : ClassSet) (c : Part) : Part :=
  Part.refreshAction ((FaultClass.all.filter (hasClass s)).foldl (fun c k => c.ackClass k) c)

/-! ### The service record at boot step 1 (R101, R162) -/

/-- The record as read: the default record when it has never been written or fails its check (R160). -/
def Store.recordAsRead (s : Store) : ServiceRecord := s.record.getD {}

/-- Boot step 1: the record is read into the record copy; the tamper latch goes to the interlock unit with its record,
the lockout flag to the sequencer, all of whose drives are open in
LOCKED_OUT (R103), and FAULT_OUT is set for the first time (R95, R101, R124, R162). Nothing happens if
it has been read before (log entry 10). -/
def Part.readRecord (c : Part) : Part :=
  if c.store.recordRead then c
  else
    let r := c.store.recordAsRead
    let c1 : Part := { c with store.copy := r, store.recordRead := true }
    let c2 : Part := if r.lockout then { c1.openDrives with seq.conn := .lockedOut } else c1
    let c3 := if r.tamper then c2.setCondition .tamper else c2
    c3.driveFaultOut

/-! ### Contactor faults (R106) -/

/-- The cause of a fault's record: SLEEP_FEEDBACK for one, CONTACTOR_FAULT for the rest (R120, R121). -/
def faultCause (asleep : Bool) : Cause := if asleep then .sleepFeedback else .cls .contactorFault

/-- The sequencer's part of a contactor fault, by connection state (R106). In every state, LOCKED_OUT among them, lockout
pending is set; from LOCKED_OUT it goes no further (log entry 18). A weld of K+ or K− in OPENING lets the
sequence go on (R116). -/
def Part.faultTransition (kind : EventKind) (k : Contactor) (cause : Cause) (c : Part) : Part :=
  match c.seq.conn with
  | .negClosing | .precharging | .mainClosing | .closed | .softOpening =>
    let c1 := (c.setPending .contactorFault).enterOpening (.cls .contactorFault)
    (c1.logEvent kind (some k) cause c.seq.conn .opening).advanceOpening
  | .opening =>
    let c1 := (c.setPending .contactorFault).logEvent kind (some k) cause .opening .opening
    let dealt : Part :=
      if kind = .weld ∧ k = .kPos then c1.drive .kNeg false
      else if kind = .weld ∧ k = .kNeg then c1.endOpening
      else c1
    dealt.advanceOpening
  | .opened =>
    let c1 := (c.setPending .contactorFault).logEvent kind (some k) cause .opened .lockedOut
    c1.enterLockedOut .opened
  | .lockedOut => (c.setPending .contactorFault).logEvent kind (some k) cause .lockedOut .lockedOut

/-- A contactor fault: the record read if the boot has not read it (log entry 10), the sequencer's transition and
record, and then, where the part is asleep, the wake cause it carries (R145, R153; log entry 16), and the
CONTACTOR_FAULT event to the interlock unit (R106). -/
def Part.contactorFault (kind : EventKind) (k : Contactor) (cause : Cause) (c : Part) : Part :=
  let c1 := c.readRecord.faultTransition kind k cause
  let c2 :=
    match c1.power.state with
    | .sleepEntry => c1.abandonEntry .feedback
    | .patrol => c1.escalate .feedback none
    | .active | .deep => c1
  c2.eventClass .contactorFault

/-- The precharge fails (R110): DRV_PRE and DRV_NEG open, OPEN, a PRECHARGE_ABORT record with cause 15, and then a
PRECHARGE_FAIL event. T_pc stays as it was (log entry 36). -/
def Part.prechargeFail (c : Part) : Part :=
  let c1 := c.openDrives
  let c2 : Part := { c1 with seq.conn := .opened, seq.prechargeEnd := none }
  (c2.logEvent .prechargeAbort none (.cls .prechargeFail) .precharging .opened).eventClass .prechargeFail

/-! ### New shunt readings (R109, R115) -/

/-- A reading can be used by a test that started at `t`: its sample time is after `t`, and it is valid now. -/
def Part.usable (c : Part) (t : Option Time) (r : ShuntReading) : Bool :=
  match t with
  | none => false
  | some t => isAfter r.sampleTime t && r.valid c.now c.tables.header

/-- The precharge test of a usable reading (R109). -/
def Part.prechargeTest (r : ShuntReading) (c : Part) : Part :=
  let p := c.tables.params
  if p.prechargeCurrent < r.current.natAbs then c.prechargeFail
  else if (p.minPackVoltage : Int) ≤ r.packVoltage ∧ p.prechargeRatio * r.packVoltage ≤ r.linkVoltage * 1000 then c.enterMain
  else c

/-- The soft-open test of a usable reading (R115). -/
def Part.softOpenTest (r : ShuntReading) (c : Part) : Part :=
  if r.current.natAbs ≤ c.tables.params.breakCurrent then
    Part.startOpening (c.seq.openingCause.getD .request) { c with seq.softEnd := none }
  else c

/-- A new shunt reading reaches the sequencer, which tests it in PRECHARGING and SOFT_OPENING (R76, R109, R115). -/
def Part.newReading (r : ShuntReading) (c : Part) : Part :=
  match c.seq.conn with
  | .precharging => if c.usable c.seq.tPc r then c.prechargeTest r else c
  | .softOpening => if c.usable c.seq.tSo r then c.softOpenTest r else c
  | .opened | .negClosing | .mainClosing | .closed | .opening | .lockedOut => c

end Sys2Proof.Machine
end

