-- ==== Sys2Proof/Machine/Evaluator.lean ====
section
/-!
DEFINITION. The sample evaluator (chapter 4): channels and corrections (R62 to R65), the channel state machine (R70 to
R72), sense and module-lost objects (R67, R78), the evaluation of a closed sweep (R73 to R76), the return of the objects
to NORMAL (R79) and the removal of records at a table switch (R84).
-/
namespace Sys2Proof.Machine

/-! ### Corrections (R62 to R65) -/

/-- The value classes (R63). -/
inductive ValueClass where
  | cellVoltage | temperature | packCurrent | packVoltage | linkVoltage
  deriving DecidableEq, Repr

/-- The value class of a channel of a map entry (R62, R63). -/
def valueClass (k : ModuleKind) (n : Nat) : ValueClass :=
  match k with
  | .cell => if n ≤ 12 then .cellVoltage else .temperature
  | .shunt => if n = 1 then .packCurrent else if n = 2 then .packVoltage else .linkVoltage

/-- The raw code of a 24-bit field (R63). -/
def rawCode (k : ValueClass) (v : BitVec 24) : Int :=
  match k with
  | .packCurrent => v.toInt
  | .temperature => (v.setWidth 16).toInt
  | .cellVoltage | .packVoltage | .linkVoltage => ((v.setWidth 16).toNat : Int)

/-- The lowest corrected value of a class (R63). -/
def ValueClass.low : ValueClass → Int
  | .cellVoltage => 0 | .temperature => -550 | .packCurrent => -8388608 | .packVoltage => 0 | .linkVoltage => 0

/-- The highest corrected value of a class (R63). -/
def ValueClass.high : ValueClass → Int
  | .cellVoltage => 65535 | .temperature => 1550 | .packCurrent => 8388607 | .packVoltage => 65535 | .linkVoltage => 65535

/-- The clamp to the class range (R63, R64). -/
def ValueClass.clamp (k : ValueClass) (v : Int) : Int := max k.low (min k.high v)

/-- A product divided by 65,536 and rounded half away from zero (R64). -/
def roundTrim (p : Int) : Int :=
  let m : Int := (p.natAbs + 32768) / 65536
  if p < 0 then -m else m

/-- The corrected value of a raw code with a gain and an offset trim (R64, R65). -/
def correct (k : ValueClass) (code gain offset : Int) : Int :=
  match k with
  | .cellVoltage | .packCurrent => k.clamp (code + roundTrim (code * gain) + offset)
  | .temperature | .packVoltage | .linkVoltage => k.clamp (code + offset)

/-- The place in the stored channel list of channel `n` of a map entry, from 0 (R62). -/
def MapEntry.place (e : MapEntry) (n : Nat) : Nat :=
  match e.kind with
  | .cell => if n ≤ 12 then n - 1 else e.cells + (n - 13)
  | .shunt => n - 1

/-- Channel `n` of a replied position: its status and, when that is OK, its corrected value (R62, R66). -/
def MapEntry.channelValue (e : MapEntry) (channels : List (ChStatus × BitVec 24)) (n : Nat) : ChanValue :=
  match channels[e.place n]? with
  | some (.ok, v) =>
    let k := valueClass e.kind n
    { channel := n, status := .ok, value := some (correct k (rawCode k v) e.gain (e.trim n)) }
  | some (st, _) => { channel := n, status := st, value := none }
  | none => { channel := n, status := .notConverted, value := none }

/-- The mapped channels of a replied position in ascending order. -/
def MapEntry.values (e : MapEntry) (b : Buffer) : PositionValues :=
  { position := e.position, channels := e.channels.map (e.channelValue b.channels) }

/-- A position is faulty when a mapped channel's status is not OK (R66). -/
def PositionValues.faulty (v : PositionValues) : Bool := v.channels.any (fun x => x.status != .ok)

/-- The corrected value of a channel, if its status is OK. -/
def PositionValues.valueAt (v : PositionValues) (n : Nat) : Option Int :=
  (v.channels.find? (fun x => x.channel == n)).bind (·.value)

/-! ### The channel state machine (R70, R71) -/

/-- What a feed did to an object. -/
inductive Change where
  | none
  | trip (d : Direction)
  | clear (d : Direction)
  /-- The channel stays tripped: its value is offered to its record (R71). -/
  | offer (d : Direction)
  deriving DecidableEq, Repr

/-- The next count in NORMAL toward a trip in one direction (R70). -/
def ChanState.count (s : ChanState) (d : Pending) : Nat := if s.pending = d then s.counter + 1 else 1

/-- A channel state is fed a value (R70, R71). -/
def ChanState.feed (l : LimitSet) (v : Int) (s : ChanState) : ChanState × Change :=
  match s.state with
  | .normal =>
    if l.ut < v then
      if l.nt ≤ s.count .high then ({ state := .trippedHigh, counter := 0, pending := .none }, .trip .high)
      else ({ state := .normal, counter := s.count .high, pending := .high }, .none)
    else if v < l.lt then
      if l.nt ≤ s.count .low then ({ state := .trippedLow, counter := 0, pending := .none }, .trip .low)
      else ({ state := .normal, counter := s.count .low, pending := .low }, .none)
    else (ChanState.normal, .none)
  | .trippedHigh =>
    if v ≤ l.uc then
      if l.nc ≤ s.counter + 1 then (ChanState.normal, .clear .high)
      else ({ s with counter := s.counter + 1 }, .offer .high)
    else ({ s with counter := 0 }, .offer .high)
  | .trippedLow =>
    if l.lc ≤ v then
      if l.nc ≤ s.counter + 1 then (ChanState.normal, .clear .low)
      else ({ s with counter := s.counter + 1 }, .offer .low)
    else ({ s with counter := 0 }, .offer .low)

/-- A two-state object is fed `bad` (faulty, missed) or not (sound, replied) (R67, R78). -/
def ObjState.feed (nt nc : Nat) (bad : Bool) (o : ObjState) : ObjState × Change :=
  match o.tripped, bad with
  | false, true =>
    if nt ≤ o.counter + 1 then ({ tripped := true, counter := 0 }, .trip .none)
    else ({ tripped := false, counter := o.counter + 1 }, .none)
  | false, false => (ObjState.normal, .none)
  | true, false =>
    if nc ≤ o.counter + 1 then (ObjState.normal, .clear .none)
    else ({ tripped := true, counter := o.counter + 1 }, .none)
  | true, true => ({ tripped := true, counter := 0 }, .none)

/-! ### Trips and clears handed on (R72) -/

/-- The class of a trip of a channel (R68). -/
def channelClass (k : ValueClass) (d : Direction) : FaultClass :=
  match k with
  | .cellVoltage => match d with | .high => .cellOv | .low => .cellUv | .none => .cellUv
  | .temperature => match d with | .high => .cellOt | .low => .cellUt | .none => .cellUt
  | .packCurrent | .packVoltage | .linkVoltage => .packOc

/-- The limit set family of a channel; the two shunt voltages have none (R68). -/
def ValueClass.family : ValueClass → Option LimitFamily
  | .cellVoltage => some .cellVoltage
  | .temperature => some .temperature
  | .packCurrent => some .packCurrent
  | .packVoltage => none
  | .linkVoltage => none

/-- The object a record's key belongs to. -/
def FaultKey.object (k : FaultKey) : FaultObject := { cls := k.cls, position := k.position, channel := k.channel }

/-- A change goes at once to the fault record list and to the interlock unit (R72, R86; log entry 15). `key d` is the
record's key for direction `d`. -/
def Part.handChange (ch : Change) (key : Direction → FaultKey) (t : Time) (v : Option Int) (c : Part)
    (f : Forming := .now) : Part :=
  match ch with
  | .none => c
  | .trip d => Part.tripObject (key d).object (c.recordTrip (key d) t v) f
  | .clear d => Part.clearObject (key d).object (c.recordClear (key d) t) f
  | .offer d =>
    match v with
    | none => c
    | some x => c.recordOffer (key d) x

/-- Trips and clears counted into the sweep results (R75). -/
structure Tally where
  trips : Nat := 0
  clears : Nat := 0
  deriving DecidableEq, Repr

/-- One change counted. -/
def Tally.add (t : Tally) : Change → Tally
  | .trip _ => { t with trips := t.trips + 1 }
  | .clear _ => { t with clears := t.clears + 1 }
  | .none => t
  | .offer _ => t

/-! ### Feeding objects -/

/-- The state of a channel. -/
def Evaluator.channel (e : Evaluator) (p n : Nat) : ChanState :=
  atPos (atPos e.channels (Vector.replicate 16 ChanState.normal) p) ChanState.normal n

/-- The state of a channel replaced. -/
def Evaluator.setChannel (e : Evaluator) (p n : Nat) (x : ChanState) : Evaluator :=
  { e with channels := setPos e.channels p (setPos (atPos e.channels (Vector.replicate 16 ChanState.normal) p) n x) }

/-- The key of a channel's record. -/
def channelKey (k : ValueClass) (p n : Nat) (d : Direction) : FaultKey :=
  { cls := channelClass k d, dir := d, position := p, channel := some n }

/-- The key of a record of an object of one position, direction NONE (R67, R78, R9). -/
def positionKey (k : FaultClass) (p : Nat) (_ : Direction) : FaultKey :=
  { cls := k, dir := .none, position := p, channel := none }

/-- An OK channel of a replied position is fed (R66, R70 to R72). -/
def Part.feedChannel (run : RunKind) (s : Time) (kind : ModuleKind) (p : Nat) (x : ChanValue) (ct : Part × Tally) :
    Part × Tally :=
  let k := valueClass kind x.channel
  match x.value, k.family with
  | some v, some f =>
    match ct.1.tables.limitSet f run with
    | none => ct
    | some l =>
      let r := (ct.1.eval.channel p x.channel).feed l v
      let c1 : Part := { ct.1 with eval := ct.1.eval.setChannel p x.channel r.1 }
      (c1.handChange r.2 (channelKey k p x.channel) s (some v), ct.2.add r.2)
  | _, _ => ct

/-- A replied position's sense object is fed (R67). -/
def Part.feedSense (run : RunKind) (s : Time) (p : Nat) (faulty : Bool) (ct : Part × Tally) : Part × Tally :=
  match ct.1.tables.limitSet .senseFault run with
  | none => ct
  | some l =>
    let r := (atPos ct.1.eval.sense ObjState.normal p).feed l.nt l.nc faulty
    let c1 : Part := { ct.1 with eval.sense := setPos ct.1.eval.sense p r.1 }
    (c1.handChange r.2 (positionKey .senseFault p) s none, ct.2.add r.2)

/-- The key of the sum pseudo-channel's record (R75). -/
def sumKey (d : Direction) : FaultKey := { cls := .sumMismatch, dir := d, position := 0, channel := none }

/-- The sum pseudo-channel is fed a deviation (R75). -/
def Part.feedSum (run : RunKind) (s : Time) (v : Int) (ct : Part × Tally) : Part × Tally :=
  match ct.1.tables.limitSet .sumDeviation run with
  | none => ct
  | some l =>
    let r := ct.1.eval.sum.feed l v
    let c1 : Part := { ct.1 with eval.sum := r.1 }
    (c1.handChange r.2 sumKey s (some v), ct.2.add r.2)

/-- A position's module-lost object takes a miss or a reply input (R54, R78). Its counts are those of the MODULE_LOST
limit set, 1 while there is none. -/
def Part.feedLost (run : RunKind) (p : Nat) (missed : Bool) (c : Part) (f : Forming := .now) : Part :=
  let l := c.tables.limitSet .moduleLost run
  let r := (atPos c.eval.lost ObjState.normal p).feed ((l.map (·.nt)).getD 1) ((l.map (·.nc)).getD 1) missed
  let c1 : Part := { c with eval.lost := setPos c.eval.lost p r.1 }
  Part.handChange r.2 (positionKey .moduleLost p) c.now none c1 f

/-! ### The shunt reading (R76) -/

/-- The SHUNT position of a sweep is reached: with a sample that is not skewed and three OK channels the reading is
written and handed to the sequencer. -/
def Part.writeShunt (w : Sweep) (v : PositionValues) (c : Part) : Part :=
  match hasPos w.skewed v.position, v.valueAt 1, v.valueAt 2, v.valueAt 3 with
  | false, some i, some u, some l =>
    let r : ShuntReading := { current := i, packVoltage := u, linkVoltage := l, sampleTime := w.sampleTime, sweep := w.number }
    Part.newReading r { c with eval.shunt := some r }
  | _, _, _, _ => c

/-! ### Evaluating a closed sweep (R73 to R75) -/

/-- The replied positions with their map entries and channel values, in ascending position order. -/
def Sweep.replies (w : Sweep) (t : Tables) : List (MapEntry × PositionValues) :=
  (positionsOf w.replied).filterMap (fun p =>
    match t.byPosition p, w.buffers.find? (fun b => b.position == p) with
    | some e, some b => some (e, e.values b)
    | _, _ => none)

/-- Step 1 of R73 for one replied position. -/
def Part.evalPosition (w : Sweep) (x : MapEntry × PositionValues) (ct : Part × Tally) : Part × Tally :=
  let fed := x.2.channels.foldl (fun ct v => Part.feedChannel w.runKind w.sampleTime x.1.kind x.1.position v ct) ct
  let sensed := Part.feedSense w.runKind w.sampleTime x.1.position x.2.faulty fed
  match x.1.kind with
  | .cell => sensed
  | .shunt => (sensed.1.writeShunt w x.2, sensed.2)

/-- A slot is sum-bearing (R74). -/
def Slot.sumBearing (s : Slot) (t : Tables) : Bool :=
  decide (s.kind = .sweep) && t.cellPositions.all (hasPos s.target) &&
  match t.shuntPosition with
  | none => false
  | some p => hasPos s.target p

/-- A closed sweep qualifies for the sum check (R74). Every replied position counts: a cell position with a temperature
channel that is not OK still qualifies. -/
def Sweep.qualifies (w : Sweep) (t : Tables) (vs : List (MapEntry × PositionValues)) : Bool :=
  w.slot.sumBearing t && decide (w.replied = w.target) && decide (w.skewed = 0) &&
  vs.all (fun x => x.2.channels.all (fun v =>
    v.status == .ok || (x.1.kind == .cell && decide (12 < v.channel))))

/-- The corrected values of the OK cell channels, in ascending order of position and channel. -/
def cellValues (vs : List (MapEntry × PositionValues)) : List CellValue :=
  (vs.map (fun x =>
    if x.1.kind = .cell then
      x.2.channels.filterMap (fun v =>
        if v.channel ≤ 12 then v.value.map (fun a => { value := a, position := x.1.position, channel := v.channel })
        else none)
    else [])).flatten

/-- The first of the lowest values (R75). -/
def lowestCell (vs : List CellValue) : Option CellValue :=
  vs.foldl (fun best v => match best with | none => some v | some b => if v.value < b.value then some v else some b) none

/-- The first of the highest values (R75). -/
def highestCell (vs : List CellValue) : Option CellValue :=
  vs.foldl (fun best v => match best with | none => some v | some b => if b.value < v.value then some v else some b) none

/-- S20: the sum of the cells in 20 mV units, rounded half up (R75). -/
def sum20 (vs : List CellValue) : Nat := ((vs.foldl (fun (a : Int) v => a + v.value) 0).toNat + 100) / 200

/-- A value of the SHUNT position (R75). -/
def shuntValue (vs : List (MapEntry × PositionValues)) (n : Nat) : Option Int :=
  (vs.find? (fun x => x.1.kind == .shunt)).bind (fun x => x.2.valueAt n)

/-- The evaluation of a closed sweep: step 1, the sum check, and the sweep results (R73, R75). -/
def Part.evaluate (w : Sweep) (c : Part) : Part × SweepResults :=
  let vs := w.replies c.tables
  let stepOne := vs.foldl (fun ct x => Part.evalPosition w x ct) (c, ({} : Tally))
  let qualifies := w.qualifies c.tables vs
  let cells := cellValues vs
  let u := shuntValue vs 2
  let stepTwo :=
    if qualifies then Part.feedSum w.runKind w.sampleTime (((sum20 cells : Int) - u.getD 0).natAbs : Int) stepOne else stepOne
  (stepTwo.1,
   { minCell := lowestCell cells, maxCell := highestCell cells, sum := if qualifies then some (sum20 cells) else none,
     sumSkipped := w.slot.sumBearing c.tables && !qualifies, current := shuntValue vs 1, packVoltage := u,
     linkVoltage := shuntValue vs 3, trips := stepTwo.2.trips, clears := stepTwo.2.clears, values := vs.map (·.2) })

/-! ### Objects to NORMAL (R79) and removal of records (R84) -/

/-- The records of the evaluator's objects go CLEARED with their reports, in list order. -/
def Part.clearRecords (c : Part) : Part :=
  ((c.eval.records.filter (fun r => r.active && r.key.cls.ofEvaluator)).map (·.key)).foldl
    (fun c k => c.recordClear k c.now) c

/-- Every object of the evaluator returns to NORMAL and every missed-reply count to 0; the effective action follows as
`f` says (R54, R79; log entry 30). -/
def Part.objectsToNormal (c : Part) (f : Forming := .now) : Part :=
  let c1 := c.clearRecords
  Part.formAction f
    { c1 with
      eval.channels := Vector.replicate 16 (Vector.replicate 16 ChanState.normal), eval.sum := ChanState.normal,
      eval.sense := Vector.replicate 16 ObjState.normal, eval.lost := Vector.replicate 16 ObjState.normal,
      sched.missed := Vector.replicate 16 0,
      interlock.tripped := c1.interlock.tripped.filter (fun o => !o.cls.ofEvaluator) }

/-- A record's key still names an object under a map (R84). -/
def FaultKey.named (k : FaultKey) (t : Tables) : Bool :=
  if k.position = 0 ∨ k.cls = .moduleForeign then true
  else
    match t.byPosition k.position, k.channel with
    | none, _ => false
    | some _, none => true
    | some e, some n => e.channels.contains n

/-- The records that the new map no longer names are removed, without a report (R84). -/
def Part.removeRecords (c : Part) : Part :=
  { c with eval.records := c.eval.records.filter (fun r => r.key.named c.tables) }

end Sys2Proof.Machine
end

