-- ==== Sys2Proof/Machine/Router.lean ====
section
/-!
DEFINITION. The frame router (chapter 2): translation and the pass table (R21 to R24), admission (R25, R26), forwarding
(R28), responses (R31, R32), deadlines (R30, R33), refusals and tracked outcomes (R34, R35), loss of the link (R37).
-/
namespace Sys2Proof.Machine

/-! ### The north forward queue (R34, R35) -/

/-- A tracked outcome joins the north forward queue; its place is reserved (R35). -/
def Part.addOutcome (f : Frame) (c : Part) : Part :=
  { c with router.forward := c.router.forward ++ [{ frame := f, refusal := false }] }

/-- A refusal joins the north forward queue while fewer than four wait, and is otherwise discarded and counted (R35). -/
def Part.addRefusal (f : Frame) (c : Part) : Part :=
  if c.router.refusals < 4 then { c with router.forward := c.router.forward ++ [{ frame := f, refusal := true }] }
  else { c with router.refusalsDiscarded := bump16 c.router.refusalsDiscarded }

/-- The refusal of a command: source the destination as received, sequence the command's (R34). -/
def Part.refuse (f : Frame) (st : SynthStatus) (payload : List Byte) (c : Part) : Part :=
  c.addRefusal (synthFrame f.dest f.seq st payload)

/-- The tracked outcome the router writes for a record: its command code is the payload (R34). -/
def TxRecord.outcome (r : TxRecord) (st : SynthStatus) : Frame := synthFrame (byte r.logical) r.seq st [r.code]

/-! ### The pass table (R22 to R24) -/

/-- The deciding action and the deciding index, FF hex for the default action (R23). -/
def Tables.decide (t : Tables) (key : BitVec 32) : PassAction × Nat :=
  match t.pass.findIdx? (fun e => e.matchesKey key) with
  | none => (t.passDefault, 255)
  | some i => (((t.pass[i]?).map (·.action)).getD t.passDefault, i)

/-- The action lets the command pass, as the connection state and SERVICE_IN stand (R23, R24). -/
def Part.passes (c : Part) : PassAction → Bool
  | .pass => true
  | .refuse => false
  | .passWhenOpen => c.seq.conn.atRest
  | .passWhenService => c.lines.serviceIn

/-! ### Admission (R25 to R28) -/

/-- The rewritten frame: the destination given and source 0; the rest as received (R28). -/
def forwardedFrame (f : Frame) (dest : Byte) : Frame := { f with dest := dest, source := 0 }

/-- A tracked command is forwarded: its frame joins the south queue and its QUEUED record the tracker (R28). -/
def Part.forwardTracked (f : Frame) (position : Nat) (c : Part) : Part :=
  { c with
    router.southQueue := c.router.southQueue ++ [{ frame := forwardedFrame f (byte position), tracked := true }],
    router.tracker := c.router.tracker ++
      [{ seq := f.seq, logical := f.dest.toNat, position := position, code := f.byte 0, state := .queued }] }

/-- A broadcast is forwarded without a record (R26, R28). -/
def Part.forwardBroadcast (f : Frame) (c : Part) : Part :=
  { c with router.southQueue := c.router.southQueue ++ [{ frame := forwardedFrame f 31, tracked := false }] }

/-- The tracker holds a record with the sequence number (R25). -/
def Router.clashes (r : Router) (seq : Byte) : Bool := r.tracker.any (fun t => t.seq == seq)

/-- Admission of a COMMAND for destination 1 to 30: the steps of R25 in order. -/
def Part.admitCommand (f : Frame) (c : Part) : Part :=
  match c.tables.byLogical f.dest.toNat with
  | none => c.refuse f .noRoute []
  | some e =>
    let decision := c.tables.decide f.passKey
    if c.passes decision.1 = false then c.refuse f .refused [byte decision.2]
    else if c.router.clashes f.seq then c.refuse f .seqClash []
    else if c.power.state = .sleepEntry ∨ 8 ≤ c.router.trackedLoad ∨ 8 ≤ c.router.southQueue.length then c.refuse f .busy []
    else if c.south.link = .down then c.refuse f .linkDown [f.byte 0]
    else c.forwardTracked f e.position

/-- Admission of a broadcast: the steps of R26 in order. -/
def Part.admitBroadcast (f : Frame) (c : Part) : Part :=
  let decision := c.tables.decide f.passKey
  if c.passes decision.1 = false then c.refuse f .refused [byte decision.2]
  else if c.power.state = .sleepEntry ∨ 8 ≤ c.router.southQueue.length then c.refuse f .busy []
  else if c.south.link = .down then c.refuse f .linkDown [f.byte 0]
  else c.forwardBroadcast f

/-! ### Records (R30 to R33, R37) -/

/-- The end of a tracked command's frame: its QUEUED record goes SENT with a deadline; with no record the end is ignored
(R30). -/
def Part.markSent (seq : Byte) (endTime : Time) (c : Part) : Part :=
  { c with router.tracker := c.router.tracker.map (fun r =>
      if r.seq = seq ∧ r.state = .queued then
        { r with state := .sent (later endTime c.tables.params.responseTimeout) }
      else r) }

/-- A record is SENT. -/
def TxState.isSent : TxState → Bool
  | .queued => false
  | .sent _ => true

/-- A record matches a module's response (R31). -/
def TxRecord.answeredBy (r : TxRecord) (p : Nat) (f : Frame) : Bool :=
  r.state.isSent && decide (r.position = p) && decide (r.seq = f.seq)

/-- The response as it goes north: the record's logical number as source, the synthesized mark cleared (R31). -/
def TxRecord.rewrite (r : TxRecord) (f : Frame) : Frame :=
  { f with dest := 0, source := byte r.logical, status := f.status &&& 0x7F#8 }

/-- A module's RESPONSE: matched and returned, or counted as a late response (R31, R32). -/
def Part.takeResponse (p : Nat) (f : Frame) (c : Part) : Part :=
  match c.router.tracker.find? (fun r => r.answeredBy p f) with
  | none => { c with router.late := bump16 c.router.late }
  | some r =>
    Part.addOutcome (r.rewrite f)
      { c with router.tracker := c.router.tracker.filter (fun x => decide (x.seq ≠ r.seq)) }

/-- The SENT record with the sequence number, once its deadline is reached. -/
def Part.expired (c : Part) (seq : Byte) : Option TxRecord :=
  c.router.tracker.find? (fun r => r.seq == seq && match r.state with
    | .queued => false
    | .sent deadline => atOrAfter c.now deadline)

/-- The deadline of a SENT record is reached: the record leaves and a TIMEOUT is queued (R33). -/
def Part.expireRecord (seq : Byte) (c : Part) : Part :=
  match c.expired seq with
  | none => c
  | some r =>
    Part.addOutcome (r.outcome .timeout)
      { c with router.tracker := c.router.tracker.filter (fun x => decide (x.seq ≠ r.seq)) }

/-- The end of a frame on the wire no longer means anything to the router (R30, R37). -/
def OnWire.forgetRecord (w : OnWire) : OnWire :=
  match w.tag with
  | .tracked _ => { w with tag := .plain }
  | .plain | .enum | .sleep => w

/-- The link has entered DOWN: every record is completed with LINK_DOWN in tracker order, and the south queue is emptied
(R37). -/
def Part.completeAll (c : Part) : Part :=
  { c with
    router.forward := c.router.forward ++ c.router.tracker.map (fun r => { frame := r.outcome .linkDown, refusal := false }),
    router.tracker := [], router.southQueue := [], south.wire := c.south.wire.map OnWire.forgetRecord }

end Sys2Proof.Machine
end

