-- ==== Sys2Proof/Machine/South.lean ====
section
/-!
DEFINITION. The south link interface (chapter 1): entry to DOWN, UP and OFF (R11, R13, R16), the link error count (R11),
the enumeration replies and the identity check (R8 to R10), bring-up frames (R7), and the south transmit arbiter (R18).
-/
namespace Sys2Proof.Machine

/-! ### Entry to DOWN, OFF and UP -/

/-- Entry to DOWN (R13), with the retry timer unless RESET_SOUTH caused it (R15). The link-lost trip comes before the
router and the sweeps, and a patrol that it has not already ended escalates last (R153; log entry 17). -/
def Part.enterDown (startRetry : Bool) (c : Part) : Part :=
  let c1 : Part :=
    { c with
      south.link := .down, south.downEvents := bump16 c.south.downEvents,
      south.retry := if startRetry then some (laterMs c.now 100) else none,
      south.window := none, south.bringAt := none, south.bringDue := none }
  let c2 := if c1.south.linkLost then c1 else Part.setCondition .linkDown { c1 with south.linkLost := true }
  let c3 := (c2.completeAll.abortSweeps (fun _ => true)).dropSampling
  if c3.power.state = .patrol then c3.escalate .linkFailed none else c3

/-- The link-lost condition is cleared, if it is set (R13). -/
def Part.clearLinkLost (c : Part) : Part :=
  if c.south.linkLost then Part.clearCondition .linkDown { c with south.linkLost := false } else c

/-- Entry to OFF (R16). A frame on the wire is cut off with the transmitter (log entry 32). -/
def Part.enterOff (c : Part) : Part :=
  let c1 : Part :=
    { c with
      south.link := .off, south.retry := none, south.window := none, south.bringAt := none, south.bringDue := none,
      south.sleepDue := none, south.wire := none, south.errorCount := 0, south.goodRun := 0, south.silentRun := 0 }
  c1.dropSampling.clearLinkLost

/-! ### The identity check (R9) -/

/-- The verdicts of the identity check. -/
inductive Verdict where
  | same | foreign | lost | extra | none
  deriving DecidableEq, Repr

/-- A stored reply is as the map entry says: identity, kind and both counts (R9). -/
def EnumReply.agrees (r : EnumReply) (e : MapEntry) : Bool :=
  decide (r.identity = e.identity) && decide (r.kind = e.kind) && decide (r.cells = e.cells) && decide (r.temps = e.temps)

/-- The verdict of a position (R9). -/
def verdict (e : Option MapEntry) (r : Option EnumReply) : Verdict :=
  match e, r with
  | some e, some r => if r.agrees e then .same else .foreign
  | some _, none => .lost
  | none, some _ => .extra
  | none, none => .none

/-- A foreign flag is set or cleared; a change is handed on under MODULE_FOREIGN (R9). -/
def Part.setForeign (p : Nat) (b : Bool) (c : Part) (f : Forming := .now) : Part :=
  if hasPos c.south.foreign p = b then c
  else
    let k := positionKey .moduleForeign p .none
    if b then
      Part.tripObject k.object (Part.recordTrip k c.now none { c with south.foreign := addPos c.south.foreign p }) f
    else
      Part.clearObject k.object (Part.recordClear k c.now { c with south.foreign := dropPos c.south.foreign p }) f

/-- A LOST position: its missed-reply count goes to the limit, and its module-lost object takes a miss input if the
count was below (R9, R54, R78). -/
def Part.lostPosition (p : Nat) (c : Part) (f : Forming := .now) : Part :=
  let limit := c.tables.header.missedLimit
  let c1 : Part := { c with sched.missed := setPos c.sched.missed p limit }
  if atPos c.sched.missed 0 p < limit then c1.feedLost .normal p true f else c1

/-- The identity check at one position. -/
def Part.checkPosition (p : Nat) (c : Part) (f : Forming := .now) : Part :=
  match verdict (c.tables.byPosition p) (atPos c.south.replies none p) with
  | .same => c.setForeign p false f
  | .foreign => c.setForeign p true f
  | .lost => c.lostPosition p f
  | .extra => c.setForeign p true f
  | .none => c.setForeign p false f

/-- The identity check over the sixteen positions (R9). R9 gives no order of positions: that the check, and so its FAULT
reports, go in ascending order is the model's choice (DESIGN CHOICE, log entry 40). -/
def Part.identityCheck (c : Part) (f : Forming := .now) : Part := allPositions.foldl (fun c p => c.checkPosition p f) c

/-- Entry to UP (R11 to R13, R45, R58): counts to 0, link-lost cleared, a run started by the power state, and then the
identity check (log entry 23). -/
def Part.enterUp (c : Part) : Part :=
  let c1 : Part := { c with south.link := .up, south.errorCount := 0, south.goodRun := 0, south.silentRun := 0 }
  let c2 := c1.clearLinkLost
  let c3 :=
    match c2.power.state with
    | .active => c2.startNormalRun c2.holdForNewRun
    | .patrol => c2.startRun .patrol false
    | .sleepEntry | .deep => c2
  c3.identityCheck

/-! ### Received frames: the link error count (R11) -/

/-- A south-in frame fails the frame check (R2, R11). -/
def Part.southCheckFail (c : Part) : Part :=
  let c1 : Part := { c with south.crcErrors := bump16 c.south.crcErrors }
  if c1.south.link = .up then
    let n := c1.south.errorCount + 1
    let c2 : Part := { c1 with south.errorCount := n, south.goodRun := 0 }
    if c2.tables.params.linkThreshold ≤ n then c2.enterDown true else c2
  else c1

/-- A south-in frame passes the frame check (R11). -/
def Part.goodFrame (c : Part) : Part :=
  if c.south.link = .up then
    if 64 ≤ c.south.goodRun + 1 then { c with south.errorCount := 0, south.goodRun := 0 }
    else { c with south.goodRun := c.south.goodRun + 1 }
  else c

/-- A frame is discarded for its kind, direction or content (R3, R5, R8, R52). -/
def Part.kindDiscard (c : Part) : Part := { c with kindDiscards := bump16 c.kindDiscards }

/-- An ENUM_REPLY from position `p`: stored while ENUMERATING if it is well formed and the first, and discarded
otherwise (R5, R8). -/
def Part.takeEnumReply (p : Nat) (f : Frame) (c : Part) : Part :=
  if c.south.link = .enumerating then
    match parseEnumReply f.payload, atPos c.south.replies none p with
    | some r, none => { c with south.replies := setPos c.south.replies p (some r) }
    | _, _ => c.kindDiscard
  else c.kindDiscard

/-- A chain spoof (R5, R88). -/
def Part.takeSpoof (c : Part) : Part :=
  Part.eventClass .chainSpoof { c with south.spoofs := bump16 c.south.spoofs }

/-! ### Bring-up timing (R7, R8, R14) -/

/-- The next WAKE or the ENUM falls due (R7). -/
def Part.bringupDue (c : Part) : Part :=
  match c.south.bringAt with
  | some t =>
    if c.south.link = .waking ∧ atOrAfter c.now t then { c with south.bringAt := none, south.bringDue := some t } else c
  | none => c

/-- The window opens at the end of the ENUM frame, and the stored replies are cleared (R7, R8). -/
def Part.openWindow (endTime : Time) (c : Part) : Part :=
  { c with
    south.link := .enumerating, south.replies := Vector.replicate 16 none, south.window := some (later endTime 5000) }

/-- Some reply is stored. -/
def South.replied (s : South) : Bool := s.replies.toList.any Option.isSome

/-- The window closes (R8). -/
def Part.closeWindow (c : Part) : Part :=
  if timerDue c.now c.south.window then
    let c1 : Part := { c with south.window := none }
    if c1.south.replied then c1.enterUp else c1.enterDown true
  else c

/-- The retry timer expires in DOWN (R14). -/
def Part.retryExpired (c : Part) : Part :=
  if c.south.link = .down ∧ timerDue c.now c.south.retry then
    Part.enterWaking { c with south.retry := none, south.retries := bump16 c.south.retries }
  else c

/-- RESET_SOUTH on the link: DOWN without the retry timer, missed-reply counts to 0, and straight to WAKING; in OFF it
does nothing (R15). -/
def Part.resetSouth (c : Part) : Part :=
  if c.south.link = .off then c
  else
    let c1 := c.enterDown false
    Part.enterWaking { c1 with sched.missed := Vector.replicate 16 0 }

/-! ### The south transmit arbiter (R18) -/

/-- The frame that a start puts on the wire. -/
def startFrame (f : Frame) (tag : WireTag) (now : Time) : OnWire := { frame := f, start := now, tag := tag, endTaken := false }

/-- The part with a frame started on south-out. -/
def Part.putSouth (f : Frame) (tag : WireTag) (c : Part) : Part :=
  { c with south.wire := some (startFrame f tag c.now) }

/-- A WAKE, or after three of them the ENUM, starts (R7; its sequence byte: log entry 12). -/
def Part.startBringup (c : Part) : Part :=
  let seq := Config.freeSequence c.freeIndex
  let c1 := c.useFree
  if c1.south.wakesSent < 3 then
    Part.putSouth (wakeFrame seq) .plain
      { c1 with
        south.wakesSent := c1.south.wakesSent + 1, south.bringDue := none, south.bringAt := some (later c1.now 1000) }
  else Part.putSouth (enumFrame seq) .enum { c1 with south.enumSent := true, south.bringDue := none, south.bringAt := none }

/-- A SLEEP broadcast starts (R143, R155; its sequence byte: log entry 12). -/
def Part.startSleep (c : Part) : Part :=
  let seq := Config.freeSequence c.freeIndex
  Part.putSouth (sleepFrame seq) .sleep { c.useFree with south.sleepDue := none, power.sleepSent := true }

/-- Tier 2: a bring-up frame or the SLEEP broadcast, the one that fell due first; the bring-up frame when both fell due
together (R18). -/
def Part.startTierTwo (c : Part) : Option Part :=
  match c.south.bringDue, c.south.sleepDue with
  | none, none => none
  | some _, none => some c.startBringup
  | none, some _ => some c.startSleep
  | some b, some s => if isAfter b s then some c.startSleep else some c.startBringup

/-- Tier 3: the south queue head, in UP; a tracked command's end is handed to the router (R18, R30). -/
def Part.startQueued (c : Part) : Part :=
  match c.south.link, c.router.southQueue with
  | .up, e :: rest =>
    Part.putSouth e.frame (if e.tracked then .tracked e.frame.seq else .plain) { c with router.southQueue := rest }
  | _, _ => c

/-- The arbiter starts the next frame on a free link (R1, R18). A SYNC or TRIGGER that starts may be the one a new run
waits for (R45). -/
def Part.southTransmit (c : Part) : Part :=
  if c.south.link = .off ∨ linkFree c.now c.south.wire = false then c
  else
    match c.south.link, c.south.sampling with
    | .up, f :: rest => Part.settleRun (Part.putSouth f.frame .plain { c with south.sampling := rest })
    | _, _ =>
      match c.startTierTwo with
      | some c1 => c1
      | none => c.startQueued

/-! ### Ends of frames on south-out -/

/-- The end of the frame on the wire has been taken. -/
def OnWire.taken (w : OnWire) : OnWire := { w with endTaken := true }

/-- The frame on south-out whose end is reached and not yet taken. -/
def Part.endedSouth (c : Part) : Option OnWire :=
  match c.south.wire with
  | none => none
  | some w => if w.ended c.now ∧ w.endTaken = false then some w else none

/-- The end of a tracked COMMAND frame (R30). -/
def Part.commandEnd (c : Part) : Part :=
  match c.endedSouth with
  | none => c
  | some w =>
    match w.tag with
    | .tracked seq => Part.markSent seq w.endTime { c with south.wire := some w.taken }
    | .plain | .enum | .sleep => c

/-- The end of the ENUM frame (R7). The end of an ENUM that an earlier bring-up sent opens no window (log entry 32). -/
def Part.enumEnd (c : Part) : Part :=
  match c.endedSouth with
  | none => c
  | some w =>
    match w.tag with
    | .enum =>
      let c1 : Part := { c with south.wire := some w.taken }
      if c1.south.link = .waking ∧ c1.south.enumSent then c1.openWindow w.endTime else c1
    | .plain | .tracked _ | .sleep => c

end Sys2Proof.Machine
end

