-- ==== Sys2Proof/Machine/Sweeps.lean ====
section
/-!
DEFINITION. The sweep scheduler's events (chapter 3): cycle starts (R45, R47, R50, R58), launch times (R48, R49),
samples (R52), the closing of a sweep in its four steps (R53, R54, R12, R131) and the completion of a patrol run (R58,
R155).
-/
namespace Sys2Proof.Machine

/-! ### The end of a patrol run (R58, R155) -/

/-- A run is a patrol run whose launching has ended. -/
def Run.launchedOut (r : Run) : Bool := decide (r.kind = .patrol) && r.launchEnded

/-- The patrol run is complete when its launching has ended and no patrol sweep is open: the entry step becomes
RETURNING and the SLEEP broadcast falls due (R58, R155). -/
def Part.patrolDone (c : Part) : Part :=
  if c.power.state = .patrol ∧ c.power.step = .running ∧ (c.sched.run.map Run.launchedOut).getD false = true ∧
      c.sched.sweeps.all (fun w => decide (w.runKind = .normal)) = true then
    { c with power.step := .returning, south.sleepDue := some c.now }
  else c

/-! ### Cycle starts (R45) -/

/-- The next cycle start of a run (R45). -/
def Part.nextCycle (c : Part) (r : Run) : Time := later r.cycleStart c.tables.header.cycleLength

/-- The run with the cycle count advanced; a patrol run's launching ends at C_n (R45, R58). -/
def Part.advanceRun (c : Part) (r : Run) : Run :=
  { r with
    cycle := r.cycle + 1, cycleStart := c.nextCycle r, launched := [],
    launchEnded := r.launchEnded || (decide (r.kind = .patrol) && decide (r.cycles ≤ r.cycle + 1)) }

/-- C_k is reached: the cycle count advances, a supercycle start brings its SYNC or the commit hold's effect, and a
patrol run may be complete (R45, R47, R50, R58). -/
def Part.cycleStart (c : Part) : Part :=
  match c.sched.run with
  | none => c
  | some r =>
    if r.begun = true ∧ atOrAfter c.now (c.nextCycle r) then
      let r' := c.advanceRun r
      let c1 : Part := { c with sched.run := some r' }
      let c2 := if r'.cycle % 8 = 0 ∧ r'.launchEnded = false then c1.supercycle r'.cycleStart else c1
      c2.patrolDone
    else c

/-! ### Launch times (R48) -/

/-- A slot runs in the run's present cycle: by its cycle mask in a normal run, by its PATROL flag in a patrol run that
still launches (R45, R58). -/
def Run.takes (r : Run) (s : Slot) : Bool :=
  match r.kind with
  | .normal => s.mask.getLsbD (r.cycle % 8)
  | .patrol => s.patrol && !r.launchEnded

/-- The launch time of a slot in the present cycle (R45). -/
def Run.launchTime (r : Run) (s : Slot) : Time := later r.cycleStart s.offset

/-- The sweep that a launch opens (R51). -/
def Part.openedSweep (c : Part) (r : Run) (j : Nat) (s : Slot) : Sweep :=
  let t := later (r.launchTime s) c.tables.header.lead
  { number := c.sched.nextSweep, slotIndex := j, slot := s, runKind := r.kind, sampleTime := t,
    closeTime := later t s.window, target := s.target, replied := 0, skewed := 0, buffers := [] }

/-- Course 1 of R48: a miss. -/
def Part.missSlot (j : Nat) (c : Part) : Part :=
  { c with
    sched.slotMiss := c.sched.slotMiss.setIfInBounds j (bump8 (c.sched.slotMiss.getD j 0)),
    sched.missedSlots := bump16 c.sched.missedSlots }

/-- Course 3 of R48: a launch. -/
def Part.launchSlot (r : Run) (j : Nat) (s : Slot) (c : Part) : Part :=
  let w := c.openedSweep r j s
  { c with
    sched.sweeps := c.sched.sweeps ++ [w], sched.nextSweep := c.sched.nextSweep + 1,
    south.sampling := c.south.sampling ++ [.trigger w.number w.sampleTime w.target] }

/-- One of the three courses of R48. -/
def Part.takeSlot (r : Run) (j : Nat) (s : Slot) (c : Part) : Part :=
  if c.south.link ≠ .up ∨ 4 ≤ c.sched.sweeps.length then c.missSlot j
  else if r.kind = .normal ∧ s.sheddable = true ∧ c.sched.throttled = true then
    { c with sched.shedSlots := bump16 c.sched.shedSlots }
  else c.launchSlot r j s

/-- Slot `j`'s launch time in this cycle is due and has not been taken. -/
def Part.launchDue (c : Part) (r : Run) (j : Nat) (s : Slot) : Bool :=
  r.begun && !c.sched.holdInEffect && r.takes s && !(r.launched.contains j) && atOrAfter c.now (r.launchTime s)

/-- The launch time of slot `j` (R48). -/
def Part.slotTime (j : Nat) (c : Part) : Part :=
  match c.sched.run, c.tables.slots[j]? with
  | some r, some s =>
    if c.launchDue r j s then
      Part.takeSlot r j s { c with sched.run := some { r with launched := r.launched ++ [j] } }
    else c
  | _, _ => c

/-! ### Closing a sweep (R53) -/

/-- Step 2 of the closing order for one targeted position (R54). -/
def Part.accountPosition (w : Sweep) (p : Nat) (c : Part) : Part :=
  if hasPos w.replied p then
    Part.feedLost w.runKind p false { c with sched.missed := setPos c.sched.missed p 0 }
  else
    let old := atPos c.sched.missed 0 p
    let new := min 15 (old + 1)
    let c1 : Part := { c with sched.missed := setPos c.sched.missed p new }
    let limit := c.tables.header.missedLimit
    if old < limit ∧ limit ≤ new then c1.feedLost w.runKind p true else c1

/-- Step 2: every position of the target set, ascending (R54, R134). -/
def Part.account (w : Sweep) (c : Part) : Part :=
  (positionsOf w.target).foldl (fun c p => c.accountPosition w p) c

/-- Step 3: the silent-sweep report (R12, R55; log entry 31). -/
def Part.silentReport (w : Sweep) (c : Part) : Part :=
  if w.replied ≠ 0 then { c with south.silentRun := 0 }
  else if 1 ≤ c.south.silentRun then c.enterDown true
  else { c with south.silentRun := 1 }

/-- A sweep is an exception (R131). -/
def Sweep.exception (w : Sweep) (r : SweepResults) : Bool :=
  decide (w.replied ≠ w.target) || decide (w.skewed ≠ 0) || decide (0 < r.trips) || decide (0 < r.clears) || r.sumSkipped

/-- A SUMMARY is made (R131). -/
def Sweep.summarised (w : Sweep) (r : SweepResults) : Bool :=
  match w.slot.summary with
  | .all => true
  | .exceptions => w.exception r
  | .none => false

/-- The DETAIL report of one replied position (R133). -/
def Part.detailReport (w : Sweep) (v : PositionValues) (c : Part) : Part :=
  match c.tables.byPosition v.position, w.buffers.find? (fun b => b.position == v.position) with
  | some e, some b => c.offerReport .sweep (detailPayload w e b.taken v)
  | _, _ => c

/-- Step 4: the SUMMARY, then the DETAIL reports (R131). -/
def Part.sweepReports (w : Sweep) (r : SweepResults) (c : Part) : Part :=
  match w.runKind with
  | .patrol => c
  | .normal =>
    let c1 := if w.summarised r then c.offerReport .sweep (summaryPayload w c.south.foreign r) else c
    if w.slot.detail then r.values.foldl (fun c v => c.detailReport w v) c1 else c1

/-- A sweep closes: it leaves the tracker and is handed on in four steps (R53); a patrol run may then be complete. The
EVENT reports of what the sequencer answers follow the reports of the close (R134; log entry 14). -/
def Part.closeSweep (w : Sweep) (c : Part) : Part :=
  let c0 : Part := { c with sched.sweeps := c.sched.sweeps.filter (fun x => decide (x.number ≠ w.number)) }
  let ev := c0.holdAnswers.evaluate w
  (((ev.1.account w).silentReport w).sweepReports w ev.2).releaseAnswers.patrolDone

/-- The open sweep with a number. -/
def Scheduler.sweep (s : Scheduler) (n : BitVec 16) : Option Sweep := s.sweeps.find? (fun w => w.number == n)

/-- The close time of a sweep is reached (R53). -/
def Part.closeTime (n : BitVec 16) (c : Part) : Part :=
  match c.sched.sweep n with
  | none => c
  | some w => if atOrAfter c.now w.closeTime then c.closeSweep w else c

/-! ### Samples (R52) -/

/-- The magnitude of the difference between taken-at and S (R52). -/
def skew (taken s : Time) : Nat := if (taken - s).toNat < 2147483648 then (taken - s).toNat else 4294967296 - (taken - s).toNat

/-- A sweep with a sample stored (R52). -/
def Sweep.store (w : Sweep) (p : Nat) (d : SampleData) (skewed : Bool) : Sweep :=
  { w with
    replied := addPos w.replied p, skewed := if skewed then addPos w.skewed p else w.skewed,
    buffers := w.buffers ++ [{ position := p, taken := d.taken, channels := d.channels }] }

/-- A sample passes the three tests and is stored; the sweep closes if every targeted position has replied (R52, R53).
-/
def Part.storeSample (w : Sweep) (p : Nat) (d : SampleData) (c : Part) : Part :=
  let late : Bool := decide (c.tables.header.skewLimit < skew d.taken w.sampleTime)
  let w' := w.store p d late
  let c1 : Part :=
    { c with
      sched.sweeps := c.sched.sweeps.map (fun x => if x.number = w.number then w' else x),
      sched.skewedSamples := if late then bump16 c.sched.skewedSamples else c.sched.skewedSamples }
  if w'.replied = w'.target then c1.closeSweep w' else c1

/-- A SAMPLE from position `p` (R52). -/
def Part.takeSample (p : Nat) (f : Frame) (c : Part) : Part :=
  match parseSample f.payload with
  | none => c.kindDiscard
  | some d =>
    match c.sched.sweep d.sweep with
    | none => { c with sched.lateSamples := bump16 c.sched.lateSamples }
    | some w =>
      if hasPos w.target p = false then { c with sched.unsolicited := bump16 c.sched.unsolicited }
      else if hasPos w.replied p then { c with sched.duplicates := bump16 c.sched.duplicates }
      else c.storeSample w p d

end Sys2Proof.Machine
end

