-- ==== Sys2Proof/Machine/Power.lean ====
section
/-!
DEFINITION. The power controller's moves (chapter 8): sleep entry (R142 to R145), DEEP (R144, R155), the wake from DEEP
(R146 to R148), the start of a patrol (R152) and the wake causes by power state (R145, R146, R153). A move that can take
the part out of DEEP is given the commands `q` that wait, among which the sources stand that arrive together with it.
-/
/-- The commands that can arrive in DEEP together with another wake source (R146; log entry 42). -/
def Sys2Proof.Instr.wakes : Sys2Proof.Instr → Bool
  | .wakeInAssert _ | .northActivity | .tamperInAssert _ | .serviceInDeassert _ | .deepFeedbackClosed _ _ _
  | .watchExpiry _ | .feedbackTimerExpiry _ => true
  | _ => false

namespace Sys2Proof.Machine

/-! ### Leaving ACTIVE -/

/-- The contactors whose feedback reads open. -/
def Lines.openFeedbacks (l : Lines) : ContactorFlags :=
  { kPos := !l.feedback.kPos, kNeg := !l.feedback.kNeg, kPre := !l.feedback.kPre }

/-- The patrol timer's load: the patrol period in µs, if there are power parameters (R141, R151; log entry 27). -/
def Params.patrolLoad (p : Params) : Option Nat := p.power.map (fun q => q.period * 60000000)

/-- A SLEEP that is taken: SLEEP_ENTRY, the supervision timer stopped, step 2 with the end of the normal run, and step 3
at once (R98, R142, R143). -/
def Part.beginSleep (c : Part) : Part :=
  Part.endNormalRun
    { c with power.state := .sleepEntry, power.step := .step3, power.sleepSent := false, interlock.supervision := none }

/-- Steps 3 and 4 of sleep entry: with no sweep open step 4 is reached, and the SLEEP broadcast falls due once the south
queue is empty or the link is not UP (R143). -/
def Part.sleepBroadcastDue (c : Part) : Part :=
  if c.power.state = .sleepEntry ∧ (c.power.step = .step3 ∨ c.power.step = .step4) ∧ c.sched.sweeps.isEmpty = true then
    let c1 : Part := { c with power.step := .step4 }
    if (c1.router.southQueue.isEmpty ∨ c1.south.link ≠ .up) ∧ c1.south.sleepDue = none ∧ c1.power.sleepSent = false then
      { c1 with south.sleepDue := some c1.now }
    else c1
  else c

/-- The moves that the entry to DEEP and the return to it share: the south link OFF, the open-feedback set taken, DEEP,
and the patrol timer started (R144, R155). The record write state stays as it is (log entry 49). -/
def Part.goDeep (c : Part) : Part :=
  let c1 := c.enterOff
  Part.refreshAction
    { c1 with
      power.state := .deep, power.step := .none, power.sleepSent := false, power.leftDeep := .no,
      power.openFeedback := c1.lines.openFeedbacks, power.closedFeedback := {},
      power.patrolTimer := c1.tables.params.patrolLoad, sched.run := none }

/-- The condition of step 5 (R143), with no RESTART taken (log entry 28). -/
def Part.drained (c : Part) : Bool :=
  c.mgmt.requests.isEmpty && c.mgmt.programming.isNone && c.mgmt.responses.isEmpty && c.router.forward.isEmpty &&
  (match c.north.wire with | none => true | some w => w.ended c.now) &&
  decide (c.store.write = .idle) && decide (c.mgmt.restart = .notTaken)

/-- Step 6 of sleep entry (R144). What is left of the interframe gap of the last north frame (R1) goes with the fast
clock: after a wake the north link is free at once (DESIGN CHOICE, log entry 44). -/
def Part.deepEntry (c : Part) : Part :=
  if c.power.state = .sleepEntry ∧ c.power.step = .step5 ∧ c.drained = true then
    Part.goDeep { c with north.wire := none, router.southQueue := [] }
  else c

/-- A patrol returns to DEEP (R155). It does not wait for a record write in progress, which stands still with pack time
until the wake (DESIGN CHOICE, log entry 49). -/
def Part.returnToDeep (c : Part) : Part := Part.goDeep { c with power.patrols := bump16 c.power.patrols }

/-- The SLEEP broadcast ends (R143, R155). -/
def Part.sleepEnd (c : Part) : Part :=
  match c.endedSouth with
  | none => c
  | some w =>
    match w.tag with
    | .sleep =>
      let c1 : Part := { c with south.wire := some w.taken }
      if c1.power.sleepSent = false then c1
      else
        match c1.power.state, c1.power.step with
        | .sleepEntry, .step4 => { c1 with power.step := .step5 }
        | .patrol, .returning => c1.returnToDeep
        | _, _ => c1
    | .plain | .tracked _ | .enum => c

/-! ### Leaving DEEP -/

/-- A running check that waits for the value a feedback now reads passes (R104). -/
def Part.passCheck (k : Contactor) (c : Part) : Part :=
  match (c.seq.contactor k).timer with
  | none => c
  | some t => if t.target = c.feedback k then c.withContactor k { c.seq.contactor k with timer := none } else c

/-- The sequencer runs again after DEEP: a check whose feedback came to read the driven value passes, and the watches
follow their feedbacks (R120). -/
def Part.resumeSequencer (c : Part) : Part := (((c.passCheck .kPos).passCheck .kNeg).passCheck .kPre).updateWatches

/-- One sleep feedback, for a contactor of the set `f`: the watch is taken as SPENT, and a FEEDBACK_LOST is made with
its own cause (R120). -/
def Part.sleepFeedback (f : ContactorFlags) (k : Contactor) (c : Part) : Part :=
  if f.get k then
    let c1 := c.withContactor k { c.seq.contactor k with watch := .spent }
    c1.contactorFault .feedbackLost k .sleepFeedback
  else c

/-- The sleep feedbacks of a set of contactors in the order K+, K−, KP (R147). -/
def Part.sleepFeedbacks (f : ContactorFlags) (c : Part) : Part :=
  ((c.sleepFeedback f .kPos).sleepFeedback f .kNeg).sleepFeedback f .kPre

/-! ### Wake sources that arrive together (R146; log entry 42) -/

/-- The contactors of either set. -/
def ContactorFlags.or (f g : ContactorFlags) : ContactorFlags :=
  { kPos := f.kPos || g.kPos, kNeg := f.kNeg || g.kNeg, kPre := f.kPre || g.kPre }

/-- The contactors of both sets. -/
def ContactorFlags.and (f g : ContactorFlags) : ContactorFlags :=
  { kPos := f.kPos && g.kPos, kNeg := f.kNeg && g.kNeg, kPre := f.kPre && g.kPre }

/-- Some contactor is in the set. -/
def ContactorFlags.any (f : ContactorFlags) : Bool := f.kPos || f.kNeg || f.kPre

/-- The wake sources that arrive together with the one that takes the part out of DEEP: their members, whether WAKE_IN
is asserted, and the feedbacks that read closed. -/
structure Together where
  causes : BitVec 8 := 0
  wakeIn : Bool := false
  closed : ContactorFlags := {}
  deriving DecidableEq, Repr

/-- One more member, if its source is one. -/
def Together.add (source : Bool) (w : WakeCause) (x : Together) : Together :=
  if source then { x with causes := x.causes ||| BitVec.twoPow 8 w.bit } else x

/-- The tamper latch is clear and no programming holds its setting back (R169, R177). -/
def Part.canLatch (c : Part) : Bool := !c.store.copy.tamper && c.mgmt.programming.isNone

/-- The expiry of a contactor's watch has been reached, and its feedback disagrees with its drive. In DEEP this is a
fault that the watch found as pack time came to stand (R105, R145). -/
def Part.watchDue (c : Part) (k : Contactor) : Bool :=
  match (c.seq.contactor k).watch with
  | .timing e => atOrAfter c.now e && c.feedback k != (c.seq.contactor k).drive
  | .armed | .spent => false

/-- The expiry of a contactor's feedback timer has been reached, and its feedback does not read the value it waits for
(R104). -/
def Part.checkDue (c : Part) (k : Contactor) : Bool :=
  match (c.seq.contactor k).timer with
  | none => false
  | some t => atOrAfter c.now t.expiry && c.feedback k != t.target

/-- The sources among the commands that wait while the part leaves DEEP, with the levels that the lines have taken
before each: WAKE_IN becoming asserted, a transition on north-in, the setting of the tamper latch, a feedback of the
open-feedback set that reads closed, and an expiry that the entry to DEEP has overtaken (R145 to R147, R155, R177; log
entry 47). -/
def Part.together (c : Part) (l : Lines) : List Instr → Together
  | [] => {}
  | .wakeInAssert v :: q =>
    let up := decide (v = .asserted)
    let x := c.together { l with wakeIn := up } q
    Together.add (up && !l.wakeIn) .wakeLine { x with wakeIn := x.wakeIn || up }
  | .northActivity :: q => (c.together l q).add true .northActivity
  | .tamperInAssert v :: q =>
    let up := decide (v = .asserted)
    (c.together { l with tamperIn := up } q).add (up && !l.tamperIn && !l.serviceIn && c.canLatch) .tamper
  | .serviceInDeassert v :: q =>
    let up := decide (v = .asserted)
    (c.together { l with serviceIn := up } q).add (!up && l.serviceIn && l.tamperIn && c.canLatch) .tamper
  | .deepFeedbackClosed kPos kNeg kPre :: q =>
    let f : ContactorFlags := { kPos := kPos, kNeg := kNeg, kPre := kPre }
    let x := c.together l q
    Together.add (f.and c.power.openFeedback).any .feedback { x with closed := x.closed.or f }
  | .watchExpiry k :: q => (c.together l q).add (c.watchDue k) .feedback
  | .feedbackTimerExpiry k :: q => (c.together l q).add (c.checkDue k) .feedback
  | _ :: q => c.together l q

/-- The sources that wait arrive before the part wakes: their members join the wake cause set, and the lines they bring
stand. Whichever source is taken first, the set holds both (R146, R147, R149). -/
def Part.arriveTogether (q : List Instr) (c : Part) : Part :=
  let x := c.together c.lines q
  { c with
    lines.wakeIn := c.lines.wakeIn || x.wakeIn,
    lines.feedback := c.lines.feedback.or x.closed,
    power.causes := c.power.causes ||| x.causes,
    power.closedFeedback := c.power.closedFeedback.or (x.closed.and c.power.openFeedback) }

/-- The wake from DEEP to ACTIVE in the order of R148, with its causes in the set. A watch that was SPENT stays so
(R147; log entry 43). -/
def Part.leaveDeep (c : Part) : Part :=
  let c1 := Part.objectsToNormal { c with power.patrolTimer := none }
  let c2 : Part := { c1 with power.state := .active, power.step := .none }
  let c3 := c2.restartSupervision.refreshAction
  let c4 := c3.enterWaking
  let c5 := c4.powerReport .deep false
  (c5.sleepFeedbacks c5.power.closedFeedback).resumeSequencer

/-- A source wakes the part from DEEP while the commands `q` wait (R146, R148). -/
def Part.wakeFromDeep (q : List Instr) (w : WakeCause) (c : Part) : Part := ((c.addCause w).arriveTogether q).leaveDeep

/-- A patrol starts (R152). -/
def Part.startPatrol (c : Part) : Part :=
  let c1 := c.addCause .patrolTimer
  let c2 := Part.objectsToNormal { c1 with power.patrolTimer := none }
  let c3 : Part :=
    { c2 with power.state := .patrol, power.step := .running, power.sleepSent := false, power.leftDeep := .patrol }
  c3.refreshAction.enterWaking.resumeSequencer

/-- The patrol timer expires in DEEP (R151, R152). -/
def Part.patrolExpired (c : Part) : Part :=
  if c.power.state = .deep ∧ c.power.patrolTimer = some 0 then c.startPatrol else c

/-- A wake cause reaches the power controller while the commands `q` wait (R145, R146, R153). In ACTIVE it adds nothing:
a source that arrived together with the one that woke the part was counted at the wake. -/
def Part.powerCause (q : List Instr) (w : WakeCause) (c : Part) : Part :=
  match c.power.state with
  | .active => c
  | .sleepEntry => c.abandonEntry w
  | .deep => c.wakeFromDeep q w
  | .patrol => c.escalate w none

/-! ### Line events -/

/-- WAKE_IN takes a level; becoming asserted is a wake cause (R145, R146, R153; log entry 7). -/
def Part.wakeIn (q : List Instr) (asserted : Bool) (c : Part) : Part :=
  let c1 : Part := { c with lines.wakeIn := asserted }
  if asserted = true ∧ c.lines.wakeIn = false then c1.powerCause q .wakeLine else c1

/-- A transition on north-in while the interface watches (R4). In SLEEP_ENTRY and in ACTIVE it is no event. -/
def Part.northActivity (q : List Instr) (c : Part) : Part :=
  if c.power.state = .sleepEntry then c else c.powerCause q .northActivity

/-- Feedbacks read closed in DEEP (R147): those of the open-feedback set join the closed-feedback set, and the part
wakes. -/
def Part.deepClosed (q : List Instr) (f : ContactorFlags) (c : Part) : Part :=
  let seen := f.and c.power.openFeedback
  let c1 : Part := { c with lines.feedback := c.lines.feedback.or f }
  if seen.any then
    Part.wakeFromDeep q .feedback { c1 with power.closedFeedback := c.power.closedFeedback.or seen }
  else c1

/-- Feedbacks of the open-feedback set read closed together with the patrol timer's expiry, which was taken first: each
is handed to the sequencer, whose fault escalates the patrol at once (R120, R146, R153; log entry 42). -/
def Part.patrolClosed (f : ContactorFlags) (c : Part) : Part :=
  let seen := f.and c.power.openFeedback
  let c1 : Part := { c with lines.feedback := c.lines.feedback.or f }
  (c1.sleepFeedbacks seen).resumeSequencer.advance

/-- DEEP_FEEDBACK_CLOSED by power state: in DEEP it wakes the part, and at the moment at which a patrol starts it is the
second of two sources (R146, R147). At any other time it is no event: together with another source that woke the part it
was counted at the wake. -/
def Part.deepFeedback (q : List Instr) (f : ContactorFlags) (c : Part) : Part :=
  match c.power.state with
  | .deep => c.deepClosed q f
  | .sleepEntry | .active => c
  | .patrol =>
    match c.power.leftDeep with
    | .patrol => c.patrolClosed f
    | .no => c

/-- A feedback line takes a level (R104, R105, R147). -/
def Part.feedbackChange (q : List Instr) (k : Contactor) (closed : Bool) (c : Part) : Part :=
  if c.power.state = .deep then
    if closed then c.deepClosed q (({} : ContactorFlags).set k true)
    else { c with lines.feedback := c.lines.feedback.set k false }
  else
    let c1 : Part := { c with lines.feedback := c.lines.feedback.set k closed }
    ((c1.passCheck k).updateWatch k).advance

/-- A feedback timer's expiry is reached with its check not passed: FAIL_CLOSE or WELD (R104, R106). -/
def Part.failCheck (k : Contactor) (c : Part) : Part :=
  match (c.seq.contactor k).timer with
  | none => c
  | some t =>
    if atOrAfter c.now t.expiry = true then
      let c1 := (c.withContactor k { c.seq.contactor k with timer := none }).updateWatch k
      c1.contactorFault (if t.target then .failClose else .weld) k (faultCause false)
    else c

/-- A watch's mismatch expiry is reached: SPENT, and a FEEDBACK_LOST, with cause SLEEP_FEEDBACK in PATROL (R105,
R120). -/
def Part.spendWatch (k : Contactor) (c : Part) : Part :=
  match (c.seq.contactor k).watch with
  | .timing e =>
    if atOrAfter c.now e = true then
      let c1 := c.withContactor k { c.seq.contactor k with watch := .spent }
      c1.contactorFault .feedbackLost k (faultCause (decide (c.power.state = .patrol)))
    else c
  | .armed | .spent => c

/-- A feedback timer expires while the commands `q` wait. In DEEP the timer stands still: an expiry that the entry to
DEEP has overtaken wakes the part with FEEDBACK, and the check fails once pack time runs (R120, R145, R155; log entry
47). -/
def Part.feedbackExpired (q : List Instr) (k : Contactor) (c : Part) : Part :=
  if c.power.state = .deep then
    if c.checkDue k then (c.wakeFromDeep q .feedback).failCheck k else c
  else c.failCheck k

/-- A watch expires while the commands `q` wait. In DEEP the watch is held: a fault that it found as the part entered
DEEP wakes the part with FEEDBACK, and is made once pack time runs (R120, R145, R155; log entry 47). -/
def Part.watchExpired (q : List Instr) (k : Contactor) (c : Part) : Part :=
  if c.power.state = .deep then
    if c.watchDue k then (c.wakeFromDeep q .feedback).spendWatch k else c
  else c.spendWatch k

/-- The precharge limit timer expires in PRECHARGING (R110). -/
def Part.prechargeExpired (c : Part) : Part :=
  if c.seq.conn = .precharging ∧ timerDue c.now c.seq.prechargeEnd then c.prechargeFail else c

/-- The soft-open wait timer expires in SOFT_OPENING: the under-load reading is kept and OPENING is entered (R115). -/
def Part.softOpenExpired (c : Part) : Part :=
  if c.seq.conn = .softOpening ∧ timerDue c.now c.seq.softEnd then
    Part.startOpening (c.seq.openingCause.getD .request)
      { c with seq.underLoad := c.eval.shunt.map (fun r => (r.current, r.linkVoltage)), seq.softEnd := none }
  else c

/-- The supervision timer expires (R99). -/
def Part.supervisionExpired (c : Part) : Part :=
  if timerDue c.now c.interlock.supervision then
    Part.setCondition .hostSilent { c with interlock.supervision := none, interlock.silence := true }
  else c

end Sys2Proof.Machine
end

