-- ==== Sys2Proof/Machine/Store.lean ====
section
/-!
DEFINITION. The table store's events (chapter 9): the tamper latch and SERVICE_IN (R176, R177), boot (R162), the erase,
the check and the programming (R168 to R170), the record write (R161) and the switch (R171 to R174).
-/
namespace Sys2Proof.Machine

/-! ### Banks -/

/-- One bank replaced. -/
def Store.setBank (s : Store) (n : BankName) (x : Bank) : Store :=
  match n with
  | .a => { s with bankA := x }
  | .b => { s with bankB := x }

/-- An UPDATE report with the states as they stand (R138). -/
def Part.updateReport (o : UpdateOutcome) (bank : BankName) (c : Part) : Part :=
  c.offerReport .priority (updatePayload o bank c.store.update c.store.state c.store.copy.floor)

/-! ### The tamper latch (R177) -/

/-- The trip of TAMPER: its record, and its object with the effective action that follows (R89, R90, R177). -/
def Part.tripTamper (c : Part) : Part :=
  (c.recordTrip (packKey .tamper) c.now none).countTrip (packObject .tamper)

/-- What the setting of the tamper latch asks of the store and hands to the interlock unit (R161, R177). In DEEP the
write waits for the clock: it begins at the wake, with the record copy as the trip has left it, and a lockout flag that
the trip set goes with it. -/
def Part.raiseTamper (c : Part) : Part :=
  if c.power.state = .deep then
    let c1 := c.tripTamper
    Part.requestWrite { c1 with store.write := c.store.write }
  else c.requestWrite.tripTamper

/-- The tamper latch is set while the commands `q` wait: record copy, write, record and object, and the wake cause
(R145, R146, R153, R177; log entry 16). A latch that is set is not set again. -/
def Part.setTamper (q : List Instr) (c : Part) : Part :=
  let c1 := c.readRecord
  if c1.store.copy.tamper then c1
  else Part.powerCause q .tamper (Part.raiseTamper { c1 with store.copy.tamper := true })

/-- What sets the tamper latch has happened: a programming completes first, before any change that SERVICE_IN brings,
and the latch is set at its end (R169, R177; log entry 48). -/
def Part.latchTamper (q : List Instr) (c : Part) : Part :=
  if c.mgmt.programming.isSome then { c with store.tamperPending := true } else c.setTamper q

/-- TAMPER_IN takes a level (R177; log entry 7). -/
def Part.tamperIn (q : List Instr) (asserted : Bool) (c : Part) : Part :=
  let c1 : Part := { c with lines.tamperIn := asserted }
  if asserted = true ∧ c.lines.tamperIn = false ∧ c.lines.serviceIn = false then c1.latchTamper q else c1

/-! ### The deassertion of SERVICE_IN (R176) -/

/-- An open update ends at IDLE with an ABORTED report that names the state it was in; a pending commit is withdrawn
(R50, R176). -/
def Part.abortUpdate (c : Part) : Part :=
  let st := c.store.update
  let c1 : Part := { c with store.update := .idle, store.abortPending := false }
  let c2 := if st = .commitPending then c1.releaseHold else c1
  c2.updateReport (.aborted st) c2.store.target

/-- The abort by update state (R176): an erase or a programming in progress completes first, and a switch is not
stopped. -/
def Part.serviceAbort (c : Part) : Part :=
  match c.store.update with
  | .idle | .switching => c
  | .erasing => { c with store.abortPending := true }
  | .ready | .checking | .commitPending =>
    if c.mgmt.programming.isSome then { c with store.abortPending := true } else c.abortUpdate

/-- SERVICE_IN takes a level: its deassertion aborts an open update, and with TAMPER_IN asserted sets the latch (R176,
R177; log entries 7 and 24). -/
def Part.serviceIn (q : List Instr) (asserted : Bool) (c : Part) : Part :=
  let c1 : Part := { c with lines.serviceIn := asserted }
  if asserted = false ∧ c.lines.serviceIn = true then
    let c2 := c1.serviceAbort
    if c2.lines.tamperIn then c2.latchTamper q else c2
  else c1

/-! ### Boot (R159, R162) -/

/-- The state that boot finds a bank in (R159). -/
def bootState (active : Option BankName) (n : BankName) (m : Memory) : BankState :=
  if active = some n then .active else if m.blank then .erased else .written

/-- Boot step 2: the bank states. -/
def Store.findBanks (s : Store) : Store :=
  { s with
    bankA := { s.bankA with state := bootState s.copy.active .a s.bankA.bytes },
    bankB := { s.bankB with state := bootState s.copy.active .b s.bankB.bytes } }

/-- Boot steps 3 to 5: the active bank's image passes the checks, with a version equal to the floor, and its tables are
loaded; or the store is UNCONFIGURED with the empty tables (R162 to R164). -/
def Store.bootTables (s : Store) : Store :=
  match s.copy.active with
  | none => { s with state := .unconfigured, tables := Tables.empty }
  | some n =>
    let m := (s.bank n).bytes
    if checkImage m (fun v => decide (v = s.copy.floor)) = .staged then
      { s with state := .configured, tables := loadTables m, versionInUse := some (imageVersion m) }
    else { s with state := .unconfigured, tables := Tables.empty }

/-- The tables in use have changed: the effective action is formed afresh and the throttle state retested (R57, R92). -/
def Part.tablesChanged (c : Part) : Part := c.refreshAction.handFill

/-- The boot of a LOADING store (R162). -/
def Part.boot (c : Part) : Part :=
  if c.store.state = .loading then
    let c1 := c.readRecord
    Part.tablesChanged { c1 with store := c1.store.findBanks.bootTables }
  else c

/-! ### Erase, check and programming (R168 to R170) -/

/-- The erase completes (R168, R176). -/
def Part.eraseDone (c : Part) : Part :=
  if c.store.update = .erasing ∧ timerDue c.now c.store.eraseEnd then
    let t := c.store.target
    let store := c.store.setBank t { bytes := [], state := .erased }
    let c1 : Part := { c with store := { store with eraseEnd := none } }
    if c.store.abortPending then
      let c2 := Part.updateReport .erased t { c1 with store.update := .idle, store.abortPending := false }
      c2.updateReport (.aborted .erasing) t
    else Part.updateReport .erased t { c1 with store.update := .ready }
  else c

/-- The version a CHECKED report carries: absent when the format failed (R170). -/
def EndCode.version (e : EndCode) (v : Nat) : Option Nat :=
  match e with
  | .format => none
  | .staged | .length | .crc | .versionLow | .table _ _ => some v

/-- The checks of UPD_CHECK end (R164, R170). -/
def Part.checkDone (c : Part) : Part :=
  if c.store.update = .checking then
    let t := c.store.target
    let m := c.store.targetBank.bytes
    let e := checkImage m (fun v => decide (c.store.copy.floor < v))
    let v := imageVersion m
    let c1 : Part := { c with store.update := .ready }
    let c2 : Part :=
      if e = .staged then
        { c1 with store := { c1.store.setBank t { bytes := m, state := .staged } with staged := some v } }
      else c1
    c2.updateReport (.checked e (e.version v)) t
  else c

/-- The MGMT_REQ that a programming answers, as far as its response needs it. -/
def Programming.request (p : Programming) : Frame :=
  { dest := 0, source := 0, kind := .mgmtReq, seq := p.seq, status := 0, payload := [17] }

/-- Programming ends: the bytes stand in the target bank, which is WRITTEN and no longer STAGED, the response is made,
and a deassertion of SERVICE_IN that waited takes effect, with the tamper latch if that is to be set (R169, R176, R177).
-/
def Part.programmed (q : List Instr) (p : Programming) (c : Part) : Part :=
  let t := c.store.target
  let m := c.store.targetBank.bytes.writeAll p.offset p.data
  let c1 : Part :=
    { c with
      store := { c.store.setBank t { bytes := m, state := .written } with staged := none },
      mgmt.programming := none }
  let c2 := c1.respond p.request .ok []
  let c3 := if c2.store.abortPending then c2.abortUpdate else c2
  if c3.store.tamperPending then Part.setTamper q { c3 with store.tamperPending := false } else c3

/-! ### The service record write (R161) -/

/-- The fields and the end of the write in progress. -/
def RecordWrite.current : RecordWrite → Option (ServiceRecord × Time)
  | .idle => none
  | .inProgress f d => some (f, d)
  | .inProgressWaiting f d => some (f, d)

/-- A bank after the record write of a switch: the bank that was ACTIVE is RETIRED (R159, R172). -/
def Bank.retire (b : Bank) : Bank := if b.state = .active then { b with state := .retired } else b

/-- The record write of a switch is complete: the bank states change and the load of 2 ms begins (R172). -/
def Part.switchWritten (c : Part) : Part :=
  let s := { c.store with bankA := c.store.bankA.retire, bankB := c.store.bankB.retire, staged := none }
  let s1 :=
    match s.copy.active with
    | none => s
    | some n => s.setBank n { s.bank n with state := .active }
  { c with store := { s1 with switch := .loading (laterMs c.now 2) } }

/-- A write completes: the record in memory is the one it wrote, a waiting write begins, and a switch whose write this
was goes on (R161, R172). The end is a pack time, so a write that a return to DEEP found in progress completes after
the wake (DESIGN CHOICE, log entry 49). -/
def Part.recordWritten (c : Part) : Part :=
  match c.store.write.current with
  | none => c
  | some (f, done) =>
    if atOrAfter c.now done then
      let next : RecordWrite :=
        match c.store.write with
        | .inProgressWaiting _ _ => .inProgress c.store.copy (later c.now 6000)
        | .idle => .idle
        | .inProgress _ _ => .idle
      let c1 : Part := { c with store.record := some f, store.write := next }
      match c1.store.switch with
      | .writing => c1.switchWritten
      | .waiting => { c1 with store.switch := .writing }
      | .none => c1
      | .loading _ => c1
    else c

/-! ### The switch (R171 to R174) -/

/-- COMMIT_PENDING can end in a switch (R171). -/
def Part.switchReady (c : Part) : Bool :=
  decide (c.store.update = .commitPending) && c.sched.sweeps.isEmpty && (!c.normalRun || c.sched.holdInEffect)

/-- Entry to SWITCHING (R172). -/
def Part.switchStart (c : Part) : Part :=
  if c.switchReady then
    let phase : SwitchPhase := if c.store.write = .idle then .writing else .waiting
    Part.requestWrite
      { c with
        store.copy := { c.store.copy with active := some c.store.target, floor := c.store.staged.getD c.store.copy.floor },
        store.update := .switching, store.switch := phase }
  else c

/-- Steps 2 to 4 of R173, with the tables in use replaced: records, objects and counts; the identity check; and then,
once for the whole switch, the effective action. R92 forms it "at once" when the tables change and R94 at each change of
class activity; that within the one event of a switch this is step 4, after the recheck, is R173's order (DEDUCED, log
entry 41). -/
def Part.switchTables (c : Part) : Part :=
  let c1 := c.removeRecords.objectsToNormal .later
  let c2 : Part := { c1 with sched.slotMiss := Vector.replicate 24 0 }
  (c2.identityCheck .later).refreshAction

/-- The load succeeds (R173). -/
def Part.switchDone (n : BankName) (c : Part) : Part :=
  let c1 := Part.switchTables
    { c with
      store.tables := loadTables (c.store.bank n).bytes, store.state := .configured,
      store.versionInUse := some c.store.copy.floor }
  let c2 : Part := { c1.handFill with sched.hold := false, sched.holdInEffect := false }
  let c3 := c2.startNormalRun false
  Part.updateReport (.switched c3.store.copy.floor) n
    { c3 with store.update := .idle, store.switch := .none, store.abortPending := false }

/-- The load fails (R174). -/
def Part.switchFailed (n : BankName) (c : Part) : Part :=
  let c1 := Part.switchTables
    { c with store.tables := Tables.empty, store.state := .unconfigured, store.versionInUse := none }
  let c2 : Part := { c1.handFill with sched.hold := false, sched.holdInEffect := false, sched.state := .stopped }
  let c3 := c2.endRun.eventClass .configSwitch
  Part.updateReport .switchFailed n { c3 with store.update := .idle, store.switch := .none, store.abortPending := false }

/-- The load of a switch ends: its CRC-32 decides (R172). -/
def Part.loadDone (c : Part) : Part :=
  match c.store.switch, c.store.copy.active with
  | .loading done, some n =>
    if atOrAfter c.now done then
      if crcOk (c.store.bank n).bytes then c.switchDone n else c.switchFailed n
    else c
  | _, _ => c

end Sys2Proof.Machine
end

