-- ==== Sys2Proof/Machine/Management.lean ====
section
/-!
DEFINITION. The management engine (chapter 10): acceptance (R181), the north transmit arbiter (R17, R182), the execution
of the request at the head of the queue (R183), and the answer of each of the 25 requests by its own rule.
-/
namespace Sys2Proof.Machine

/-! ### Acceptance (R181) -/

/-- A MGMT_REQ for node 0 arrives: accepted with its effects while a place is free, and otherwise an overflow (R98, R99,
R150, R181). -/
def Part.acceptRequest (f : Frame) (c : Part) : Part :=
  if c.mgmt.places < 4 then
    let c1 := Part.clearSilence { c with mgmt.requests := c.mgmt.requests ++ [f] }
    let c2 := if c1.power.state = .active then c1.restartSupervision else c1
    { c2 with power.hostWake := false }
  else { c with mgmt.overflow := bump16 c.mgmt.overflow }

/-! ### North transmission (R17) -/

/-- The part with a frame started on north-out. -/
def Part.putNorth (f : Frame) (c : Part) : Part := { c with north.wire := some (startFrame f .plain c.now) }

/-- The OK response of a RESTART starts: its end is known (R191). -/
def Part.noteRestart (r : Response) (c : Part) : Part :=
  if r.restart then { c with mgmt.restart := .answered (later c.now r.frame.wireTime) } else c

/-- The north transmit arbiter starts the next frame (R17, R128, R182). -/
def Part.northTransmit (c : Part) : Part :=
  if c.northRunning = false ∨ linkFree c.now c.north.wire = false then c
  else
    match c.mgmt.responses with
    | r :: rest => Part.noteRestart r (Part.putNorth r.frame { c with mgmt.responses := rest })
    | [] =>
      match c.router.forward with
      | e :: rest => Part.putNorth e.frame { c with router.forward := rest }
      | [] =>
        match c.power.state, c.reports.queue with
        | .active, q :: rest => Part.handFill (Part.putNorth q.frame { c with reports.queue := rest })
        | _, _ => c

/-! ### Execution (R183) -/

/-- The request that the engine can execute: the head of its queue, with no programming in progress and no RESTART taken
(R183, R191). -/
def Part.headRequest (c : Part) : Option Frame :=
  if c.mgmt.programming.isSome ∨ c.mgmt.restart ≠ .notTaken then none else c.mgmt.requests.head?

/-- The head has left the request queue. -/
def Part.popRequest (c : Part) : Part := { c with mgmt.requests := c.mgmt.requests.drop 1 }

/-- The engine executes the head if it is the request given: BUSY while LOADING except for STATUS, BAD_ARGUMENT for its
length or an argument out of range, and otherwise its own rule (R183; log entry 6). -/
def Part.serve (r : Request) (rule : Frame → Part → Part) (c : Part) : Part :=
  match c.headRequest with
  | none => c
  | some f =>
    if f.request ≠ some r then c
    else if c.store.state = .loading ∧ r ≠ .status then c.popRequest.respond f .busy []
    else if f.argumentsOk r = false then c.popRequest.respond f .badArgument []
    else rule f c.popRequest

/-- A request with an empty payload or an unknown code (R183). -/
def Part.serveUnknown (c : Part) : Part :=
  match c.headRequest with
  | none => c
  | some f => if f.request = none then c.popRequest.respond f .unknownRequest [] else c

/-! ### Requests of the management engine itself (R186 to R191) -/

/-- STATUS (R130, R186). -/
def Part.doStatus (f : Frame) (c : Part) : Part :=
  { c.respond f .ok c.statusData with reports.priorityLoss := false }

/-- Every counter of R187 at 0. -/
def Part.clearCounters (c : Part) : Part :=
  { c with
    north.crcErrors := 0, south.crcErrors := 0, kindDiscards := 0, south.downEvents := 0, south.retries := 0,
    router.late := 0, sched.lateSamples := 0, sched.unsolicited := 0, sched.duplicates := 0, sched.skewedSamples := 0,
    sched.missedSlots := 0, sched.shedSlots := 0, router.refusalsDiscarded := 0, reports.sweepDiscarded := 0,
    reports.priorityDiscarded := 0, eval.recordsLost := 0, south.spoofs := 0, mgmt.overflow := 0, power.patrols := 0,
    seq.overwritten := 0, sched.slotMiss := Vector.replicate 24 0 }

/-- READ_COUNTERS (R187). -/
def Part.doReadCounters (f : Frame) (c : Part) : Part :=
  let c1 := c.respond f .ok c.countersData
  if f.byte 1 = 1 then c1.clearCounters else c1

/-- KEEPALIVE (R188). -/
def Part.doKeepalive (f : Frame) (c : Part) : Part := c.respond f .ok c.keepaliveData

/-- READ_IMAGE (R189). -/
def Part.doReadImage (f : Frame) (c : Part) : Part :=
  match c.store.copy.active with
  | none => c.respond f .state []
  | some n =>
    let offset := f.field 1 2
    let count := f.field 3 1
    c.respond f .ok (be 2 offset ++ [byte count] ++ (c.store.bank n).bytes.readAll offset count)

/-- RESET_SOUTH (R15, R190). -/
def Part.doResetSouth (f : Frame) (c : Part) : Part :=
  let c1 := c.resetSouth
  c1.respond f .ok [byte c1.south.link.code]

/-- The answer to RESTART (R191). -/
def Part.restartStatus (c : Part) : Status :=
  if c.seq.conn.atRest = false then .state else if c.store.update ≠ .idle then .updating else .ok

/-- RESTART (R191). -/
def Part.doRestart (f : Frame) (c : Part) : Part :=
  if c.restartStatus = .ok then
    { c with
      mgmt.responses := c.mgmt.responses ++ [{ frame := responseFrame f .ok [], restart := true }],
      mgmt.restart := .taken }
  else c.respond f c.restartStatus []

/-! ### Faults and events (R83, R91, R123) -/

/-- READ_FAULTS: up to three records from the start index; those returned that are CLEARED are removed (R83). -/
def Part.doReadFaults (f : Frame) (c : Part) : Part :=
  let start := (f.byte 1).toNat
  let rs := c.eval.records
  let returned := (rs.drop start).take 3
  let c1 := c.respond f .ok (faultsData rs.length returned)
  { c1 with eval.records := rs.take start ++ returned.filter (·.active) ++ rs.drop (start + 3) }

/-- ACK_FAULTS (R91). -/
def Part.doAckFaults (f : Frame) (c : Part) : Part :=
  let c1 := c.ackFaults (BitVec.ofNat 16 (f.field 1 2))
  c1.respond f .ok c1.ackData

/-- READ_EVENTS: the up to three oldest records, which are removed (R123). -/
def Part.doReadEvents (f : Frame) (c : Part) : Part :=
  let es := c.seq.events
  let c1 := c.respond f .ok (eventsData es.length c.seq.overwritten (es.take 3))
  { c1 with seq.events := es.drop 3 }

/-! ### The contactors (R107, R114, R119) -/

/-- The answer to CONNECT (R107). -/
def Part.connectStatus (c : Part) : Status :=
  if c.seq.conn ≠ .opened then .state
  else if c.power.state ≠ .active then .notActive
  else if c.store.state = .unconfigured then .unconfigured
  else if c.store.update ≠ .idle then .updating
  else if Action.blockClose.code ≤ c.interlock.effective.code ∨ c.store.copy.tamper = true then .blocked
  else .ok

/-- CONNECT (R107, R108). -/
def Part.doConnect (f : Frame) (c : Part) : Part :=
  if c.connectStatus = .ok then
    let c1 := c.enterNeg
    c1.respond f .ok [byte c1.seq.conn.code]
  else c.respond f c.connectStatus []

/-- DISCONNECT (R114). -/
def Part.doDisconnect (f : Frame) (c : Part) : Part :=
  let c1 := c.softDisconnect
  c1.respond f .ok [byte c1.seq.conn.code]

/-- DISCONNECT_NOW (R114). -/
def Part.doDisconnectNow (f : Frame) (c : Part) : Part :=
  let c1 := c.hardDisconnect
  c1.respond f .ok [byte c1.seq.conn.code]

/-- Some active class has the action LOCKOUT in the table in use (R119). -/
def Part.lockoutClass (c : Part) : Bool := c.activeClasses.any (fun k => c.tables.actionOf k == some .lockout)

/-- The answer to CLEAR_LOCKOUT (R119). -/
def Part.clearLockoutStatus (c : Part) : Status :=
  if c.seq.conn ≠ .lockedOut then .state
  else if c.power.state ≠ .active then .notActive
  else if c.lines.serviceIn = false then .noService
  else if c.lines.feedback.kPos = true ∨ c.lines.feedback.kNeg = true ∨ c.lines.feedback.kPre = true then .feedback
  else if c.lockoutClass then .blocked
  else .ok

/-- LOCKED_OUT is left: OPEN, the flag cleared, a write asked for, a LOCKOUT_CLEAR record, FAULT_OUT (R119). Lockout
pending, which a contactor fault in LOCKED_OUT sets, is cleared: it cannot stand in OPEN (R106, R107; log entry 18). -/
def Part.leaveLockedOut (c : Part) : Part :=
  let c1 : Part := { c with seq.conn := .opened, seq.pendingLockout := none, store.copy.lockout := false }
  (c1.requestWrite.logEvent .lockoutClear none .request .lockedOut .opened).driveFaultOut

/-- CLEAR_LOCKOUT (R119). -/
def Part.doClearLockout (f : Frame) (c : Part) : Part :=
  if c.clearLockoutStatus = .ok then c.leaveLockedOut.respond f .ok [] else c.respond f c.clearLockoutStatus []

/-! ### The schedule (R41, R44, R46) -/

/-- The answer to SCHEDULE_START (R44). -/
def Part.scheduleStartStatus (c : Part) : Status :=
  if c.store.state = .unconfigured then .unconfigured
  else if c.power.state ≠ .active then .notActive
  else if c.store.update = .commitPending ∨ c.store.update = .switching then .updating
  else if c.sched.state = .running then .state
  else .ok

/-- SCHEDULE_START (R44). -/
def Part.doScheduleStart (f : Frame) (c : Part) : Part :=
  if c.scheduleStartStatus = .ok then
    Part.respond f .ok [] (Part.startNormalRun false { c with sched.state := .running })
  else c.respond f c.scheduleStartStatus []

/-- SCHEDULE_STOP (R46, R50). -/
def Part.doScheduleStop (f : Frame) (c : Part) : Part :=
  let c1 := if c.sched.state = .running then Part.endNormalRun { c with sched.state := .stopped } else c
  c1.respond f .ok []

/-- A time moved forward by `d`. -/
def moveTime (d : BitVec 32) (t : Option Time) : Option Time := t.map (· + d)

/-- A contactor's timer and watch moved by `d`. -/
def ContactorState.move (d : BitVec 32) (x : ContactorState) : ContactorState :=
  { x with
    timer := x.timer.map (fun t => { t with expiry := t.expiry + d }),
    watch := match x.watch with | .timing e => .timing (e + d) | .armed => .armed | .spent => .spent }

/-- A record's deadline moved by `d`. -/
def TxRecord.move (d : BitVec 32) (r : TxRecord) : TxRecord :=
  { r with state := match r.state with | .queued => .queued | .sent t => .sent (t + d) }

/-- A wire's start moved by `d`. -/
def OnWire.move (d : BitVec 32) (w : OnWire) : OnWire := { w with start := w.start + d }

/-- A record write's end moved by `d`. -/
def RecordWrite.move (d : BitVec 32) : RecordWrite → RecordWrite
  | .idle => .idle
  | .inProgress f t => .inProgress f (t + d)
  | .inProgressWaiting f t => .inProgressWaiting f (t + d)

/-- A switch's load end moved by `d`. -/
def SwitchPhase.move (d : BitVec 32) : SwitchPhase → SwitchPhase
  | .none => .none
  | .waiting => .waiting
  | .writing => .writing
  | .loading t => .loading (t + d)

/-- A taken RESTART's end moved by `d`. -/
def RestartState.move (d : BitVec 32) : RestartState → RestartState
  | .notTaken => .notTaken
  | .taken => .taken
  | .answered t => .answered (t + d)

/-- Pack time becomes `v`, and every time still to be compared with now moves with it (R41; log entry 35). -/
def Part.setTime (v : Time) (c : Part) : Part :=
  let d := v - c.now
  { c with
    sched.packTime := v,
    north.wire := c.north.wire.map (OnWire.move d), south.wire := c.south.wire.map (OnWire.move d),
    south.retry := moveTime d c.south.retry, south.window := moveTime d c.south.window,
    south.bringAt := moveTime d c.south.bringAt, south.bringDue := moveTime d c.south.bringDue,
    south.sleepDue := moveTime d c.south.sleepDue,
    router.tracker := c.router.tracker.map (TxRecord.move d),
    eval.shunt := c.eval.shunt.map (fun r => { r with sampleTime := r.sampleTime + d }),
    interlock.supervision := moveTime d c.interlock.supervision,
    seq.kPos := c.seq.kPos.move d, seq.kNeg := c.seq.kNeg.move d, seq.kPre := c.seq.kPre.move d,
    seq.tPc := moveTime d c.seq.tPc, seq.prechargeEnd := moveTime d c.seq.prechargeEnd,
    seq.tSo := moveTime d c.seq.tSo, seq.softEnd := moveTime d c.seq.softEnd,
    store.eraseEnd := moveTime d c.store.eraseEnd, store.write := c.store.write.move d,
    store.switch := c.store.switch.move d, mgmt.restart := c.mgmt.restart.move d }

/-- The answer to SET_TIME (R41). -/
def Part.setTimeStatus (c : Part) : Status :=
  if c.sched.state = .running then .state else if c.sched.sweeps.isEmpty = false then .busy else .ok

/-- SET_TIME (R41). -/
def Part.doSetTime (f : Frame) (c : Part) : Part :=
  if c.setTimeStatus = .ok then (c.setTime (BitVec.ofNat 32 (f.field 1 4))).respond f .ok []
  else c.respond f c.setTimeStatus []

/-! ### Sleep (R142) -/

/-- The answer to SLEEP (R142). -/
def Part.sleepStatus (c : Part) : Status :=
  if c.power.state ≠ .active then .state
  else if c.seq.conn.atRest = false then .state
  else if c.store.update ≠ .idle then .updating
  else if c.router.tracker.isEmpty = false then .busy
  else .ok

/-- SLEEP (R142, R143). -/
def Part.doSleep (f : Frame) (c : Part) : Part :=
  if c.sleepStatus = .ok then
    let c1 := c.beginSleep
    c1.respond f .ok [byte c1.power.state.code]
  else c.respond f c.sleepStatus []

/-! ### The update (R166 to R171, R175, R179) and CLEAR_TAMPER (R178) -/

/-- The answer to UPD_OPEN (R167). -/
def Part.openStatus (c : Part) : Status :=
  if c.power.state ≠ .active then .notActive
  else if c.store.update ≠ .idle then .updating
  else if c.seq.conn.atRest = false then .state
  else if c.lines.serviceIn = false then .noService
  else if c.store.copy.tamper then .tamper
  else .ok

/-- UPD_OPEN (R167). -/
def Part.doUpdOpen (f : Frame) (c : Part) : Part :=
  if c.openStatus = .ok then
    let c1 : Part := { c with store.update := .ready, store.abortPending := false }
    c1.respond f .ok c1.openData
  else c.respond f c.openStatus []

/-- The answer of the states other than READY to UPD_ERASE, UPD_WRITE, UPD_CHECK and UPD_COMMIT (R166). -/
def UpdateState.gate : UpdateState → Status
  | .idle => .state
  | .ready => .ok
  | .erasing => .busy
  | .checking => .busy
  | .commitPending => .state
  | .switching => .busy

/-- UPD_ERASE (R168). -/
def Part.doUpdErase (f : Frame) (c : Part) : Part :=
  if c.store.update.gate = .ok then
    Part.respond f .ok []
      { c with store.update := .erasing, store.eraseEnd := some (laterMs c.now 40), store.staged := none }
  else c.respond f c.store.update.gate []

/-- The bytes to program still hold the erased value (R169). -/
def Part.writable (c : Part) (offset count : Nat) : Bool :=
  (c.store.targetBank.bytes.readAll offset count).all (fun b => b == erasedByte)

/-- UPD_WRITE: programming begins and holds the engine (R169, R183). -/
def Part.doUpdWrite (f : Frame) (c : Part) : Part :=
  if c.store.update.gate = .ok then
    if c.writable (f.field 1 2) (f.field 3 1) then
      { c with mgmt.programming := some { seq := f.seq, offset := f.field 1 2, data := f.payload.drop 4 } }
    else c.respond f .notErased []
  else c.respond f c.store.update.gate []

/-- UPD_CHECK (R170). -/
def Part.doUpdCheck (f : Frame) (c : Part) : Part :=
  if c.store.update.gate = .ok then
    if c.store.targetBank.state = .written then Part.respond f .ok [] { c with store.update := .checking }
    else c.respond f .state []
  else c.respond f c.store.update.gate []

/-- UPD_COMMIT (R50, R171). -/
def Part.doUpdCommit (f : Frame) (c : Part) : Part :=
  if c.store.update.gate = .ok then
    if c.store.targetBank.state = .staged then
      let hold := if c.normalRun then true else c.sched.hold
      Part.respond f .ok [] { c with store.update := .commitPending, sched.hold := hold }
    else c.respond f .state []
  else c.respond f c.store.update.gate []

/-- UPD_ABORT (R50, R166, R175). -/
def Part.doUpdAbort (f : Frame) (c : Part) : Part :=
  match c.store.update with
  | .idle => c.respond f .ok []
  | .ready => Part.respond f .ok [] { c with store.update := .idle }
  | .checking => Part.respond f .ok [] { c with store.update := .idle }
  | .commitPending => Part.respond f .ok [] (Part.releaseHold { c with store.update := .idle })
  | .erasing => c.respond f .busy []
  | .switching => c.respond f .busy []

/-- UPD_STATUS (R179). -/
def Part.doUpdStatus (f : Frame) (c : Part) : Part := c.respond f .ok c.updateData

/-- The answer to CLEAR_TAMPER (R178). -/
def Part.clearTamperStatus (c : Part) : Status :=
  if c.lines.serviceIn = false then .noService else if c.lines.tamperIn then .tamperOpen else .ok

/-- The tamper latch is cleared, if it is set (R89, R90, R178). -/
def Part.clearTamper (c : Part) : Part :=
  if c.store.copy.tamper then Part.clearCondition .tamper (Part.requestWrite { c with store.copy.tamper := false }) else c

/-- CLEAR_TAMPER (R178). -/
def Part.doClearTamper (f : Frame) (c : Part) : Part :=
  if c.clearTamperStatus = .ok then c.clearTamper.respond f .ok [] else c.respond f c.clearTamperStatus []

end Sys2Proof.Machine
end

