-- ==== Sys2Proof/Machine/Resets.lean ====
section
/-!
DEFINITION. Resets (R19, R39, R60, R100, R124, R156, R180, R185, R191), the sorting of received frames (R2 to R5), and
the tick of the clocks (R40, R151).
-/
namespace Sys2Proof.Machine

/-! ### What a reset cuts off in non-volatile memory (R161, R168, R169, R180; log entry 11) -/

/-- `n` free bytes from the free value numbered `i`. -/
def freeBytes (i n : Nat) : List Byte := (List.range n).map (fun k => Config.freeByte (i + k))

/-- A write of `new` that is cut off may leave it in place of `old` (R161). Not so where it changes the lockout flag, or
clears the tamper latch: then the old record is found (R118, R119, R178). -/
def ServiceRecord.mayLand (old new : ServiceRecord) : Bool := old.lockout == new.lockout && (!old.tamper || new.tamper)

/-- A record write that is cut off leaves the old record, or, where R161 and R180 leave both open, the old one or the
new one, freely (log entry 11). -/
def Part.cutRecord (c : Part) : Part :=
  match c.store.write.current with
  | none => c
  | some (f, _) =>
    if c.store.recordAsRead.mayLand f then
      { c with
        store.record := if Config.freeChoice c.freeIndex then some f else c.store.record, freeIndex := c.freeIndex + 1 }
    else c

/-- An erase in progress leaves the target bank partly erased. -/
def Part.cutErase (c : Part) : Part :=
  if c.store.update = .erasing then
    let t := c.store.target
    { c with
      store := c.store.setBank t { bytes := c.store.targetBank.bytes.writeAll 0 (freeBytes c.freeIndex bankSize), state := .erased },
      freeIndex := c.freeIndex + bankSize }
  else c

/-- A programming in progress leaves its bytes undefined. -/
def Part.cutProgramming (c : Part) : Part :=
  match c.mgmt.programming with
  | none => c
  | some p =>
    if p.offset + p.data.length ≤ bankSize then
      let t := c.store.target
      { c with
        store := c.store.setBank t
          { bytes := c.store.targetBank.bytes.writeAll p.offset (freeBytes c.freeIndex p.data.length), state := .written },
        freeIndex := c.freeIndex + p.data.length }
    else c

/-- A reset: every block at its reset values; the banks' bytes and the service record stay in non-volatile memory, but
for what the reset cut off; the lines stay as they are (log entry 9), and the watches follow their feedbacks (R105,
R124). -/
def Part.resetPart (c : Part) : Part :=
  let c1 := c.cutErase.cutProgramming.cutRecord
  let fresh : Part := {}
  Part.updateWatches
    { fresh with
      lines := c1.lines,
      store := { fresh.store with bankA := { bytes := c1.store.bankA.bytes }, bankB := { bytes := c1.store.bankB.bytes },
                                  record := c1.store.record },
      freeIndex := c1.freeIndex }

/-- RESTART takes effect once its OK response has ended and the record write state is idle (R19, R191). -/
def Part.restartEffect (c : Part) : Part :=
  match c.mgmt.restart with
  | .answered ends => if atOrAfter c.now ends = true ∧ c.store.write = .idle then c.resetPart else c
  | .notTaken => c
  | .taken => c

/-! ### Received frames -/

/-- A north-in reception while the commands `q` wait (R2 to R4): while the interface watches, its first transition is a
wake cause and the frame is lost; while it runs, the frame is sorted. -/
def Part.receiveNorth (q : List Instr) (r : Reception) (c : Part) : Part :=
  if c.northRunning then
    match sortNorth r with
    | .checkFail => { c with north.crcErrors := bump16 c.north.crcErrors }
    | .discard => c.kindDiscard
    | .request f => c.acceptRequest f
    | .command f => c.admitCommand f
    | .broadcast f => c.admitBroadcast f
  else c.northActivity q

/-- A south-in reception (R2, R5, R11): in OFF nothing is received. -/
def Part.receiveSouth (r : Reception) (c : Part) : Part :=
  if c.south.link = .off then c
  else
    match sortSouth r with
    | .checkFail => c.southCheckFail
    | .discard => c.goodFrame.kindDiscard
    | .spoof => c.goodFrame.takeSpoof
    | .response p f => c.goodFrame.takeResponse p f
    | .sample p f => c.goodFrame.takeSample p f
    | .enumReply p f => c.goodFrame.takeEnumReply p f

/-! ### The clocks (R40, R151; log entry 1) -/

/-- A wire whose frame and gap are over is free. -/
def freeWire (now : Time) (w : Option OnWire) : Option OnWire := if linkFree now w then none else w

/-- One microsecond: pack time advances outside DEEP, where the moment of a patrol's start is then over, and in DEEP the
patrol timer counts down. -/
def Part.tick (c : Part) : Part :=
  if c.power.state = .deep then { c with power.patrolTimer := c.power.patrolTimer.map (· - 1) }
  else
    let t := c.now + 1
    { c with
      sched.packTime := t, north.wire := freeWire t c.north.wire, south.wire := freeWire t c.south.wire,
      power.leftDeep := .no }

/-! ### The outcome of a command -/

/-- A command that acts on the part: the next state holds the part it leaves, and the queue as it was. -/
def State.effect (f : Part → Part) (s : State) : Host.Outcome State Fault Refusal := .next { s with part := f s.part }

end Sys2Proof.Machine
end

