-- ==== Sys2Proof/Machine/ContactorCommands.lean ====
section
/-!
DEFINITION. The commands of the interlock unit and the contactor sequencer (R99, R104, R105, R110, R115).
-/
namespace Sys2Proof.Machine

/-- SUPERVISION_EXPIRY: the silence condition is set (R99). -/
def execSupervisionExpiry (s : State) : Host.Outcome State Fault Refusal := s.effect Part.supervisionExpired

/-- FEEDBACK_LINE_CHANGE: a feedback takes a level (R104, R105, R147). -/
def execFeedbackLineChange (k : Contactor) (closed : Bool) (s : State) : Host.Outcome State Fault Refusal :=
  s.effect (Part.feedbackChange s.pending k closed)

/-- FEEDBACK_TIMER_EXPIRY: a check fails as FAIL_CLOSE or WELD (R104, R106, R145). -/
def execFeedbackTimerExpiry (k : Contactor) (s : State) : Host.Outcome State Fault Refusal :=
  s.effect (Part.feedbackExpired s.pending k)

/-- WATCH_EXPIRY: a mismatch becomes a FEEDBACK_LOST (R105, R106, R145). -/
def execWatchExpiry (k : Contactor) (s : State) : Host.Outcome State Fault Refusal :=
  s.effect (Part.watchExpired s.pending k)

/-- PRECHARGE_LIMIT_EXPIRY: the precharge fails (R110). -/
def execPrechargeLimitExpiry (s : State) : Host.Outcome State Fault Refusal := s.effect Part.prechargeExpired

/-- SOFT_OPEN_WAIT_EXPIRY: the under-load reading is kept and OPENING is entered (R115). -/
def execSoftOpenWaitExpiry (s : State) : Host.Outcome State Fault Refusal := s.effect Part.softOpenExpired

end Sys2Proof.Machine
end

