-- ==== Sys2Proof/Machine/NorthCommands.lean ====
section
/-!
DEFINITION. The commands of the north link (R2 to R4, R17): frames received, activity while watching, transmissions.
-/
namespace Sys2Proof.Machine

/-- NORTH_FRAME_CHECK_FAIL: a frame that fails the check is counted (R2). -/
def execNorthFrameCheckFail (r : Reception) (s : State) : Host.Outcome State Fault Refusal :=
  s.effect (Part.receiveNorth s.pending r)

/-- NORTH_FRAME_DISCARD: a checked frame that is not handled is counted (R3). -/
def execNorthFrameDiscard (bytes : List Byte) (s : State) : Host.Outcome State Fault Refusal :=
  s.effect (Part.receiveNorth s.pending (.frame bytes))

/-- MGMT_REQ_ACCEPT: a MGMT_REQ for node 0 is accepted or overflows (R3, R181). -/
def execMgmtReqAccept (bytes : List Byte) (s : State) : Host.Outcome State Fault Refusal :=
  s.effect (Part.receiveNorth s.pending (.frame bytes))

/-- NORTH_COMMAND: a COMMAND for destination 1 to 30 is admitted or answered (R3, R25). -/
def execNorthCommand (bytes : List Byte) (s : State) : Host.Outcome State Fault Refusal :=
  s.effect (Part.receiveNorth s.pending (.frame bytes))

/-- BROADCAST_COMMAND: a COMMAND for destination 31 is forwarded or refused (R3, R26). -/
def execBroadcastCommand (bytes : List Byte) (s : State) : Host.Outcome State Fault Refusal :=
  s.effect (Part.receiveNorth s.pending (.frame bytes))

/-- NORTH_ACTIVITY: the first transition while the interface watches (R4). -/
def execNorthActivity (s : State) : Host.Outcome State Fault Refusal := s.effect (Part.northActivity s.pending)

/-- NORTH_TRANSMIT_START: the arbiter starts the next frame on a free link (R17). -/
def execNorthTransmitStart (s : State) : Host.Outcome State Fault Refusal := s.effect Part.northTransmit

end Sys2Proof.Machine
end

