-- ==== Sys2Proof/Machine/PowerCommands.lean ====
section
/-!
DEFINITION. The commands of the power controller and the lines it watches (chapter 8, R176, R177).
-/
namespace Sys2Proof.Machine

/-- WAKE_IN_ASSERT (R145, R146, R153). -/
def execWakeInAssert (level : Level) (s : State) : Host.Outcome State Fault Refusal :=
  s.effect (Part.wakeIn s.pending (decide (level = .asserted)))

/-- TAMPER_IN_ASSERT (R177). -/
def execTamperInAssert (level : Level) (s : State) : Host.Outcome State Fault Refusal :=
  s.effect (Part.tamperIn s.pending (decide (level = .asserted)))

/-- SERVICE_IN_DEASSERT (R176, R177). -/
def execServiceInDeassert (level : Level) (s : State) : Host.Outcome State Fault Refusal :=
  s.effect (Part.serviceIn s.pending (decide (level = .asserted)))

/-- DEEP_FEEDBACK_CLOSED: feedbacks read closed in DEEP, or together with the source that took the part out of it (R146,
R147). -/
def execDeepFeedbackClosed (kPos kNeg kPre : Bool) (s : State) : Host.Outcome State Fault Refusal :=
  s.effect (Part.deepFeedback s.pending { kPos := kPos, kNeg := kNeg, kPre := kPre })

/-- PATROL_TIMER_EXPIRY: a patrol starts (R152). -/
def execPatrolTimerExpiry (s : State) : Host.Outcome State Fault Refusal := s.effect Part.patrolExpired

/-- SLEEP_BROADCAST_DUE: step 4 of sleep entry (R143). -/
def execSleepBroadcastDue (s : State) : Host.Outcome State Fault Refusal := s.effect Part.sleepBroadcastDue

/-- SLEEP_BROADCAST_END: step 5, or the return of a patrol to DEEP (R143, R155). -/
def execSleepBroadcastEnd (s : State) : Host.Outcome State Fault Refusal := s.effect Part.sleepEnd

/-- DEEP_ENTRY: step 6 of sleep entry (R144). -/
def execDeepEntry (s : State) : Host.Outcome State Fault Refusal := s.effect Part.deepEntry

end Sys2Proof.Machine
end

