-- ==== Sys2Proof/Machine/RequestCommands.lean ====
section
/-!
DEFINITION. The management engine executes the request at the head of its queue (R183): one command per request.
-/
namespace Sys2Proof.Machine

/-- UNKNOWN_REQUEST (R183). -/
def execUnknownRequest (s : State) : Host.Outcome State Fault Refusal := s.effect Part.serveUnknown

/-- STATUS (R186). -/
def execStatus (s : State) : Host.Outcome State Fault Refusal := s.effect (Part.serve .status Part.doStatus)

/-- READ_COUNTERS (R187). -/
def execReadCounters (s : State) : Host.Outcome State Fault Refusal :=
  s.effect (Part.serve .readCounters Part.doReadCounters)

/-- READ_FAULTS (R83). -/
def execReadFaults (s : State) : Host.Outcome State Fault Refusal := s.effect (Part.serve .readFaults Part.doReadFaults)

/-- ACK_FAULTS (R91). -/
def execAckFaults (s : State) : Host.Outcome State Fault Refusal := s.effect (Part.serve .ackFaults Part.doAckFaults)

/-- READ_EVENTS (R123). -/
def execReadEvents (s : State) : Host.Outcome State Fault Refusal := s.effect (Part.serve .readEvents Part.doReadEvents)

/-- CONNECT (R107). -/
def execConnect (s : State) : Host.Outcome State Fault Refusal := s.effect (Part.serve .connect Part.doConnect)

/-- DISCONNECT (R114). -/
def execDisconnect (s : State) : Host.Outcome State Fault Refusal := s.effect (Part.serve .disconnect Part.doDisconnect)

/-- DISCONNECT_NOW (R114). -/
def execDisconnectNow (s : State) : Host.Outcome State Fault Refusal :=
  s.effect (Part.serve .disconnectNow Part.doDisconnectNow)

/-- CLEAR_LOCKOUT (R119). -/
def execClearLockout (s : State) : Host.Outcome State Fault Refusal :=
  s.effect (Part.serve .clearLockout Part.doClearLockout)

/-- SCHEDULE_START (R44). -/
def execScheduleStart (s : State) : Host.Outcome State Fault Refusal :=
  s.effect (Part.serve .scheduleStart Part.doScheduleStart)

/-- SCHEDULE_STOP (R46). -/
def execScheduleStop (s : State) : Host.Outcome State Fault Refusal :=
  s.effect (Part.serve .scheduleStop Part.doScheduleStop)

/-- SET_TIME (R41). -/
def execSetTime (s : State) : Host.Outcome State Fault Refusal := s.effect (Part.serve .setTime Part.doSetTime)

/-- SLEEP (R142). -/
def execSleep (s : State) : Host.Outcome State Fault Refusal := s.effect (Part.serve .sleep Part.doSleep)

/-- KEEPALIVE (R188). -/
def execKeepalive (s : State) : Host.Outcome State Fault Refusal := s.effect (Part.serve .keepalive Part.doKeepalive)

/-- UPD_OPEN (R167). -/
def execUpdOpen (s : State) : Host.Outcome State Fault Refusal := s.effect (Part.serve .updOpen Part.doUpdOpen)

/-- UPD_ERASE (R168). -/
def execUpdErase (s : State) : Host.Outcome State Fault Refusal := s.effect (Part.serve .updErase Part.doUpdErase)

/-- UPD_WRITE (R169). -/
def execUpdWrite (s : State) : Host.Outcome State Fault Refusal := s.effect (Part.serve .updWrite Part.doUpdWrite)

/-- UPD_CHECK (R170). -/
def execUpdCheck (s : State) : Host.Outcome State Fault Refusal := s.effect (Part.serve .updCheck Part.doUpdCheck)

/-- UPD_COMMIT (R171). -/
def execUpdCommit (s : State) : Host.Outcome State Fault Refusal := s.effect (Part.serve .updCommit Part.doUpdCommit)

/-- UPD_ABORT (R175). -/
def execUpdAbort (s : State) : Host.Outcome State Fault Refusal := s.effect (Part.serve .updAbort Part.doUpdAbort)

/-- UPD_STATUS (R179). -/
def execUpdStatus (s : State) : Host.Outcome State Fault Refusal := s.effect (Part.serve .updStatus Part.doUpdStatus)

/-- READ_IMAGE (R189). -/
def execReadImage (s : State) : Host.Outcome State Fault Refusal := s.effect (Part.serve .readImage Part.doReadImage)

/-- CLEAR_TAMPER (R178). -/
def execClearTamper (s : State) : Host.Outcome State Fault Refusal :=
  s.effect (Part.serve .clearTamper Part.doClearTamper)

/-- RESET_SOUTH (R190). -/
def execResetSouth (s : State) : Host.Outcome State Fault Refusal := s.effect (Part.serve .resetSouth Part.doResetSouth)

/-- RESTART (R191). -/
def execRestart (s : State) : Host.Outcome State Fault Refusal := s.effect (Part.serve .restart Part.doRestart)

end Sys2Proof.Machine
end

