-- ==== Sys2Proof/Machine/ResetCommands.lean ====
section
/-!
DEFINITION. The commands that start the part: POWER_ON, RESET_N, BOOT and RESTART_EFFECT.
-/
namespace Sys2Proof.Machine

/-- POWER_ON: every block takes its reset values and the store is LOADING (R19, R156). -/
def execPowerOn (s : State) : Host.Outcome State Fault Refusal := s.effect Part.resetPart

/-- RESET_N: a reset wherever the part is (R19, R156). -/
def execResetN (s : State) : Host.Outcome State Fault Refusal := s.effect Part.resetPart

/-- BOOT: the store completes its boot (R162). -/
def execBoot (s : State) : Host.Outcome State Fault Refusal := s.effect Part.boot

/-- RESTART_EFFECT: a taken RESTART acts as a power-on once its response has ended and no record write is left (R191).
-/
def execRestartEffect (s : State) : Host.Outcome State Fault Refusal := s.effect Part.restartEffect

end Sys2Proof.Machine
end

