-- ==== Sys2Proof/Machine/SchedulerCommands.lean ====
section
/-!
DEFINITION. The commands of the sweep scheduler (R45, R48, R53).
-/
namespace Sys2Proof.Machine

/-- CYCLE_START: C_k is reached (R45, R47, R50, R58). -/
def execCycleStart (s : State) : Host.Outcome State Fault Refusal := s.effect Part.cycleStart

/-- SLOT_LAUNCH_TIME: the slot is missed, shed or launched (R48). -/
def execSlotLaunchTime (slot : Nat) (s : State) : Host.Outcome State Fault Refusal := s.effect (Part.slotTime slot)

/-- SWEEP_CLOSE_TIME: an open sweep closes at S + W (R53). -/
def execSweepCloseTime (sweep : BitVec 16) (s : State) : Host.Outcome State Fault Refusal :=
  s.effect (Part.closeTime sweep)

end Sys2Proof.Machine
end

