-- ==== Sys2Proof/Machine/SouthCommands.lean ====
section
/-!
DEFINITION. The commands of the south link (R2, R5, R7, R8, R11, R14, R18, R30, R33): frames received, transmissions and
their ends, bring-up and deadlines.
-/
namespace Sys2Proof.Machine

/-- SOUTH_FRAME_CHECK_FAIL: counted, and in UP the link error count rises (R2, R11). -/
def execSouthFrameCheckFail (r : Reception) (s : State) : Host.Outcome State Fault Refusal :=
  s.effect (Part.receiveSouth r)

/-- SOUTH_RESPONSE: matched and returned, or late (R5, R31, R32). -/
def execSouthResponse (bytes : List Byte) (s : State) : Host.Outcome State Fault Refusal :=
  s.effect (Part.receiveSouth (.frame bytes))

/-- SAMPLE: stored, or discarded and counted; the last reply closes the sweep (R5, R52, R53). -/
def execSample (bytes : List Byte) (s : State) : Host.Outcome State Fault Refusal :=
  s.effect (Part.receiveSouth (.frame bytes))

/-- ENUM_REPLY: stored while ENUMERATING, or discarded (R5, R8). -/
def execEnumReply (bytes : List Byte) (s : State) : Host.Outcome State Fault Refusal :=
  s.effect (Part.receiveSouth (.frame bytes))

/-- CHAIN_SPOOF: counted, with its event (R5, R88). -/
def execChainSpoof (bytes : List Byte) (s : State) : Host.Outcome State Fault Refusal :=
  s.effect (Part.receiveSouth (.frame bytes))

/-- SOUTH_FRAME_DISCARD: a checked frame of a wrong kind, destination or source is counted (R5). -/
def execSouthFrameDiscard (bytes : List Byte) (s : State) : Host.Outcome State Fault Refusal :=
  s.effect (Part.receiveSouth (.frame bytes))

/-- SOUTH_TRANSMIT_START: the arbiter starts the next frame on a free link (R18). -/
def execSouthTransmitStart (s : State) : Host.Outcome State Fault Refusal := s.effect Part.southTransmit

/-- COMMAND_FRAME_END: a tracked command's record goes SENT (R30). -/
def execCommandFrameEnd (s : State) : Host.Outcome State Fault Refusal := s.effect Part.commandEnd

/-- BRINGUP_FRAME_DUE: the next WAKE or the ENUM falls due (R7). -/
def execBringupFrameDue (s : State) : Host.Outcome State Fault Refusal := s.effect Part.bringupDue

/-- ENUM_FRAME_END: the enumeration window opens (R7). -/
def execEnumFrameEnd (s : State) : Host.Outcome State Fault Refusal := s.effect Part.enumEnd

/-- ENUM_WINDOW_CLOSE: UP with the identity check, or DOWN (R8, R9). -/
def execEnumWindowClose (s : State) : Host.Outcome State Fault Refusal := s.effect Part.closeWindow

/-- RETRY_TIMER_EXPIRY: bring-up begins again (R14). -/
def execRetryTimerExpiry (s : State) : Host.Outcome State Fault Refusal := s.effect Part.retryExpired

/-- TRANSACTION_DEADLINE: the SENT record with the sequence number is answered TIMEOUT (R33). -/
def execTransactionDeadline (sequence : Byte) (s : State) : Host.Outcome State Fault Refusal :=
  s.effect (Part.expireRecord sequence)

end Sys2Proof.Machine
end

