-- ==== Sys2Proof/Machine/StoreCommands.lean ====
section
/-!
DEFINITION. The commands of the table store (R161, R168 to R174).
-/
namespace Sys2Proof.Machine

/-- ERASE_COMPLETE (R168). -/
def execEraseComplete (s : State) : Host.Outcome State Fault Refusal := s.effect Part.eraseDone

/-- CHECK_COMPLETE (R164, R170). -/
def execCheckComplete (s : State) : Host.Outcome State Fault Refusal := s.effect Part.checkDone

/-- WRITE_PROGRAMMING_END (R169): bytes that would lie past the end of the bank do not exist, and stop the machine. -/
def execWriteProgrammingEnd (s : State) : Host.Outcome State Fault Refusal :=
  match s.part.mgmt.programming with
  | none => .next s
  | some p =>
    if p.offset + p.data.length ≤ bankSize then s.effect (Part.programmed s.pending p)
    else .fault (.noSuchBankByte (p.offset + p.data.length - 1))

/-- SWITCH_START: COMMIT_PENDING becomes SWITCHING (R171, R172). -/
def execSwitchStart (s : State) : Host.Outcome State Fault Refusal := s.effect Part.switchStart

/-- RECORD_WRITE_COMPLETE (R161, R172). -/
def execRecordWriteComplete (s : State) : Host.Outcome State Fault Refusal := s.effect Part.recordWritten

/-- TABLE_LOAD_COMPLETE: the switch completes or fails (R172 to R174). -/
def execTableLoadComplete (s : State) : Host.Outcome State Fault Refusal := s.effect Part.loadDone

end Sys2Proof.Machine
end

