-- ==== Sys2Proof/Machine/Dispatch.lean ====
section
/-!
DEFINITION. Every command of the part goes to its meaning.
-/
namespace Sys2Proof.Machine

/-- A command acts on everything but the queue. -/
def exec (i : Instr) (s : State) : Host.Outcome State Fault Refusal :=
  match i with
  | .powerOn => Sys2Proof.Machine.execPowerOn s
  | .resetN => Sys2Proof.Machine.execResetN s
  | .boot => Sys2Proof.Machine.execBoot s
  | .northFrameCheckFail r => Sys2Proof.Machine.execNorthFrameCheckFail r s
  | .northFrameDiscard bytes => Sys2Proof.Machine.execNorthFrameDiscard bytes s
  | .mgmtReqAccept bytes => Sys2Proof.Machine.execMgmtReqAccept bytes s
  | .northCommand bytes => Sys2Proof.Machine.execNorthCommand bytes s
  | .broadcastCommand bytes => Sys2Proof.Machine.execBroadcastCommand bytes s
  | .northActivity => Sys2Proof.Machine.execNorthActivity s
  | .northTransmitStart => Sys2Proof.Machine.execNorthTransmitStart s
  | .restartEffect => Sys2Proof.Machine.execRestartEffect s
  | .southFrameCheckFail r => Sys2Proof.Machine.execSouthFrameCheckFail r s
  | .southResponse bytes => Sys2Proof.Machine.execSouthResponse bytes s
  | .sample bytes => Sys2Proof.Machine.execSample bytes s
  | .enumReply bytes => Sys2Proof.Machine.execEnumReply bytes s
  | .chainSpoof bytes => Sys2Proof.Machine.execChainSpoof bytes s
  | .southFrameDiscard bytes => Sys2Proof.Machine.execSouthFrameDiscard bytes s
  | .southTransmitStart => Sys2Proof.Machine.execSouthTransmitStart s
  | .commandFrameEnd => Sys2Proof.Machine.execCommandFrameEnd s
  | .bringupFrameDue => Sys2Proof.Machine.execBringupFrameDue s
  | .enumFrameEnd => Sys2Proof.Machine.execEnumFrameEnd s
  | .enumWindowClose => Sys2Proof.Machine.execEnumWindowClose s
  | .retryTimerExpiry => Sys2Proof.Machine.execRetryTimerExpiry s
  | .transactionDeadline sequence => Sys2Proof.Machine.execTransactionDeadline sequence s
  | .cycleStart => Sys2Proof.Machine.execCycleStart s
  | .slotLaunchTime slot => Sys2Proof.Machine.execSlotLaunchTime slot s
  | .sweepCloseTime sweep => Sys2Proof.Machine.execSweepCloseTime sweep s
  | .supervisionExpiry => Sys2Proof.Machine.execSupervisionExpiry s
  | .feedbackLineChange k closed => Sys2Proof.Machine.execFeedbackLineChange k closed s
  | .feedbackTimerExpiry k => Sys2Proof.Machine.execFeedbackTimerExpiry k s
  | .watchExpiry k => Sys2Proof.Machine.execWatchExpiry k s
  | .prechargeLimitExpiry => Sys2Proof.Machine.execPrechargeLimitExpiry s
  | .softOpenWaitExpiry => Sys2Proof.Machine.execSoftOpenWaitExpiry s
  | .wakeInAssert level => Sys2Proof.Machine.execWakeInAssert level s
  | .tamperInAssert level => Sys2Proof.Machine.execTamperInAssert level s
  | .serviceInDeassert level => Sys2Proof.Machine.execServiceInDeassert level s
  | .deepFeedbackClosed kPos kNeg kPre => Sys2Proof.Machine.execDeepFeedbackClosed kPos kNeg kPre s
  | .patrolTimerExpiry => Sys2Proof.Machine.execPatrolTimerExpiry s
  | .sleepBroadcastDue => Sys2Proof.Machine.execSleepBroadcastDue s
  | .sleepBroadcastEnd => Sys2Proof.Machine.execSleepBroadcastEnd s
  | .deepEntry => Sys2Proof.Machine.execDeepEntry s
  | .eraseComplete => Sys2Proof.Machine.execEraseComplete s
  | .checkComplete => Sys2Proof.Machine.execCheckComplete s
  | .writeProgrammingEnd => Sys2Proof.Machine.execWriteProgrammingEnd s
  | .switchStart => Sys2Proof.Machine.execSwitchStart s
  | .recordWriteComplete => Sys2Proof.Machine.execRecordWriteComplete s
  | .tableLoadComplete => Sys2Proof.Machine.execTableLoadComplete s
  | .unknownRequest => Sys2Proof.Machine.execUnknownRequest s
  | .status => Sys2Proof.Machine.execStatus s
  | .readCounters => Sys2Proof.Machine.execReadCounters s
  | .readFaults => Sys2Proof.Machine.execReadFaults s
  | .ackFaults => Sys2Proof.Machine.execAckFaults s
  | .readEvents => Sys2Proof.Machine.execReadEvents s
  | .connect => Sys2Proof.Machine.execConnect s
  | .disconnect => Sys2Proof.Machine.execDisconnect s
  | .disconnectNow => Sys2Proof.Machine.execDisconnectNow s
  | .clearLockout => Sys2Proof.Machine.execClearLockout s
  | .scheduleStart => Sys2Proof.Machine.execScheduleStart s
  | .scheduleStop => Sys2Proof.Machine.execScheduleStop s
  | .setTime => Sys2Proof.Machine.execSetTime s
  | .sleep => Sys2Proof.Machine.execSleep s
  | .keepalive => Sys2Proof.Machine.execKeepalive s
  | .updOpen => Sys2Proof.Machine.execUpdOpen s
  | .updErase => Sys2Proof.Machine.execUpdErase s
  | .updWrite => Sys2Proof.Machine.execUpdWrite s
  | .updCheck => Sys2Proof.Machine.execUpdCheck s
  | .updCommit => Sys2Proof.Machine.execUpdCommit s
  | .updAbort => Sys2Proof.Machine.execUpdAbort s
  | .updStatus => Sys2Proof.Machine.execUpdStatus s
  | .readImage => Sys2Proof.Machine.execReadImage s
  | .clearTamper => Sys2Proof.Machine.execClearTamper s
  | .resetSouth => Sys2Proof.Machine.execResetSouth s
  | .restart => Sys2Proof.Machine.execRestart s

end Sys2Proof.Machine
end

