-- ==== Sys2Proof/Safety.lean ====
section
/-!
DEFINITION. What a safe part is, in the terms the statements use: the laws of the contactor drives (R103), of the
effective action and FAULT_OUT (R94, R95), of the version floor (R160), of the banks' bytes (section 9.2) and of the
bounded queues (R29, R35, R36, R51, R80, R122, R125, R181, R187); and the state words the statements about requests
share (R183, R184).
-/
namespace Sys2Proof.Machine

/-- The commands that reset the part: a power-on, RESET_N, and a RESTART that takes effect (R19, R191). -/
def restarts : Instr → Bool
  | .powerOn | .resetN | .restartEffect => true
  | _ => false

/-! ### The contactors (R103) -/

/-- The drives are those of the connection state's row in the table of section 6.2. -/
def Part.drivesFit (c : Part) : Bool :=
  match c.seq.conn with
  | .opened | .lockedOut => !c.seq.kNeg.drive && !c.seq.kPre.drive && !c.seq.kPos.drive
  | .negClosing => c.seq.kNeg.drive && !c.seq.kPos.drive
  | .precharging => c.seq.kNeg.drive && c.seq.kPre.drive && !c.seq.kPos.drive
  | .mainClosing => c.seq.kNeg.drive && c.seq.kPos.drive
  | .closed | .softOpening => c.seq.kNeg.drive && !c.seq.kPre.drive && c.seq.kPos.drive
  | .opening => !c.seq.kPre.drive && !c.seq.kPos.drive

/-- The drives fit the connection state; outside ACTIVE, and while an update is open, the contactors are at rest (R103,
section 9.6). -/
def Part.contactorLaws (c : Part) : Bool :=
  c.drivesFit && (decide (c.power.state = .active) || c.seq.conn.atRest) &&
  (decide (c.store.update = .idle) || c.seq.conn.atRest)

/-! ### The interlock unit (R94, R95) -/

/-- The effective action is the one that the active classes ask for, and FAULT_OUT follows it and LOCKED_OUT. -/
def Part.interlockLaws (c : Part) : Bool :=
  decide (c.interlock.effective = c.effectiveAction) && decide (c.interlock.faultOut = c.faultLevel)

/-! ### The version floor (R160) -/

/-- The floor that a write in progress carries lies between two bounds. -/
def RecordWrite.floorWithin (lo hi : Nat) (w : RecordWrite) : Bool :=
  match w with
  | .idle => true
  | .inProgress f _ => decide (lo ≤ f.floor) && decide (f.floor ≤ hi)
  | .inProgressWaiting f _ => decide (lo ≤ f.floor) && decide (f.floor ≤ hi)

/-- Before boot step 1 nothing has begun that would write the record; after it, the floor in memory, the floor being
written, the floor of the record copy and the staged version rise in this order. -/
def Part.floorOrder (c : Part) : Bool :=
  if c.store.recordRead then
    decide (c.store.recordAsRead.floor ≤ c.store.copy.floor) &&
    c.store.write.floorWithin c.store.recordAsRead.floor c.store.copy.floor &&
    decide (c.store.copy.floor ≤ c.store.staged.getD c.store.copy.floor)
  else
    decide (c.store.state = .loading) && decide (c.seq.conn = .opened) && c.store.tables.interlock.isNone &&
    decide (c.store.write = .idle) && decide (c.store.update = .idle) && c.store.staged.isNone

/-- The order of the floors; the version in use is the floor while CONFIGURED outside a switch, and absent unless
CONFIGURED; a switch under way is SWITCHING, and a programming is READY. -/
def Part.floorLaws (c : Part) : Bool :=
  c.floorOrder &&
  (if c.store.state = .configured then
    decide (c.store.update = .switching) || decide (c.store.versionInUse = some c.store.copy.floor)
   else c.store.versionInUse.isNone) &&
  (decide (c.store.switch = .none) || decide (c.store.update = .switching)) &&
  (c.mgmt.programming.isNone || decide (c.store.update = .ready))

/-! ### The banks (section 9.2) -/

/-- Both banks' bytes stand in their canonical form. -/
def Part.bankLaws (c : Part) : Bool := c.store.bankA.bytes.wf && c.store.bankB.bytes.wf

/-! ### The bounded queues and counters -/

/-- The bounds of the queues, lists and counters: the engine's 4 places, the tracked load of 8, 4 refusals and 8 south
queue frames, 4 open sweeps, 64 reports of which at most 56 are sweep reports, 32 contactor events and 32 fault records;
no two tracker records with one sequence and no two fault records with one key; counters of 16 and 8 bits. -/
def Part.boundLaws (c : Part) : Bool :=
  decide (c.mgmt.places ≤ 4) && decide (c.router.trackedLoad ≤ 8) && decide (c.router.refusals ≤ 4) &&
  decide (c.router.southQueue.length ≤ 8) && decide (c.router.tracker.Pairwise (fun a b => a.seq ≠ b.seq)) &&
  decide (c.sched.sweeps.length ≤ 4) && decide (c.reports.queue.length ≤ 64) &&
  decide ((c.reports.queue.filter (fun q => decide (q.cls = .sweep))).length ≤ 56) &&
  decide (c.seq.events.length ≤ 32) && decide (c.eval.records.length ≤ 32) &&
  decide (c.eval.records.Pairwise (fun a b => a.key ≠ b.key)) &&
  c.counters.all (fun n => decide (n ≤ 65535)) && decide (c.seq.overwritten ≤ 255) &&
  c.sched.slotMiss.toList.all (fun n => decide (n ≤ 255))

/-! ### The words of the statements about requests (R183, R184) -/

/-- The engine is ready to execute the request `r`, which stands at the head of its queue as the frame `f` with `rest`
behind it: no programming is in progress and no RESTART taken, the store has left LOADING unless the request is STATUS,
and the arguments are in range. -/
def Part.executes (c : Part) (f : Frame) (rest : List Frame) (r : Request) : Prop :=
  c.mgmt.requests = f :: rest ∧ c.mgmt.programming = none ∧ c.mgmt.restart = .notTaken ∧ f.request = some r ∧
  f.argumentsOk r = true ∧ (c.store.state = .loading → r = .status)

/-- The request frame has left the queue, `rest` is what waits, and the response with a status and data is made. -/
def Part.answered (c : Part) (f : Frame) (rest : List Frame) (st : Status) (data : List Byte) : Part :=
  { c with
    mgmt.requests := rest,
    mgmt.responses := c.mgmt.responses ++ [{ frame := responseFrame f st data, restart := false }] }

/-- The last report made is the priority report with this payload, unless it was lost to a full queue (R126, R127). -/
def Part.reported (c : Part) (payload : List Byte) : Prop :=
  c.reports.queue.getLast? = some { cls := .priority, frame := reportFrame (c.reports.nextSeq - 1) payload } ∨
  (64 ≤ c.reports.queue.length ∧ c.reports.priorityLoss = true)

/-- The command whose row executes a request (R183). -/
def Request.command : Request → Instr
  | .status => .status | .readCounters => .readCounters | .readFaults => .readFaults | .ackFaults => .ackFaults
  | .readEvents => .readEvents | .connect => .connect | .disconnect => .disconnect | .disconnectNow => .disconnectNow
  | .clearLockout => .clearLockout | .scheduleStart => .scheduleStart | .scheduleStop => .scheduleStop
  | .setTime => .setTime | .sleep => .sleep | .keepalive => .keepalive | .updOpen => .updOpen | .updErase => .updErase
  | .updWrite => .updWrite | .updCheck => .updCheck | .updCommit => .updCommit | .updAbort => .updAbort
  | .updStatus => .updStatus | .readImage => .readImage | .clearTamper => .clearTamper | .resetSouth => .resetSouth
  | .restart => .restart

end Sys2Proof.Machine
end

