-- ==== Sys2Proof/Certificates/Slice0/Obligations.lean ====
section
/-!
DEFINITION. The statements about the C16, for the provers. A state is written ⟨c, q⟩: the part c and the queue q of the
commands that wait.
-/
open Sys2Proof Sys2Proof.Machine

/-! ### Steps -/

/-- A step with a command at the front of the queue is that command on the rest of the queue (spec file 95: each row of
the table is one whole step). -/
def Obligations.StepRunsTheFrontCommand : Prop :=
  ∀ (c : Part) (i : Instr) (q : List Instr), step ⟨c, i :: q⟩ = exec i ⟨c, q⟩

/-- A step with no command waiting is one microsecond of the clocks: pack time counts outside DEEP and stands in DEEP,
where the patrol timer counts down (R40, R151). That it is one microsecond, and that the moment at which a patrol
started is then over, is the model's choice (log entries 1 and 42). No command but SET_TIME and a reset changes pack
time (R40, R41). -/
def Obligations.ClocksAdvanceOnIdleSteps : Prop :=
  (∀ c : Part,
    (c.power.state ≠ .deep →
      step ⟨c, []⟩ = .next ⟨{ c with
        sched.packTime := c.sched.packTime + 1,
        north.wire := if linkFree (c.sched.packTime + 1) c.north.wire then none else c.north.wire,
        south.wire := if linkFree (c.sched.packTime + 1) c.south.wire then none else c.south.wire,
        power.leftDeep := .no }, []⟩) ∧
    (c.power.state = .deep →
      step ⟨c, []⟩ = .next ⟨{ c with power.patrolTimer := c.power.patrolTimer.map (· - 1) }, []⟩)) ∧
  (∀ (i : Instr) (c t : Part) (q : List Instr), restarts i = false → i ≠ .setTime →
    exec i ⟨c, q⟩ = .next ⟨t, q⟩ → t.sched.packTime = c.sched.packTime)

/-- Every command answers a next state and leaves the queue alone, but for the end of a programming that reaches past
the end of the bank, which stops at the address that does not exist (R169 keeps every run from it). -/
def Obligations.EveryCommandAnswers : Prop :=
  ∀ (i : Instr) (c : Part) (q : List Instr),
    (∃ t : Part, exec i ⟨c, q⟩ = .next ⟨t, q⟩) ∨
    (i = .writeProgrammingEnd ∧ ∃ p, c.mgmt.programming = some p ∧ bankSize < p.offset + p.data.length ∧
      exec i ⟨c, q⟩ = .fault (.noSuchBankByte (p.offset + p.data.length - 1)))

/-! ### Invariants of every step -/

/-- The part after a reset keeps the five laws of Safety.lean: of the contactors, of the interlock unit, of the version
floors, of the banks and of the bounds; and no command waits. What this state holds where the rules give no value is the
model's choice (log entry 8). -/
def Obligations.ResetKeepsTheLaws : Prop :=
  State.reset.part.contactorLaws = true ∧ State.reset.part.interlockLaws = true ∧ State.reset.part.floorLaws = true ∧
  State.reset.part.bankLaws = true ∧ State.reset.part.boundLaws = true ∧ State.reset.pending = []

/-- No step breaks the laws of the contactor drives (R103 and the table of section 6.2): K+ is driven closed only with
K−, K+ and KP together only in MAIN_CLOSING, none in OPEN or LOCKED_OUT, outside ACTIVE or while an update is open. -/
def Obligations.ContactorLawsAreKept : Prop :=
  ∀ s s' : State, s.part.contactorLaws = true → step s = .next s' → s'.part.contactorLaws = true

/-- No step breaks the order of the version floors (R160, R172, R173). -/
def Obligations.FloorLawsAreKept : Prop :=
  ∀ s s' : State, s.part.floorLaws = true → step s = .next s' → s'.part.floorLaws = true

/-- No step takes either bank out of its canonical form, and so every address that a step stores to lies in the bank
(section 9.2). -/
def Obligations.BankLawsAreKept : Prop :=
  ∀ s s' : State, s.part.bankLaws = true → step s = .next s' → s'.part.bankLaws = true

/-- No step takes a queue, list or counter past its bound (R29, R35, R36, R51, R80, R122, R127, R181, R187). -/
def Obligations.BoundLawsAreKept : Prop :=
  ∀ s s' : State, s.part.boundLaws = true → step s = .next s' → s'.part.boundLaws = true

/-- The version floor that the service record holds in non-volatile memory never falls, in any step, a reset during a
record write included (R160, R161, R172, R180). -/
def Obligations.RecordFloorNeverFalls : Prop :=
  ∀ s s' : State, s.part.floorLaws = true → step s = .next s' →
    s.part.store.recordAsRead.floor ≤ s'.part.store.recordAsRead.floor

/-! ### Rules of the whole part -/

/-- The tables in use change only at a reset, at the boot and at the end of a switch's load (R158, R162, R172 to R174).
-/
def Obligations.TablesInUseAreKept : Prop :=
  ∀ (i : Instr) (c t : Part) (q : List Instr), restarts i = false → i ≠ .boot → i ≠ .tableLoadComplete →
    exec i ⟨c, q⟩ = .next ⟨t, q⟩ → t.store.tables = c.store.tables

/-- No command changes a byte of the bank that the record copy names as active (R158, R166). -/
def Obligations.ActiveBankBytesAreKept : Prop :=
  ∀ (i : Instr) (c t : Part) (q : List Instr) (n : BankName), c.store.copy.active = some n →
    exec i ⟨c, q⟩ = .next ⟨t, q⟩ → (t.store.bank n).bytes = (c.store.bank n).bytes

/-- From OPEN the connection state goes to LOCKED_OUT, or by a CONNECT while the store is CONFIGURED, no update is open,
the tamper latch is clear, the part is ACTIVE and the effective action is below BLOCK_CLOSE; by nothing else (R107). -/
def Obligations.OpenIsLeftOnlyByConnect : Prop :=
  ∀ (i : Instr) (c t : Part) (q : List Instr), c.seq.conn = .opened → exec i ⟨c, q⟩ = .next ⟨t, q⟩ →
    t.seq.conn = .opened ∨ t.seq.conn = .lockedOut ∨
    (i = .connect ∧ c.power.state = .active ∧ c.store.state = .configured ∧ c.store.update = .idle ∧
      c.store.copy.tamper = false ∧ c.interlock.effective.code < Action.blockClose.code)

/-- LOCKED_OUT is left only by a reset, or by a CLEAR_LOCKOUT in ACTIVE with SERVICE_IN asserted and every feedback
reading open (R118, R119). -/
def Obligations.LockedOutIsLeftOnlyByClearLockout : Prop :=
  ∀ (i : Instr) (c t : Part) (q : List Instr), c.seq.conn = .lockedOut → restarts i = false →
    exec i ⟨c, q⟩ = .next ⟨t, q⟩ →
    t.seq.conn = .lockedOut ∨
    (i = .clearLockout ∧ t.seq.conn = .opened ∧ c.power.state = .active ∧ c.lines.serviceIn = true ∧
      c.lines.feedback = { kPos := false, kNeg := false, kPre := false })

/-- K+ is driven closed only from PRECHARGING: no command drives it closed in any other state (R103, R109, R111). -/
def Obligations.MainPositiveClosesOnlyFromPrecharging : Prop :=
  ∀ (i : Instr) (c t : Part) (q : List Instr), c.seq.kPos.drive = false → exec i ⟨c, q⟩ = .next ⟨t, q⟩ →
    t.seq.kPos.drive = true → c.seq.conn = .precharging

/-- ACTIVE is left only by a SLEEP taken in OPEN or LOCKED_OUT with no update open and no tracker record (R142). -/
def Obligations.ActiveIsLeftOnlyBySleep : Prop :=
  ∀ (i : Instr) (c t : Part) (q : List Instr), c.power.state = .active → exec i ⟨c, q⟩ = .next ⟨t, q⟩ →
    t.power.state = .active ∨
    (i = .sleep ∧ t.power.state = .sleepEntry ∧ c.seq.conn.atRest = true ∧ c.store.update = .idle ∧
      c.router.tracker = [])

/-- The tamper latch, once the service record has been read, is cleared only by CLEAR_TAMPER with SERVICE_IN asserted
and TAMPER_IN deasserted, and by a reset (R178). -/
def Obligations.TamperLatchIsClearedOnlyByClearTamper : Prop :=
  ∀ (i : Instr) (c t : Part) (q : List Instr), c.store.recordRead = true → c.store.copy.tamper = true →
    restarts i = false → exec i ⟨c, q⟩ = .next ⟨t, q⟩ →
    t.store.copy.tamper = true ∨ (i = .clearTamper ∧ c.lines.serviceIn = true ∧ c.lines.tamperIn = false)

/-! ### Corrections and objects (chapter 4) -/

/-- The corrections. Cell voltage and pack current, gain and offset (R64): the product's quotient by 65,536 has the
magnitude floor((|P| + 32,768) / 65,536) and the sign of P, which is the rounding half away from zero. Temperature, pack
voltage and link voltage, offset only (R65). Each sum is clamped to its class range. -/
def Obligations.CorrectionsAreExact : Prop :=
  ∀ code gain offset : Int,
    (∃ r : Int,
      r.natAbs = ((code * gain).natAbs + 32768) / 65536 ∧ 0 ≤ r * (code * gain) ∧
      (65536 * r - code * gain).natAbs ≤ 32768 ∧
      ((65536 * r - code * gain).natAbs = 32768 → (code * gain).natAbs < (65536 * r).natAbs) ∧
      (gain = 0 ∨ code = 0 → r = 0) ∧
      correct .cellVoltage code gain offset = max 0 (min 65535 (code + r + offset)) ∧
      correct .packCurrent code gain offset = max (-8388608) (min 8388607 (code + r + offset))) ∧
    correct .temperature code gain offset = max (-550) (min 1550 (code + offset)) ∧
    correct .packVoltage code gain offset = max 0 (min 65535 (code + offset)) ∧
    correct .linkVoltage code gain offset = max 0 (min 65535 (code + offset)) ∧
    (-128 ≤ offset → offset ≤ 127 → correct .temperature (-32768) gain offset = -550) ∧
    (offset < 0 → correct .packVoltage 0 gain offset = 0)

/-- The evaluator's objects. A channel that is fed a value in NORMAL (R70): the counting table, and the trip when the
count reaches N_t; a value equal to a threshold lies in the band. Tripped (R71): it counts toward clearing on its own
side alone, a value equal to UC or LC counts, and a value fed while it stays tripped is offered to its record. The sense
object of a replied position and the module-lost object of a position count faulty samples or misses in a row to N_t and
sound samples or replies in a row to N_c, with the counts of their limit set, and no other position's object moves (R67,
R78). The sum check (R74, R75): in a sweep that qualifies, the deviation |S20 − U| is fed to the sum pseudo-channel,
where S20 is the sum of the OK cell values in 20 mV units, rounded half up, and U the pack voltage; in one that does
not, the pseudo-channel is not touched, and a sum-bearing slot's results carry the skipped marker. -/
def Obligations.ChannelIsFed : Prop :=
  (∀ (nt nc : Nat) (o : ObjState),
    (o.tripped = false →
      o.feed nt nc false = ({ tripped := false, counter := 0 }, .none) ∧
      (o.counter + 1 < nt → o.feed nt nc true = ({ tripped := false, counter := o.counter + 1 }, .none)) ∧
      (nt ≤ o.counter + 1 → o.feed nt nc true = ({ tripped := true, counter := 0 }, .trip .none))) ∧
    (o.tripped = true →
      o.feed nt nc true = ({ tripped := true, counter := 0 }, .none) ∧
      (o.counter + 1 < nc → o.feed nt nc false = ({ tripped := true, counter := o.counter + 1 }, .none)) ∧
      (nc ≤ o.counter + 1 → o.feed nt nc false = ({ tripped := false, counter := 0 }, .clear .none)))) ∧
  (∀ (c : Part) (run : RunKind) (s : Time) (p : Nat) (bad : Bool) (n : Tally) (l : LimitSet), p ∈ allPositions →
    (c.store.tables.limitSet .senseFault run = some l →
      let r := (atPos c.eval.sense ObjState.normal p).feed l.nt l.nc bad
      ∃ t : Part, Part.feedSense run s p bad (c, n) = (t, n.add r.2) ∧
        atPos t.eval.sense ObjState.normal p = r.1 ∧
        (∀ m ∈ allPositions, m ≠ p → atPos t.eval.sense ObjState.normal m = atPos c.eval.sense ObjState.normal m) ∧
        t.eval.channels = c.eval.channels ∧ t.eval.lost = c.eval.lost ∧ t.eval.sum = c.eval.sum) ∧
    (c.store.tables.limitSet .moduleLost run = some l →
      let r := (atPos c.eval.lost ObjState.normal p).feed l.nt l.nc bad
      let t := c.feedLost run p bad
      atPos t.eval.lost ObjState.normal p = r.1 ∧
        (∀ m ∈ allPositions, m ≠ p → atPos t.eval.lost ObjState.normal m = atPos c.eval.lost ObjState.normal m) ∧
        t.eval.channels = c.eval.channels ∧ t.eval.sense = c.eval.sense ∧ t.eval.sum = c.eval.sum)) ∧
  (∀ (c : Part) (w : Sweep) (l : LimitSet) (u : Int), c.store.tables.limitSet .sumDeviation w.runKind = some l →
    let vs := w.replies c.store.tables
    let cells := (vs.filter (fun x => decide (x.1.kind = .cell))).flatMap (fun x =>
      (x.2.channels.filter (fun v => decide (v.channel ≤ 12))).filterMap (fun v => v.value))
    let s20 : Nat := (cells.sum.toNat + 100) / 200
    let bearing := w.slot.kind = .sweep ∧ (∀ p ∈ c.store.tables.cellPositions, hasPos w.slot.target p = true) ∧
      ∃ p, c.store.tables.shuntPosition = some p ∧ hasPos w.slot.target p = true
    let qualifies := bearing ∧ w.replied = w.target ∧ w.skewed = 0 ∧
      ∀ x ∈ vs, ∀ v ∈ x.2.channels, v.status = .ok ∨ (x.1.kind = .cell ∧ 12 < v.channel)
    let r := c.evaluate w
    (qualifies → shuntValue vs 2 = some u →
      r.1.eval.sum = (c.eval.sum.feed l ((s20 : Int) - u).natAbs).1 ∧ r.2.sum = some s20 ∧ r.2.sumSkipped = false) ∧
    (¬ qualifies → r.1.eval.sum = c.eval.sum ∧ r.2.sum = none ∧ (r.2.sumSkipped = true ↔ bearing))) ∧
  ∀ (l : LimitSet) (v : Int) (x : ChanState),
    (x.state = .normal → l.lt ≤ l.ut →
      (l.ut < v →
        let n := if x.pending = .high then x.counter + 1 else 1
        (n < l.nt → x.feed l v = ({ state := .normal, counter := n, pending := .high }, .none)) ∧
        (l.nt ≤ n → x.feed l v = ({ state := .trippedHigh, counter := 0, pending := .none }, .trip .high))) ∧
      (v < l.lt →
        let n := if x.pending = .low then x.counter + 1 else 1
        (n < l.nt → x.feed l v = ({ state := .normal, counter := n, pending := .low }, .none)) ∧
        (l.nt ≤ n → x.feed l v = ({ state := .trippedLow, counter := 0, pending := .none }, .trip .low))) ∧
      (l.lt ≤ v → v ≤ l.ut → x.feed l v = ({ state := .normal, counter := 0, pending := .none }, .none))) ∧
    (x.state = .trippedHigh →
      (l.uc < v → x.feed l v = ({ x with counter := 0 }, .offer .high)) ∧
      (v ≤ l.uc → x.counter + 1 < l.nc → x.feed l v = ({ x with counter := x.counter + 1 }, .offer .high)) ∧
      (v ≤ l.uc → l.nc ≤ x.counter + 1 →
        x.feed l v = ({ state := .normal, counter := 0, pending := .none }, .clear .high))) ∧
    (x.state = .trippedLow →
      (v < l.lc → x.feed l v = ({ x with counter := 0 }, .offer .low)) ∧
      (l.lc ≤ v → x.counter + 1 < l.nc → x.feed l v = ({ x with counter := x.counter + 1 }, .offer .low)) ∧
      (l.lc ≤ v → l.nc ≤ x.counter + 1 →
        x.feed l v = ({ state := .normal, counter := 0, pending := .none }, .clear .low)))

/-! ### Frames, the pass table and reports -/

/-- What the part sends, a receiver reads back whole, and nothing else reads as a frame: the frame check accepts exactly
the bytes of a frame with at most 64 payload bytes (R2, section 11.1). That much holds of any CRC; the part's CRC-16
gives the check value 29B1 hex of the nine characters 1 to 9 (R192). -/
def Obligations.FramesAreReadBack : Prop :=
  crc16 [0x31, 0x32, 0x33, 0x34, 0x35, 0x36, 0x37, 0x38, 0x39] = 0x29B1 ∧
  (∀ f : Frame, f.payload.length ≤ 64 → parseFrame f.bytes = some f) ∧
  (∀ (bs : List Byte) (f : Frame), parseFrame bs = some f → f.bytes = bs ∧ f.payload.length ≤ 64)

/-- The pass table (R22, R23): the frame key is destination, kind, command code and sub-address, an absent payload byte
taken as 0; the first entry that agrees with it on every bit of its mask decides, or the default action with index FF
hex; and each of the four actions lets the command pass as the table says. -/
def Obligations.PassTableDecides : Prop :=
  (∀ f : Frame, f.passKey =
    f.dest ++ BitVec.ofNat 8 f.kind.code ++ (f.payload[0]?).getD 0#8 ++ (f.payload[1]?).getD 0#8) ∧
  (∀ (t : Tables) (key : BitVec 32),
    (∀ (n : Nat) (e : PassEntry), t.pass[n]? = some e →
      (∀ b < 32, e.mask.getLsbD b = true → key.getLsbD b = e.key.getLsbD b) →
      (∀ (m : Nat) (x : PassEntry), m < n → t.pass[m]? = some x →
        ∃ b < 32, x.mask.getLsbD b = true ∧ key.getLsbD b ≠ x.key.getLsbD b) →
      t.decide key = (e.action, n)) ∧
    ((∀ e ∈ t.pass, ∃ b < 32, e.mask.getLsbD b = true ∧ key.getLsbD b ≠ e.key.getLsbD b) →
      t.decide key = (t.passDefault, 255))) ∧
  (∀ c : Part, c.passes .pass = true ∧ c.passes .refuse = false ∧
    (c.passes .passWhenOpen = true ↔ c.seq.conn = .opened ∨ c.seq.conn = .lockedOut) ∧
    c.passes .passWhenService = c.lines.serviceIn)

/-- Admission of a report (R126, R127, R129): it takes the next sequence number whatever becomes of it; a sweep report
joins the queue below a fill of 56, a priority report below 64, and the new fill sets the throttle state; otherwise it
is discarded and counted, and a priority report sets the priority-loss flag. A queue of at most 64 reports, at most 56
of them sweep reports, stays so. -/
def Obligations.ReportIsAdmittedByFill : Prop :=
  ∀ (c : Part) (payload : List Byte),
    let n := c.reports.queue.length
    let f : Frame := { dest := 0, source := 0, kind := .report, seq := c.reports.nextSeq, status := 0, payload := payload }
    let marks := c.store.tables.header
    let throttled : Bool :=
      if marks.highMark ≤ n + 1 then true else if n + 1 ≤ marks.lowMark then false else c.sched.throttled
    (n < 56 → c.offerReport .sweep payload =
      { c with
        reports.queue := c.reports.queue ++ [{ cls := .sweep, frame := f }], reports.nextSeq := c.reports.nextSeq + 1,
        sched.throttled := throttled }) ∧
    (56 ≤ n → c.offerReport .sweep payload =
      { c with
        reports.sweepDiscarded := min (c.reports.sweepDiscarded + 1) 65535,
        reports.nextSeq := c.reports.nextSeq + 1 }) ∧
    (n < 64 → c.offerReport .priority payload =
      { c with
        reports.queue := c.reports.queue ++ [{ cls := .priority, frame := f }],
        reports.nextSeq := c.reports.nextSeq + 1, sched.throttled := throttled }) ∧
    (64 ≤ n → c.offerReport .priority payload =
      { c with
        reports.priorityDiscarded := min (c.reports.priorityDiscarded + 1) 65535, reports.priorityLoss := true,
        reports.nextSeq := c.reports.nextSeq + 1 }) ∧
    (n ≤ 64 → (c.reports.queue.filter (fun q => decide (q.cls = .sweep))).length ≤ 56 → ∀ cls,
      (c.offerReport cls payload).reports.queue.length ≤ 64 ∧
      ((c.offerReport cls payload).reports.queue.filter (fun q => decide (q.cls = .sweep))).length ≤ 56)

/-! ### Starting the part -/

/-- A power-on, a RESET_N, and a taken RESTART whose response has ended with no record write left, all take every block
to its reset values (R19, R191): the banks' bytes and the service record stay in non-volatile memory, the lines stay as
the outside world drives them (log entry 9), and a contactor whose feedback reads closed is watched from the reset on
(R105). Here nothing in non-volatile memory is in progress. Among the reset values the south link is WAKING with its
first WAKE due, supervision runs with 2,550 ms, pack time is 0, the schedule STOPPED, the store LOADING with its record
unread (log entry 10), and the connection OPEN with every drive open (R7, R40, R60, R98, R101, R125, R140, R158, R185).
Before its moment RESTART_EFFECT does nothing (log entry 2). -/
def Obligations.ResetTakesEveryBlockToItsResetValues : Prop :=
  ∀ (c : Part) (q : List Instr),
    let watch (closed : Bool) : ContactorState := { watch := if closed then .timing 50000#32 else .armed }
    let t : Part :=
      { lines := c.lines,
        seq := { kPos := watch c.lines.feedback.kPos, kNeg := watch c.lines.feedback.kNeg, kPre := watch c.lines.feedback.kPre },
        store := { bankA := { bytes := c.store.bankA.bytes }, bankB := { bytes := c.store.bankB.bytes },
                   record := c.store.record },
        freeIndex := c.freeIndex }
    (c.store.write = .idle → c.store.update ≠ .erasing → c.mgmt.programming = none →
      exec .powerOn ⟨c, q⟩ = .next ⟨t, q⟩ ∧ exec .resetN ⟨c, q⟩ = .next ⟨t, q⟩ ∧
      ∀ ends, c.mgmt.restart = .answered ends → atOrAfter c.sched.packTime ends = true →
        exec .restartEffect ⟨c, q⟩ = .next ⟨t, q⟩) ∧
    (t.south.link = .waking ∧ t.south.bringDue = some 0#32 ∧ t.south.wakesSent = 0 ∧
      t.south.replies = Vector.replicate 16 none ∧
      t.south.foreign = 0 ∧ t.south.linkLost = false ∧ t.interlock.supervision = some 2550000#32 ∧
      t.interlock.silence = false ∧ t.interlock.tripped = [] ∧ t.interlock.latches = 0 ∧ t.interlock.events = 0 ∧
      t.interlock.effective = .none ∧ t.interlock.faultOut = false ∧
      t.sched.packTime = 0 ∧ t.sched.state = .stopped ∧ t.sched.run = none ∧ t.sched.sweeps = [] ∧ t.sched.nextSweep = 0 ∧
      t.sched.throttled = false ∧ t.sched.missed = Vector.replicate 16 0 ∧ t.sched.slotMiss = Vector.replicate 24 0 ∧
      t.eval.records = [] ∧ t.eval.shunt = none ∧
      t.router = { tracker := [], southQueue := [], forward := [], late := 0, refusalsDiscarded := 0 } ∧
      t.seq.conn = .opened ∧ t.seq.kPos.drive = false ∧ t.seq.kNeg.drive = false ∧ t.seq.kPre.drive = false ∧
      t.seq.events = [] ∧ t.seq.nextEvent = 0 ∧ t.reports.queue = [] ∧ t.reports.nextSeq = 0 ∧ t.reports.priorityLoss = false ∧
      t.power.state = .active ∧ t.power.causes = 0 ∧ t.power.hostWake = false ∧
      t.store.state = .loading ∧ t.store.recordRead = false ∧ t.store.update = .idle ∧ t.store.write = .idle ∧
      t.store.tables = Tables.empty ∧ t.mgmt.requests = [] ∧ t.mgmt.responses = [] ∧ (∀ n ∈ t.counters, n = 0)) ∧
    ((c.store.write ≠ .idle ∨ c.mgmt.restart = .notTaken ∨ c.mgmt.restart = .taken ∨
        ∃ ends, c.mgmt.restart = .answered ends ∧ atOrAfter c.sched.packTime ends = false) →
      exec .restartEffect ⟨c, q⟩ = .next ⟨c, q⟩)

/-- What a power-on or RESET_N cuts off in non-volatile memory (R118, R119, R161, R168, R169, R178, R180): the record is
the old one or the one being written, and the old one where the write would change the lockout flag or clear the tamper
latch; a byte of a bank is as it was unless an erase or a programming of the target bank was reaching it. Which record
stays where both may, and what such a byte then holds, is a free value (log entry 11). The record in memory is not read
again before the boot (log entry 10). -/
def Obligations.ResetCutsOffMemoryWrites : Prop :=
  ∀ (i : Instr) (c : Part) (q : List Instr), i = .powerOn ∨ i = .resetN → ∃ t : Part, exec i ⟨c, q⟩ = .next ⟨t, q⟩ ∧
    (t.store.record = c.store.record ∨
      ∃ f d, (c.store.write = .inProgress f d ∨ c.store.write = .inProgressWaiting f d) ∧ t.store.record = some f ∧
        f.lockout = (c.store.record.getD {}).lockout ∧ ((c.store.record.getD {}).tamper = true → f.tamper = true)) ∧
    (∀ (n : BankName) (a : Nat),
      (n ≠ c.store.target ∨
        (c.store.update ≠ .erasing ∧
          ∀ p, c.mgmt.programming = some p → a < p.offset ∨ p.offset + p.data.length ≤ a)) →
      (t.store.bank n).bytes.read a = (c.store.bank n).bytes.read a) ∧
    t.store.state = .loading ∧ t.store.update = .idle ∧ t.store.recordRead = false ∧ t.store.staged = none

/-- The boot of a LOADING store, whenever it is given (R159, R160, R162, R163; log entry 3): the service record is read,
unless it has been read before (log entry 10), a set lockout flag then makes the connection LOCKED_OUT with every drive
open, and a set tamper latch counts the TAMPER object (R101, R103); the banks take the states that the record and the
blank test give; the active bank's image is taken into use when it passes every check with a version equal to the floor,
and otherwise the store is UNCONFIGURED with the empty tables; the effective action and FAULT_OUT are formed and the
throttle state is tested with the marks in use (R57, R94, R95). In another store state BOOT does nothing (log entry 2).
-/
def Obligations.BootTakesTheActiveImage : Prop :=
  ∀ (c : Part) (q : List Instr),
    let r : ServiceRecord := if c.store.recordRead then c.store.copy else c.store.record.getD {}
    let stateOf (n : BankName) (b : Bank) : BankState :=
      if r.active = some n then .active else if b.bytes.all (fun x => x.2 == 0xFF#8) then .erased else .written
    (c.store.state = .loading → ∃ t : Part, exec .boot ⟨c, q⟩ = .next ⟨t, q⟩ ∧
      t.store.recordRead = true ∧ t.store.copy.active = r.active ∧ t.store.copy.floor = r.floor ∧
      t.store.copy.tamper = r.tamper ∧
      t.store.bankA = { bytes := c.store.bankA.bytes, state := stateOf .a c.store.bankA } ∧
      t.store.bankB = { bytes := c.store.bankB.bytes, state := stateOf .b c.store.bankB } ∧
      (∀ n, r.active = some n →
        checkImage (c.store.bank n).bytes (fun v => decide (v = r.floor)) = .staged →
        t.store.state = .configured ∧ t.store.tables = loadTables (c.store.bank n).bytes ∧
        t.store.versionInUse = some (imageVersion (c.store.bank n).bytes)) ∧
      ((r.active = none ∨ ∃ n, r.active = some n ∧
          checkImage (c.store.bank n).bytes (fun v => decide (v = r.floor)) ≠ .staged) →
        t.store.state = .unconfigured ∧ t.store.tables = Tables.empty) ∧
      t.store.copy.lockout = (r.lockout || decide (c.seq.conn ≠ .lockedOut ∧ t.seq.conn = .lockedOut)) ∧
      (c.store.recordRead = false → r.lockout = true → t.seq.conn = .lockedOut ∧
        t.seq.kPos.drive = false ∧ t.seq.kNeg.drive = false ∧ t.seq.kPre.drive = false) ∧
      (c.store.recordRead = false → r.tamper = true → packObject .tamper ∈ t.interlock.tripped) ∧
      (c.store.recordRead = true ∨ r.tamper = false → t.interlock.tripped = c.interlock.tripped) ∧
      t.interlock.effective = t.effectiveAction ∧
      t.interlock.faultOut = decide (3 ≤ t.interlock.effective.code ∨ t.seq.conn = .lockedOut) ∧
      (t.store.tables.header.highMark ≤ t.reports.queue.length → t.sched.throttled = true) ∧
      (t.reports.queue.length ≤ t.store.tables.header.lowMark → t.reports.queue.length < t.store.tables.header.highMark →
        t.sched.throttled = false)) ∧
    (c.store.state ≠ .loading → exec .boot ⟨c, q⟩ = .next ⟨c, q⟩)

/-! ### The north link -/

/-- A north-in frame that fails the frame check, or passes it and is not one that R3 hands on, is counted once and has
no other effect, while the north link interface runs (R2 to R4). -/
def Obligations.NorthFramesThatGoNowhereAreCounted : Prop :=
  ∀ (c : Part) (q : List Instr), c.power.state = .active ∨ c.power.state = .sleepEntry →
    (∀ r : Reception, checkReception r = none →
      exec (.northFrameCheckFail r) ⟨c, q⟩ =
        .next ⟨{ c with north.crcErrors := min (c.north.crcErrors + 1) 65535 }, q⟩) ∧
    (∀ (bs : List Byte) (f : Frame), checkReception (.frame bs) = some f →
      ((f.kind = .mgmtReq ∧ f.dest ≠ 0) ∨ (f.kind = .command ∧ f.dest = 0) ∨
        (f.kind ≠ .mgmtReq ∧ f.kind ≠ .command)) →
      exec (.northFrameDiscard bs) ⟨c, q⟩ =
        .next ⟨{ c with kindDiscards := min (c.kindDiscards + 1) 65535 }, q⟩)

/-- A MGMT_REQ for node 0 (R3, R98, R99, R150, R181): with a place free it joins the request queue, clears the silence
condition, in ACTIVE restarts the supervision timer, and deasserts HOST_WAKE; with none it is counted as an overflow and
does nothing else. -/
def Obligations.ManagementRequestIsAccepted : Prop :=
  ∀ (c : Part) (q : List Instr) (bs : List Byte) (f : Frame), c.power.state = .active ∨ c.power.state = .sleepEntry →
    checkReception (.frame bs) = some f → f.kind = .mgmtReq → f.dest = 0 →
    let timer : Option Time :=
      if c.power.state = .active then some (c.sched.packTime + BitVec.ofNat 32 (c.store.tables.params.supervisionMs * 1000))
      else c.interlock.supervision
    (c.mgmt.places < 4 → c.interlock.silence = false →
      exec (.mgmtReqAccept bs) ⟨c, q⟩ =
        .next ⟨{ c with mgmt.requests := c.mgmt.requests ++ [f], interlock.supervision := timer, power.hostWake := false }, q⟩) ∧
    (c.mgmt.places < 4 → c.interlock.silence = true →
      ∃ t : Part, exec (.mgmtReqAccept bs) ⟨c, q⟩ = .next ⟨t, q⟩ ∧ t.mgmt = { c.mgmt with requests := c.mgmt.requests ++ [f] } ∧
        t.interlock.silence = false ∧ packObject .hostSilent ∉ t.interlock.tripped ∧ t.interlock.supervision = timer ∧
        t.power = { c.power with hostWake := false } ∧ t.router = c.router ∧ t.south = c.south ∧ t.north = c.north) ∧
    (4 ≤ c.mgmt.places →
      exec (.mgmtReqAccept bs) ⟨c, q⟩ = .next ⟨{ c with mgmt.overflow := min (c.mgmt.overflow + 1) 65535 }, q⟩)

/-- Admission of a COMMAND (R25 to R28, R34, R35). For destination 1 to 30, in order: NO_ROUTE, REFUSED with the
deciding index, SEQ_CLASH, BUSY, LINK_DOWN with the command code, and otherwise forwarding with a QUEUED record. For a
broadcast, in order: REFUSED, BUSY, LINK_DOWN, and otherwise forwarding to 31 from 0 with no record. A refusal joins the
north forward queue while fewer than four wait there, and is otherwise counted as discarded. -/
def Obligations.CommandIsForwardedOrRefused : Prop :=
  ∀ (c : Part) (q : List Instr) (bs : List Byte) (f : Frame), c.power.state = .active ∨ c.power.state = .sleepEntry →
    checkReception (.frame bs) = some f → f.kind = .command →
    let refused (code : Nat) (payload : List Byte) : Part :=
      if c.router.refusals < 4 then
        { c with router.forward := c.router.forward ++
            [{ frame := { dest := 0, source := f.dest, kind := .response, seq := f.seq,
                          status := BitVec.ofNat 8 (128 + code), payload := payload }, refusal := true }] }
      else { c with router.refusalsDiscarded := min (c.router.refusalsDiscarded + 1) 65535 }
    let d := c.store.tables.decide f.passKey
    (1 ≤ f.dest.toNat → f.dest.toNat ≤ 30 → c.store.tables.byLogical f.dest.toNat = none →
      exec (.northCommand bs) ⟨c, q⟩ = .next ⟨refused 4 [], q⟩) ∧
    (∀ e, 1 ≤ f.dest.toNat → f.dest.toNat ≤ 30 → c.store.tables.byLogical f.dest.toNat = some e →
      let clash := ∃ r ∈ c.router.tracker, r.seq = f.seq
      let busy := c.power.state = .sleepEntry ∨ 8 ≤ c.router.trackedLoad ∨ 8 ≤ c.router.southQueue.length
      (c.passes d.1 = false → exec (.northCommand bs) ⟨c, q⟩ = .next ⟨refused 3 [BitVec.ofNat 8 d.2], q⟩) ∧
      (c.passes d.1 = true → clash → exec (.northCommand bs) ⟨c, q⟩ = .next ⟨refused 5 [], q⟩) ∧
      (c.passes d.1 = true → ¬ clash → busy → exec (.northCommand bs) ⟨c, q⟩ = .next ⟨refused 2 [], q⟩) ∧
      (c.passes d.1 = true → ¬ clash → ¬ busy → c.south.link = .down →
        exec (.northCommand bs) ⟨c, q⟩ = .next ⟨refused 6 [f.byte 0], q⟩) ∧
      (c.passes d.1 = true → ¬ clash → ¬ busy → c.south.link ≠ .down →
        exec (.northCommand bs) ⟨c, q⟩ = .next ⟨{ c with
          router.southQueue := c.router.southQueue ++
            [{ frame := { f with dest := BitVec.ofNat 8 e.position, source := 0 }, tracked := true }],
          router.tracker := c.router.tracker ++
            [{ seq := f.seq, logical := f.dest.toNat, position := e.position, code := f.byte 0, state := .queued }] }, q⟩)) ∧
    (f.dest = 31 →
      let busy := c.power.state = .sleepEntry ∨ 8 ≤ c.router.southQueue.length
      (c.passes d.1 = false → exec (.broadcastCommand bs) ⟨c, q⟩ = .next ⟨refused 3 [BitVec.ofNat 8 d.2], q⟩) ∧
      (c.passes d.1 = true → busy → exec (.broadcastCommand bs) ⟨c, q⟩ = .next ⟨refused 2 [], q⟩) ∧
      (c.passes d.1 = true → ¬ busy → c.south.link = .down →
        exec (.broadcastCommand bs) ⟨c, q⟩ = .next ⟨refused 6 [f.byte 0], q⟩) ∧
      (c.passes d.1 = true → ¬ busy → c.south.link ≠ .down →
        exec (.broadcastCommand bs) ⟨c, q⟩ = .next ⟨{ c with
          router.southQueue := c.router.southQueue ++
            [{ frame := { f with dest := 31, source := 0 }, tracked := false }] }, q⟩))

/-- The north transmit arbiter on a free link (R1, R17, R128, R182, R191): the management response first, and with it
the known end of a RESTART's response; then the north forward queue; then, in ACTIVE alone, the report queue, whose new
fill sets the throttle state (R57). Nothing starts while the link is not free or the interface watches. -/
def Obligations.NorthTransmitterTakesByPriority : Prop :=
  ∀ (c : Part) (q : List Instr),
    let started (f : Frame) : Option OnWire := some { frame := f, start := c.sched.packTime, tag := .plain, endTaken := false }
    let runs := c.power.state = .active ∨ c.power.state = .sleepEntry
    (runs → linkFree c.sched.packTime c.north.wire = true → ∀ r rest, c.mgmt.responses = r :: rest →
      exec .northTransmitStart ⟨c, q⟩ = .next ⟨{ c with
        north.wire := started r.frame, mgmt.responses := rest,
        mgmt.restart := if r.restart then .answered (c.sched.packTime + BitVec.ofNat 32 (4 * (8 + r.frame.payload.length) + 8))
          else c.mgmt.restart }, q⟩) ∧
    (runs → linkFree c.sched.packTime c.north.wire = true → c.mgmt.responses = [] →
      ∀ e rest, c.router.forward = e :: rest →
      exec .northTransmitStart ⟨c, q⟩ = .next ⟨{ c with north.wire := started e.frame, router.forward := rest }, q⟩) ∧
    (linkFree c.sched.packTime c.north.wire = true → c.mgmt.responses = [] → c.router.forward = [] →
      c.power.state = .active → ∀ r rest, c.reports.queue = r :: rest →
      exec .northTransmitStart ⟨c, q⟩ = .next ⟨{ c with
        north.wire := started r.frame, reports.queue := rest,
        sched.throttled :=
          if c.store.tables.header.highMark ≤ rest.length then true
          else if rest.length ≤ c.store.tables.header.lowMark then false else c.sched.throttled }, q⟩) ∧
    ((linkFree c.sched.packTime c.north.wire = false ∨ c.power.state = .deep ∨ c.power.state = .patrol ∨
        (c.mgmt.responses = [] ∧ c.router.forward = [] ∧ (c.power.state = .sleepEntry ∨ c.reports.queue = []))) →
      exec .northTransmitStart ⟨c, q⟩ = .next ⟨c, q⟩)

/-! ### Wakes -/

/-- The events that wake the part (R145, R146, R148, R150, R153, R154): WAKE_IN becoming asserted, in SLEEP_ENTRY, DEEP
or PATROL; a transition on north-in, in DEEP or PATROL, with which the frame it belongs to is lost (R4); and in DEEP a
feedback of the open-feedback set that reads closed. Each leaves the part ACTIVE, its wake cause set empty, its
supervision timer restarted, pack time and the tables as they were; from DEEP the evaluator's objects are NORMAL, the
missed-reply counts 0, the patrol timer stopped and the south link WAKING; from SLEEP_ENTRY the south link is WAKING;
and HOST_WAKE is asserted after a patrol and after a feedback wake. The POWER report of a return by WAKE_IN or by north
activity, the last report made, shows the state left, the causes, the pack time, the patrol counter and no class, unless
it is lost to a full queue (R137, R149); in a feedback wake it is the last report made before the sleep feedbacks are
handed to the sequencer, with FEEDBACK among the causes (R148). A patrol also escalates by a class that an event activates while its wake flag is set, with
that class and CLASS_ACTIVATED, and by the south link's entry to DOWN, with LINK_FAILED where no activation came first
(R153, R154; log entry 17); that the POWER report of a class is the last report made rests on the order in which a trip
is handed on (log entry 15); an event of a class that is active already, or whose wake flag is clear, leaves it running.
Two sources that arrive together in DEEP, the second waiting while the first is taken (log entry 42), give the same
outcome in either order: of WAKE_IN and north activity both are in the set that the report shows, and of WAKE_IN and a
feedback that closes the fault is made and HOST_WAKE asserted (R146, R150); and a feedback that closes together with the
patrol timer's expiry, which is taken first, escalates the patrol at once.
-/
def Obligations.WakeEventsReturnToActive : Prop :=
  (∀ (c : Part) (q : List Instr),
    let told (t : Part) (left : PowerState) (causes : BitVec 8) (cls : Nat) : Prop :=
      t.reported ([4, BitVec.ofNat 8 left.code, causes] ++ be 4 c.sched.packTime.toNat ++ be 2 c.power.patrols ++
        [BitVec.ofNat 8 cls])
    let escalated (t : Part) : Prop :=
      t.power.state = .active ∧ t.power.step = .none ∧ t.power.causes = 0 ∧ t.power.escalating = none ∧
      t.power.hostWake = true ∧ t.power.patrols = c.power.patrols ∧ (∀ w ∈ t.sched.sweeps, w.runKind = .normal) ∧
      t.interlock.supervision = some (c.sched.packTime + BitVec.ofNat 32 (c.store.tables.params.supervisionMs * 1000)) ∧
      (c.power.step ≠ .returning → t.south.link = .down ∨ t.south.link = c.south.link) ∧
      (c.sched.state = .running → ∃ r, t.sched.run = some r ∧ r.kind = .normal)
    let quiet := ∀ j ∈ q, j.wakes = false
    (c.lines.wakeIn = false → c.power.state ≠ .active → c.power.escalating = none →
      (c.power.state = .deep → quiet ∧ c.power.closedFeedback = { kPos := false, kNeg := false, kPre := false }) →
      ∃ t : Part, exec (.wakeInAssert .asserted) ⟨c, q⟩ = .next ⟨t, q⟩ ∧
        told t c.power.state (c.power.causes ||| 1#8) 0) ∧
    (c.power.state = .deep ∨ c.power.state = .patrol → c.power.escalating = none →
      (c.power.state = .deep → quiet ∧ c.power.closedFeedback = { kPos := false, kNeg := false, kPre := false }) →
      ∃ t : Part, exec .northActivity ⟨c, q⟩ = .next ⟨t, q⟩ ∧ told t c.power.state (c.power.causes ||| 2#8) 0) ∧
    (∀ a b d, c.power.state = .deep → c.power.escalating = none → quiet →
      c.power.closedFeedback = { kPos := false, kNeg := false, kPre := false } →
      let seen : ContactorFlags :=
        { kPos := a && c.power.openFeedback.kPos, kNeg := b && c.power.openFeedback.kNeg,
          kPre := d && c.power.openFeedback.kPre }
      seen.kPos = true ∨ seen.kNeg = true ∨ seen.kPre = true →
      ∃ u : Part, told u .deep (c.power.causes ||| 8#8) 0 ∧ u.power.state = .active ∧ u.power.hostWake = true ∧
        exec (.deepFeedbackClosed a b d) ⟨c, q⟩ = .next ⟨(u.sleepFeedbacks seen).resumeSequencer, q⟩) ∧
    (∀ bs, c.power.state = .patrol → c.south.link ≠ .off → sortSouth (.frame bs) = .spoof →
      ∃ t : Part, exec (.chainSpoof bs) ⟨c, q⟩ = .next ⟨t, q⟩ ∧
        (c.store.tables.wakes .chainSpoof = true → hasClass c.interlock.events .chainSpoof = false →
          escalated t ∧ told t .patrol (c.power.causes ||| 32#8) FaultClass.chainSpoof.number) ∧
        (c.store.tables.wakes .chainSpoof = false ∨ hasClass c.interlock.events .chainSpoof = true →
          t.power = c.power ∧ t.sched.run = c.sched.run)) ∧
    (∀ r, checkReception r = none → c.power.state = .patrol → c.south.link = .up →
      c.store.tables.params.linkThreshold ≤ c.south.errorCount + 1 →
      ∃ t : Part, exec (.southFrameCheckFail r) ⟨c, q⟩ = .next ⟨t, q⟩ ∧ escalated t ∧
        (c.south.linkLost = true ∨ c.store.tables.wakes .linkDown = false →
          told t .patrol (c.power.causes ||| 64#8) 0)) ∧
    (c.power.state = .deep → c.lines.wakeIn = false → c.power.escalating = none →
      c.power.closedFeedback = { kPos := false, kNeg := false, kPre := false } →
      quiet →
      let i : Instr := .wakeInAssert .asserted
      let j : Instr := .northActivity
      ∃ t : Part, exec i ⟨c, j :: q⟩ = .next ⟨t, j :: q⟩ ∧ exec j ⟨c, i :: q⟩ = .next ⟨t, i :: q⟩ ∧
        exec i ⟨t, q⟩ = .next ⟨t, q⟩ ∧ exec j ⟨t, q⟩ = .next ⟨t, q⟩ ∧
        t.power.state = .active ∧ t.power.causes = 0 ∧ told t .deep (c.power.causes ||| 3#8) 0) ∧
    (c.power.state = .deep → c.lines.wakeIn = false → c.power.openFeedback.kPos = true →
      let i : Instr := .wakeInAssert .asserted
      let j : Instr := .deepFeedbackClosed true false false
      ∃ t : Part, exec i ⟨c, j :: q⟩ = .next ⟨t, j :: q⟩ ∧ exec j ⟨c, i :: q⟩ = .next ⟨t, i :: q⟩ ∧
        exec i ⟨t, q⟩ = .next ⟨t, q⟩ ∧ exec j ⟨t, q⟩ = .next ⟨t, q⟩ ∧
        t.power.state = .active ∧ t.power.causes = 0 ∧ t.power.hostWake = true ∧ t.lines.wakeIn = true ∧
        t.lines.feedback.kPos = true ∧ hasClass t.interlock.events .contactorFault = true) ∧
    (c.power.state = .deep → c.power.patrolTimer = some 0 → c.power.openFeedback.kPos = true →
      ∃ t u : Part, exec .patrolTimerExpiry ⟨c, q⟩ = .next ⟨t, q⟩ ∧ t.power.state = .patrol ∧
        exec (.deepFeedbackClosed true false false) ⟨t, q⟩ = .next ⟨u, q⟩ ∧
        u.power.state = .active ∧ u.power.hostWake = true ∧ u.lines.feedback.kPos = true ∧
        hasClass u.interlock.events .contactorFault = true ∧
        (c.seq.conn = .opened ∨ c.seq.conn = .lockedOut → u.seq.conn = .lockedOut))) ∧
  ∀ (i : Instr) (c : Part) (q : List Instr),
    ((i = .wakeInAssert .asserted ∧ c.lines.wakeIn = false ∧ c.power.state ≠ .active) ∨
      ((i = .northActivity ∨ ∃ bs, i = .mgmtReqAccept bs ∨ i = .northCommand bs ∨ i = .broadcastCommand bs ∨
          i = .northFrameDiscard bs ∨ i = .northFrameCheckFail (.frame bs)) ∧
        (c.power.state = .deep ∨ c.power.state = .patrol)) ∨
      (c.power.state = .deep ∧ ∃ a b d, i = .deepFeedbackClosed a b d ∧
        ((a = true ∧ c.power.openFeedback.kPos = true) ∨ (b = true ∧ c.power.openFeedback.kNeg = true) ∨
          (d = true ∧ c.power.openFeedback.kPre = true)))) →
    ∃ t : Part, exec i ⟨c, q⟩ = .next ⟨t, q⟩ ∧
      t.power.state = .active ∧ t.power.step = .none ∧ t.power.causes = 0 ∧ t.power.escalating = none ∧
      t.interlock.supervision = some (c.sched.packTime + BitVec.ofNat 32 (c.store.tables.params.supervisionMs * 1000)) ∧
      t.sched.packTime = c.sched.packTime ∧ t.store.tables = c.store.tables ∧ t.mgmt = c.mgmt ∧
      (c.power.state ≠ .deep ∨ (∀ j ∈ q, j.wakes = false) →
        t.lines.wakeIn = (if i = .wakeInAssert .asserted then true else c.lines.wakeIn)) ∧
      (c.power.state = .deep →
        t.eval.channels = Vector.replicate 16 (Vector.replicate 16 { state := .normal, counter := 0, pending := .none }) ∧
        t.eval.sum = { state := .normal, counter := 0, pending := .none } ∧
        t.eval.sense = Vector.replicate 16 { tripped := false, counter := 0 } ∧
        t.eval.lost = Vector.replicate 16 { tripped := false, counter := 0 } ∧
        t.sched.missed = Vector.replicate 16 0 ∧ t.power.patrolTimer = none) ∧
      (c.power.state = .deep ∨ c.power.state = .sleepEntry → t.south.link = .waking) ∧
      (c.power.state = .patrol ∨ (∃ a b d, i = .deepFeedbackClosed a b d) → t.power.hostWake = true)

/-! ### The south link: received frames -/

/-- A south-in frame that fails the frame check (R2, R11, R13, R37): it is counted; in UP it adds one to the link error
count and sets the good-frame run to 0; and when the count reaches the threshold, outside PATROL, the link is DOWN, with
the retry timer 100 ms ahead, every tracker record completed with LINK_DOWN in tracker order, the south queue empty, and
no sweep open. In OFF the interface does not receive. -/
def Obligations.SouthCheckFailuresTakeTheLinkDown : Prop :=
  ∀ (c : Part) (q : List Instr) (r : Reception), checkReception r = none →
    let counted : Part := { c with south.crcErrors := min (c.south.crcErrors + 1) 65535 }
    (c.south.link = .off → exec (.southFrameCheckFail r) ⟨c, q⟩ = .next ⟨c, q⟩) ∧
    (c.south.link = .waking ∨ c.south.link = .enumerating ∨ c.south.link = .down →
      exec (.southFrameCheckFail r) ⟨c, q⟩ = .next ⟨counted, q⟩) ∧
    (c.south.link = .up → c.south.errorCount + 1 < c.store.tables.params.linkThreshold →
      exec (.southFrameCheckFail r) ⟨c, q⟩ =
        .next ⟨{ counted with south.errorCount := c.south.errorCount + 1, south.goodRun := 0 }, q⟩) ∧
    (c.south.link = .up → c.store.tables.params.linkThreshold ≤ c.south.errorCount + 1 → c.power.state ≠ .patrol →
      ∃ t : Part, exec (.southFrameCheckFail r) ⟨c, q⟩ = .next ⟨t, q⟩ ∧
        t.south.link = .down ∧ t.south.linkLost = true ∧ t.south.window = none ∧
        t.south.retry = some (c.sched.packTime + 100000#32) ∧
        t.south.crcErrors = min (c.south.crcErrors + 1) 65535 ∧
        t.south.downEvents = min (c.south.downEvents + 1) 65535 ∧
        t.router = { c.router with
          tracker := [], southQueue := [],
          forward := c.router.forward ++ c.router.tracker.map (fun x =>
            { frame := { dest := 0, source := BitVec.ofNat 8 x.logical, kind := .response, seq := x.seq, status := 134,
                         payload := [x.code] }, refusal := false }) } ∧
        t.sched.sweeps = [] ∧ t.south.sampling = [] ∧ t.sched.packTime = c.sched.packTime ∧ t.mgmt = c.mgmt ∧
        t.power.state = c.power.state)

/-- The sorting of a south-in frame by its kind, destination and source, bytes 2, 0 and 1 (R2, R5): one that fails the
check goes nowhere; for destination 0 a COMMAND or MGMT_REQ is a spoof, a RESPONSE, a SAMPLE or an ENUM_REPLY from a
source of 1 to 16 is handed on with that position, and every other is a discard, as is every frame for another
destination, one above 31 too (log entry 13). A frame of no use there (R5, R11) is one kind/direction discard, and in UP
one more on the good-frame run, whose 64th good frame sets the link error count and the run to 0. -/
def Obligations.SouthFramesOfNoUseAreCounted : Prop :=
  (∀ (bs : List Byte) (f : Frame), parseFrame bs = some f →
    let kind := (bs.getD 2 0).toNat
    let p := (bs.getD 1 0).toNat
    let ours := bs.getD 0 0 = 0
    let fromModule := 1 ≤ p ∧ p ≤ 16
    let sorted := sortSouth (.frame bs)
    (¬ ours → sorted = .discard) ∧
    (ours → kind = 0 ∨ kind = 9 → sorted = .spoof) ∧
    (ours → fromModule → (kind = 1 → sorted = .response p f) ∧ (kind = 3 → sorted = .sample p f) ∧
      (kind = 6 → sorted = .enumReply p f)) ∧
    (ours → ¬ fromModule → kind = 1 ∨ kind = 3 ∨ kind = 6 → sorted = .discard) ∧
    (ours → kind ∈ [2, 4, 5, 7, 8, 10, 11] → sorted = .discard)) ∧
  (∀ r : Reception, checkReception r = none → sortSouth r = .checkFail) ∧
  ∀ (c : Part) (q : List Instr) (bs : List Byte), sortSouth (.frame bs) = .discard →
    let discarded : Part := { c with kindDiscards := min (c.kindDiscards + 1) 65535 }
    (c.south.link = .off → exec (.southFrameDiscard bs) ⟨c, q⟩ = .next ⟨c, q⟩) ∧
    (c.south.link = .waking ∨ c.south.link = .enumerating ∨ c.south.link = .down →
      exec (.southFrameDiscard bs) ⟨c, q⟩ = .next ⟨discarded, q⟩) ∧
    (c.south.link = .up → c.south.goodRun + 1 < 64 →
      exec (.southFrameDiscard bs) ⟨c, q⟩ = .next ⟨{ discarded with south.goodRun := c.south.goodRun + 1 }, q⟩) ∧
    (c.south.link = .up → 64 ≤ c.south.goodRun + 1 →
      exec (.southFrameDiscard bs) ⟨c, q⟩ = .next ⟨{ discarded with south.errorCount := 0, south.goodRun := 0 }, q⟩)

/-- A module's RESPONSE (R31, R32): it matches the SENT record with its position and sequence, which leaves the tracker,
and goes north rewritten; with no such record it is late. The good-frame count of R11 is taken first. -/
def Obligations.ResponseIsReturnedOrLate : Prop :=
  ∀ (c : Part) (q : List Instr) (bs : List Byte) (p : Nat) (f : Frame), c.south.link ≠ .off →
    sortSouth (.frame bs) = .response p f →
    (∀ (before after : List TxRecord) (r : TxRecord) (d : Time), c.router.tracker = before ++ r :: after →
      (∀ x ∈ before, x.seq ≠ r.seq) → (∀ x ∈ after, x.seq ≠ r.seq) →
      r.state = .sent d → r.position = p → r.seq = f.seq →
      exec (.southResponse bs) ⟨c, q⟩ = .next ⟨{ c.goodFrame with
        router.tracker := before ++ after,
        router.forward := c.router.forward ++
          [{ frame := { dest := 0, source := BitVec.ofNat 8 r.logical, kind := f.kind, seq := f.seq,
                        status := f.status &&& 127, payload := f.payload }, refusal := false }] }, q⟩) ∧
    ((∀ x ∈ c.router.tracker, x.seq = f.seq → x.position = p → x.state = .queued) →
      exec (.southResponse bs) ⟨c, q⟩ =
        .next ⟨{ c.goodFrame with router.late := min (c.router.late + 1) 65535 }, q⟩)

/-- The times of a transaction (R30, R33): the end of a tracked command's frame makes its record SENT with the response
timeout counted from that end, and with no record the end is ignored; the deadline of a SENT record removes it and
queues a TIMEOUT. A frame's end or a deadline given before its moment changes nothing (log entry 2). -/
def Obligations.TransactionTimesAreKept : Prop :=
  ∀ (c : Part) (q : List Instr),
    (∀ w n, c.south.wire = some w → w.tag = .tracked n → w.endTaken = false →
      let ends := w.start + BitVec.ofNat 32 (4 * (8 + w.frame.payload.length) + 8)
      (atOrAfter c.sched.packTime ends = true →
        exec .commandFrameEnd ⟨c, q⟩ = .next ⟨{ c with
          south.wire := some { w with endTaken := true },
          router.tracker := c.router.tracker.map (fun r =>
            if r.seq = n ∧ r.state = .queued then
              { r with state := .sent (ends + BitVec.ofNat 32 c.store.tables.params.responseTimeout) }
            else r) }, q⟩) ∧
      (atOrAfter c.sched.packTime ends = false → exec .commandFrameEnd ⟨c, q⟩ = .next ⟨c, q⟩)) ∧
    (∀ (before after : List TxRecord) (r : TxRecord) (d : Time), c.router.tracker = before ++ r :: after →
      (∀ x ∈ before, x.seq ≠ r.seq) → (∀ x ∈ after, x.seq ≠ r.seq) → r.state = .sent d →
      (atOrAfter c.sched.packTime d = true →
        exec (.transactionDeadline r.seq) ⟨c, q⟩ = .next ⟨{ c with
          router.tracker := before ++ after,
          router.forward := c.router.forward ++
            [{ frame := { dest := 0, source := BitVec.ofNat 8 r.logical, kind := .response, seq := r.seq, status := 129,
                          payload := [r.code] }, refusal := false }] }, q⟩) ∧
      (atOrAfter c.sched.packTime d = false → exec (.transactionDeadline r.seq) ⟨c, q⟩ = .next ⟨c, q⟩))

/-- A SAMPLE (R52) that is malformed, late, unsolicited or a duplicate is counted in its own counter; one that passes
the three tests, and is not the last reply its sweep waits for, is stored with its skew judged. The good-frame count of
R11 is taken first. -/
def Obligations.SampleIsStoredOrCounted : Prop :=
  ∀ (c : Part) (q : List Instr) (bs : List Byte) (p : Nat) (f : Frame), c.south.link ≠ .off →
    sortSouth (.frame bs) = .sample p f →
    let g := c.goodFrame
    (parseSample f.payload = none →
      exec (.sample bs) ⟨c, q⟩ = .next ⟨{ g with kindDiscards := min (c.kindDiscards + 1) 65535 }, q⟩) ∧
    (∀ d, parseSample f.payload = some d →
      ((∀ w ∈ c.sched.sweeps, w.number ≠ d.sweep) →
        exec (.sample bs) ⟨c, q⟩ = .next ⟨{ g with sched.lateSamples := min (c.sched.lateSamples + 1) 65535 }, q⟩) ∧
      (∀ w, c.sched.sweep d.sweep = some w →
        (hasPos w.target p = false →
          exec (.sample bs) ⟨c, q⟩ = .next ⟨{ g with sched.unsolicited := min (c.sched.unsolicited + 1) 65535 }, q⟩) ∧
        (hasPos w.target p = true → hasPos w.replied p = true →
          exec (.sample bs) ⟨c, q⟩ = .next ⟨{ g with sched.duplicates := min (c.sched.duplicates + 1) 65535 }, q⟩) ∧
        (hasPos w.target p = true → hasPos w.replied p = false → addPos w.replied p ≠ w.target →
          let apart := (d.taken - w.sampleTime).toNat
          let skewed : Bool := decide (c.store.tables.header.skewLimit < (if apart < 2 ^ 31 then apart else 2 ^ 32 - apart))
          exec (.sample bs) ⟨c, q⟩ = .next ⟨{ g with
            sched.sweeps := c.sched.sweeps.map (fun x => if x.number = d.sweep then
              { w with
                replied := addPos w.replied p, skewed := if skewed then addPos w.skewed p else w.skewed,
                buffers := w.buffers ++ [{ position := p, taken := d.taken, channels := d.channels }] } else x),
            sched.skewedSamples :=
              if skewed then min (c.sched.skewedSamples + 1) 65535 else c.sched.skewedSamples }, q⟩)))

/-- An ENUM_REPLY (R5, R8): the first well-formed one of a position is stored while ENUMERATING, and any other is one
kind/direction discard. The good-frame count of R11 is taken first. -/
def Obligations.EnumReplyIsStoredOnce : Prop :=
  ∀ (c : Part) (q : List Instr) (bs : List Byte) (p : Nat) (f : Frame), c.south.link ≠ .off →
    sortSouth (.frame bs) = .enumReply p f →
    (∀ r, c.south.link = .enumerating → parseEnumReply f.payload = some r → atPos c.south.replies none p = none →
      ∃ t : Part, exec (.enumReply bs) ⟨c, q⟩ = .next ⟨t, q⟩ ∧
        t = { c with south.replies := t.south.replies } ∧ atPos t.south.replies none p = some r ∧
        ∀ n, n ≠ p → atPos t.south.replies none n = atPos c.south.replies none n) ∧
    (c.south.link ≠ .enumerating ∨ parseEnumReply f.payload = none ∨ (atPos c.south.replies none p).isSome = true →
      exec (.enumReply bs) ⟨c, q⟩ = .next ⟨{ c.goodFrame with kindDiscards := min (c.kindDiscards + 1) 65535 }, q⟩)

/-- The interlock unit. A class is active by an event not acknowledged, or by a tripped object or its latch, the TAMPER
latch apart, and LINK_DOWN never in DEEP (R87 to R89); the effective action is the highest that the table in use gives
an active class, and without a table REPORT for any active class (R94, R96); and no step leaves another effective action
than that, or FAULT_OUT other than by the effective action and LOCKED_OUT (R95). A new effective action, formed, goes to
the sequencer, which answers it by its connection state, with the lowest class of that action as cause; a LOCKOUT sets
lockout pending with that class, whatever cause stood there (R113; log entry 18); the record of an abort by LOCKOUT
shows OPEN as its state after (R121; log entry 46). A chain spoof and an expired supervision timer, outside PATROL,
raise their classes (R5, R88, R90, R99): the spoof counter and the CHAIN_SPOOF event class; the silence condition, the
stopped timer and the HOST_SILENT object. Neither changes a link, a run, the router, the power state or the tables. -/
def Obligations.SpoofAndSilenceRaiseTheirClasses : Prop :=
  (∀ (c : Part) (k : FaultClass), c.classActive k = true ↔
    (13 ≤ k.number ∧ hasClass c.interlock.events k = true) ∨
    (k.number ≤ 12 ∧ ¬ (k = .linkDown ∧ c.power.state = .deep) ∧
      ((∃ o ∈ c.interlock.tripped, o.cls = k) ∨ (k ≠ .tamper ∧ hasClass c.interlock.latches k = true)))) ∧
  (∀ c : Part,
    (c.store.tables.interlock = none →
      c.effectiveAction = if ∃ k ∈ FaultClass.all, c.classActive k = true then .report else .none) ∧
    (∀ v, c.store.tables.interlock = some v →
      (∀ (k : FaultClass) (e : InterlockEntry), c.classActive k = true → v[k.number - 1]? = some e →
        e.action.code ≤ c.effectiveAction.code) ∧
      (c.effectiveAction ≠ .none → ∃ (k : FaultClass) (e : InterlockEntry), c.classActive k = true ∧
        v[k.number - 1]? = some e ∧ e.action = c.effectiveAction))) ∧
  (∀ s s' : State, s.part.interlockLaws = true → step s = .next s' → s'.part.interlockLaws = true) ∧
  (∀ c : Part,
    let a := c.effectiveAction
    let t := c.refreshAction
    let opens (k : Contactor) : Prop := (t.seq.contactor k).drive = false
    let due := (c.dueClass a).getD .contactorFault
    let pending := if a = .lockout then some due else c.seq.pendingLockout
    t.interlock = { c.interlock with
      effective := a, faultOut := decide (3 ≤ a.code ∨ t.seq.conn = .lockedOut) } ∧
    (a = c.interlock.effective ∨ a.code < 2 ∨ c.seq.conn = .lockedOut ∨ (c.seq.conn = .opened ∧ a ≠ .lockout) ∨
        (c.seq.conn = .closed ∧ a = .blockClose) ∨ (c.seq.conn = .softOpening ∧ a.code ≤ 3) →
      t = { c with interlock := t.interlock }) ∧
    (a ≠ c.interlock.effective → 2 ≤ a.code →
      (c.seq.conn = .opened ∧ a = .lockout → t.seq.conn = .lockedOut ∧ opens .kPos ∧ opens .kNeg ∧ opens .kPre) ∧
      (c.seq.conn = .negClosing ∨ c.seq.conn = .precharging →
        t.seq.conn = (if a = .lockout then .lockedOut else .opened) ∧ opens .kPos ∧ opens .kNeg ∧ opens .kPre ∧
        ∃ e ∈ t.seq.events, e.kind = .prechargeAbort ∧ e.cause = .cls due ∧ e.before = c.seq.conn ∧ e.after = .opened) ∧
      (c.seq.conn = .mainClosing ∨ ((c.seq.conn = .closed ∨ c.seq.conn = .softOpening) ∧ 4 ≤ a.code) →
        (t.seq.conn = .opening ∨ t.seq.conn = if pending = none then .opened else .lockedOut) ∧ opens .kPos ∧ opens .kPre ∧
        (c.lines.feedback.kPos = true → c.seq.kNeg.drive = true → t.seq.conn = .opening ∧ t.seq.kNeg = c.seq.kNeg ∧
          t.seq.pendingLockout = pending ∧
          t.seq.openingCause = if c.seq.conn = .softOpening then c.seq.openingCause else some (.cls due))) ∧
      (c.seq.conn = .closed ∧ a = .openSoft → t = { c with
        interlock := t.interlock, seq.conn := .softOpening, seq.tSo := some c.sched.packTime,
        seq.openingCause := some (.cls due),
        seq.softEnd := some (c.sched.packTime + BitVec.ofNat 32 (c.store.tables.params.softOpenMs * 1000)) }) ∧
      (c.seq.conn = .opening → t = { c with interlock := t.interlock, seq.pendingLockout := pending }))) ∧
  ∀ (c : Part) (q : List Instr), c.power.state ≠ .patrol →
    (∀ bs, c.south.link ≠ .off → sortSouth (.frame bs) = .spoof →
      ∃ t : Part, exec (.chainSpoof bs) ⟨c, q⟩ = .next ⟨t, q⟩ ∧
        t.south = { c.goodFrame.south with spoofs := min (c.south.spoofs + 1) 65535 } ∧
        t.interlock.events = c.interlock.events ||| FaultClass.chainSpoof.bit ∧ t.interlock.tripped = c.interlock.tripped ∧
        t.router = c.router ∧ t.power = c.power ∧ t.store.tables = c.store.tables ∧ t.mgmt = c.mgmt ∧
        t.sched.run = c.sched.run ∧ t.sched.sweeps = c.sched.sweeps) ∧
    (∀ e, c.interlock.supervision = some e → atOrAfter c.sched.packTime e = true →
      ∃ t : Part, exec .supervisionExpiry ⟨c, q⟩ = .next ⟨t, q⟩ ∧
        t.interlock.silence = true ∧ t.interlock.supervision = none ∧ packObject .hostSilent ∈ t.interlock.tripped ∧
        t.interlock.events = c.interlock.events ∧
        t.south = c.south ∧ t.router = c.router ∧ t.power = c.power ∧ t.store.tables = c.store.tables ∧ t.mgmt = c.mgmt ∧
        t.sched.run = c.sched.run ∧ t.sched.sweeps = c.sched.sweeps)

/-! ### The south link: transmissions and bring-up -/

/-- The south transmit arbiter on a free link that is not OFF (R1, R7, R18, R36, R45, R47, R49): in UP the first waiting
SYNC or TRIGGER, and a run that waited for the last of them begins then (log entry 21); else a due WAKE or, after three,
the ENUM, or a due SLEEP broadcast, whichever fell due first; else in UP the head of the south queue, whose end the
router is owed if it is tracked. The sequence byte of a WAKE, ENUM or SLEEP is a free value (log entry 12). -/
def Obligations.SouthTransmitterTakesByTier : Prop :=
  ∀ (c : Part) (q : List Instr), c.south.link ≠ .off → linkFree c.sched.packTime c.south.wire = true →
    let started (f : Frame) (tag : WireTag) : Option OnWire :=
      some { frame := f, start := c.sched.packTime, tag := tag, endTaken := false }
    let own (k : Kind) (n : Byte) (payload : List Byte) : Frame :=
      { dest := 31, source := 0, kind := k, seq := n, status := 0, payload := payload }
    let sampling (f : SamplingFrame) : Frame := match f with
      | .sync t => own .sync 0 (be 4 t.toNat)
      | .trigger n s target => own .trigger (BitVec.ofNat 8 n.toNat) (be 2 n.toNat ++ be 4 s.toNat ++ be 2 target.toNat)
    let tierOneEmpty := c.south.link ≠ .up ∨ c.south.sampling = []
    (∀ f rest, c.south.link = .up → c.south.sampling = f :: rest →
      ((∀ r, c.sched.run = some r → r.begun = true) ∨ rest ≠ [] →
        exec .southTransmitStart ⟨c, q⟩ =
          .next ⟨{ c with south.wire := started (sampling f) .plain, south.sampling := rest }, q⟩) ∧
      (∀ r, c.sched.run = some r → r.begun = false → rest = [] →
        exec .southTransmitStart ⟨c, q⟩ = .next ⟨{ c with
          south.wire := started (sampling f) .plain,
          south.sampling := if c.sched.hold then [] else [.sync c.sched.packTime],
          sched.holdInEffect := if c.sched.hold then true else c.sched.holdInEffect,
          sched.run := some { r with begun := true, cycle := 0, cycleStart := c.sched.packTime, launched := [] } }, q⟩)) ∧
    (∀ b, tierOneEmpty → c.south.bringDue = some b → (∀ s, c.south.sleepDue = some s → isAfter b s = false) →
      ∃ n : Byte,
        (c.south.wakesSent < 3 → exec .southTransmitStart ⟨c, q⟩ = .next ⟨{ c with
          south.wire := started (own .wake n (List.replicate 64 0x55)) .plain, south.wakesSent := c.south.wakesSent + 1,
          south.bringDue := none, south.bringAt := some (c.sched.packTime + 1000#32), freeIndex := c.freeIndex + 1 }, q⟩) ∧
        (3 ≤ c.south.wakesSent → exec .southTransmitStart ⟨c, q⟩ = .next ⟨{ c with
          south.wire := started (own .enum n []) .enum, south.enumSent := true,
          south.bringDue := none, south.bringAt := none, freeIndex := c.freeIndex + 1 }, q⟩)) ∧
    (∀ s, tierOneEmpty → c.south.sleepDue = some s → (∀ b, c.south.bringDue = some b → isAfter b s = true) →
      ∃ n : Byte, exec .southTransmitStart ⟨c, q⟩ = .next ⟨{ c with
        south.wire := started (own .sleep n []) .sleep, south.sleepDue := none, power.sleepSent := true,
        freeIndex := c.freeIndex + 1 }, q⟩) ∧
    (tierOneEmpty → c.south.bringDue = none → c.south.sleepDue = none →
      (∀ e rest, c.south.link = .up → c.router.southQueue = e :: rest →
        exec .southTransmitStart ⟨c, q⟩ = .next ⟨{ c with
          south.wire := started e.frame (if e.tracked then .tracked e.frame.seq else .plain),
          router.southQueue := rest }, q⟩) ∧
      (c.south.link ≠ .up ∨ c.router.southQueue = [] → exec .southTransmitStart ⟨c, q⟩ = .next ⟨c, q⟩))

/-- Bring-up (R7, R8, R14): the next WAKE or the ENUM falls due in WAKING at its time; the end of this bring-up's ENUM
opens the enumeration window for 5,000 µs and clears the stored replies (the end of an earlier bring-up's, or one
outside WAKING, is over and opens none: log entry 32); and the retry timer's expiry in DOWN counts a retry and leads to
WAKING with the first WAKE due. Each row given before its time or outside its state does nothing (log entry 2). -/
def Obligations.BringUpGoesOn : Prop :=
  ∀ (c : Part) (q : List Instr),
    (∀ t, c.south.link = .waking → c.south.bringAt = some t → atOrAfter c.sched.packTime t = true →
      exec .bringupFrameDue ⟨c, q⟩ = .next ⟨{ c with south.bringAt := none, south.bringDue := some t }, q⟩) ∧
    (∀ t, c.south.bringAt = some t → atOrAfter c.sched.packTime t = false →
      exec .bringupFrameDue ⟨c, q⟩ = .next ⟨c, q⟩) ∧
    (c.south.link ≠ .waking ∨ c.south.bringAt = none → exec .bringupFrameDue ⟨c, q⟩ = .next ⟨c, q⟩) ∧
    (∀ w, c.south.wire = some w → w.tag = .enum → w.endTaken = false →
      let ends := w.start + BitVec.ofNat 32 (4 * (8 + w.frame.payload.length) + 8)
      atOrAfter c.sched.packTime ends = true → c.south.link = .waking → c.south.enumSent = true →
      exec .enumFrameEnd ⟨c, q⟩ = .next ⟨{ c with
        south.wire := some { w with endTaken := true }, south.link := .enumerating,
        south.replies := Vector.replicate 16 none, south.window := some (ends + 5000#32) }, q⟩) ∧
    (∀ w, c.south.wire = some w → w.tag = .enum → w.endTaken = false →
      let ends := w.start + BitVec.ofNat 32 (4 * (8 + w.frame.payload.length) + 8)
      (atOrAfter c.sched.packTime ends = true → c.south.link ≠ .waking ∨ c.south.enumSent = false →
        exec .enumFrameEnd ⟨c, q⟩ = .next ⟨{ c with south.wire := some { w with endTaken := true } }, q⟩) ∧
      (atOrAfter c.sched.packTime ends = false → exec .enumFrameEnd ⟨c, q⟩ = .next ⟨c, q⟩)) ∧
    ((∀ w, c.south.wire = some w → w.tag ≠ .enum ∨ w.endTaken = true) →
      exec .enumFrameEnd ⟨c, q⟩ = .next ⟨c, q⟩) ∧
    (∀ t, c.south.link = .down → c.south.retry = some t → atOrAfter c.sched.packTime t = true → c.south.sampling = [] →
      (∀ r, c.sched.run = some r → r.begun = true) →
      exec .retryTimerExpiry ⟨c, q⟩ = .next ⟨{ c with
        south.link := .waking, south.retry := none, south.retries := min (c.south.retries + 1) 65535,
        south.window := none, south.wakesSent := 0, south.enumSent := false, south.bringAt := none,
        south.bringDue := some c.sched.packTime }, q⟩) ∧
    (c.south.link ≠ .down ∨ c.south.retry = none ∨
        (∃ t, c.south.retry = some t ∧ atOrAfter c.sched.packTime t = false) →
      exec .retryTimerExpiry ⟨c, q⟩ = .next ⟨c, q⟩)

/-- The enumeration window closes (R8, R9, R11 to R13, R45, R54, R58, R59, R143, R152 to R154). With no reply stored the
link is DOWN, and a patrol, not yet returning, escalates: with LINK_FAILED, or, where the LINK_DOWN class wakes and the
trip activates it first, with that class and CLASS_ACTIVATED (log entry 17). With a reply the link is UP, the counts are
0, the link-lost condition is clear, and the identity check gives each position its verdict: the foreign flag set for
FOREIGN and EXTRA, cleared for MATCH and NONE, unchanged for LOST, whose missed-reply count goes to the limit. In ACTIVE
a normal run begins if the schedule is RUNNING; in SLEEP_ENTRY no run begins; in PATROL the patrol run begins with its
SYNC, and goes on unless a class that the check activates wakes. -/
def Obligations.WindowCloseChecksIdentities : Prop :=
  ∀ (c : Part) (q : List Instr) (ends : Time), c.south.window = some ends → atOrAfter c.sched.packTime ends = true →
    let told (t : Part) (causes : BitVec 8) (cls : Nat) : Prop :=
      t.reported ([4, BitVec.ofNat 8 PowerState.patrol.code, causes] ++ be 4 c.sched.packTime.toNat ++
        be 2 c.power.patrols ++ [BitVec.ofNat 8 cls])
    let failed (t : Part) : Prop :=
      t.south.link = .down ∧ t.south.window = none ∧ t.south.linkLost = true ∧
      t.south.retry = some (c.sched.packTime + 100000#32) ∧ t.south.foreign = c.south.foreign ∧
      t.sched.missed = c.sched.missed ∧ t.router.tracker = [] ∧ t.sched.sweeps = []
    let entered (t : Part) : Prop :=
      t.south.link = .up ∧ t.south.window = none ∧ t.south.linkLost = false ∧
      t.south.errorCount = 0 ∧ t.south.goodRun = 0 ∧ t.south.silentRun = 0 ∧
      t.south.replies = c.south.replies ∧ t.router = c.router ∧
      (∀ p ∈ allPositions,
        hasPos t.south.foreign p =
          (match c.store.tables.map.find? (fun e => e.position == p), atPos c.south.replies none p with
          | some e, some r => !(decide (r.identity = e.identity) && decide (r.kind = e.kind) &&
              decide (r.cells = e.cells) && decide (r.temps = e.temps))
          | some _, none => hasPos c.south.foreign p
          | none, some _ => true
          | none, none => false) ∧
        atPos t.sched.missed 0 p =
          (match c.store.tables.map.find? (fun e => e.position == p), atPos c.south.replies none p with
          | some _, none => c.store.tables.header.missedLimit
          | _, _ => atPos c.sched.missed 0 p))
    let begun (r : Run) (kind : RunKind) : Prop :=
      r.kind = kind ∧ r.begun = true ∧ r.cycle = 0 ∧ r.launched = [] ∧ r.cycleStart = c.sched.packTime
    ((∀ p, atPos c.south.replies none p = none) →
      (c.power.state = .active ∨ c.power.state = .sleepEntry →
        ∃ t : Part, exec .enumWindowClose ⟨c, q⟩ = .next ⟨t, q⟩ ∧ failed t ∧ t.power = c.power) ∧
      (c.power.state = .patrol → c.power.step = .running →
        ∃ t : Part, exec .enumWindowClose ⟨c, q⟩ = .next ⟨t, q⟩ ∧ failed t ∧
          t.power.state = .active ∧ t.power.step = .none ∧ t.power.causes = 0 ∧ t.power.hostWake = true ∧
          (c.sched.state = .running → ∃ r, t.sched.run = some r ∧ r.kind = .normal) ∧
          (c.south.linkLost = true ∨ c.store.tables.wakes .linkDown = false → told t (c.power.causes ||| 64#8) 0) ∧
          (c.south.linkLost = false → c.store.tables.wakes .linkDown = true → c.classActive .linkDown = false →
            told t (c.power.causes ||| 32#8) FaultClass.linkDown.number))) ∧
    ((∃ p, (atPos c.south.replies none p).isSome = true) →
      (c.power.state = .active →
        ∃ t : Part, exec .enumWindowClose ⟨c, q⟩ = .next ⟨t, q⟩ ∧ entered t ∧ t.sched.sweeps = c.sched.sweeps ∧
          t.power = c.power ∧
          (c.sched.state = .stopped → t.sched.run = c.sched.run) ∧
          (c.sched.state = .running → c.south.sampling = [] → ∃ r, t.sched.run = some r ∧ begun r .normal)) ∧
      (c.power.state = .sleepEntry →
        ∃ t : Part, exec .enumWindowClose ⟨c, q⟩ = .next ⟨t, q⟩ ∧ entered t ∧ t.sched.sweeps = c.sched.sweeps ∧
          t.power = c.power ∧ t.sched.run = c.sched.run) ∧
      (c.power.state = .patrol → c.power.step = .running →
        ∃ t : Part, exec .enumWindowClose ⟨c, q⟩ = .next ⟨t, q⟩ ∧ entered t ∧
          (t.power = c.power ∨ (t.power.state = .active ∧ t.power.hostWake = true)) ∧
          (c.store.tables.wakes .moduleForeign = false → c.store.tables.wakes .moduleLost = false →
            t.power = c.power ∧ t.sched.sweeps = c.sched.sweeps ∧
            (c.south.sampling = [] → t.south.sampling = [.sync c.sched.packTime] ∧
              ∃ r, t.sched.run = some r ∧ begun r .patrol ∧ r.launchEnded = false ∧
                r.cycles = (c.store.tables.params.power.map (fun p => p.cycles)).getD 0))))

/-! ### The schedule -/

/-- A cycle start of a run that has begun (R45, R47, R50, R58, R155): the cycle count advances by one and C_k by the
cycle length; at a supercycle start a SYNC for C_k waits for a link that is UP, or the commit hold takes effect; and at
C_n of a patrol run with no patrol sweep open, the patrol's return begins. Before C_k CYCLE_START changes nothing (log
entry 2). -/
def Obligations.CycleStartAdvancesTheRun : Prop :=
  ∀ (c : Part) (q : List Instr) (r : Run), c.sched.run = some r → r.begun = true → r.launchEnded = false →
    let start := r.cycleStart + BitVec.ofNat 32 c.store.tables.header.cycleLength
    let r' : Run := { r with cycle := r.cycle + 1, cycleStart := start, launched := [] }
    let goesOn := r.kind = .normal ∨ r.cycle + 1 < r.cycles
    (atOrAfter c.sched.packTime start = false → exec .cycleStart ⟨c, q⟩ = .next ⟨c, q⟩) ∧
    (atOrAfter c.sched.packTime start = true → goesOn →
      ((r.cycle + 1) % 8 ≠ 0 → exec .cycleStart ⟨c, q⟩ = .next ⟨{ c with sched.run := some r' }, q⟩) ∧
      ((r.cycle + 1) % 8 = 0 → c.sched.hold = true →
        exec .cycleStart ⟨c, q⟩ = .next ⟨{ c with sched.run := some r', sched.holdInEffect := true }, q⟩) ∧
      ((r.cycle + 1) % 8 = 0 → c.sched.hold = false →
        exec .cycleStart ⟨c, q⟩ = .next ⟨{ c with
          sched.run := some r',
          south.sampling := if c.south.link = .up then c.south.sampling ++ [.sync start] else c.south.sampling }, q⟩)) ∧
    (atOrAfter c.sched.packTime start = true → r.kind = .patrol → r.cycles ≤ r.cycle + 1 →
      c.power.state = .patrol → c.power.step = .running →
      ((∀ w ∈ c.sched.sweeps, w.runKind = .normal) →
        exec .cycleStart ⟨c, q⟩ = .next ⟨{ c with
          sched.run := some { r' with launchEnded := true }, power.step := .returning,
          south.sleepDue := some c.sched.packTime }, q⟩) ∧
      ((∃ w ∈ c.sched.sweeps, w.runKind = .patrol) →
        exec .cycleStart ⟨c, q⟩ = .next ⟨{ c with sched.run := some { r' with launchEnded := true } }, q⟩))

/-- A slot's launch time (R45, R48, R49, R51, R58): missed while the link is not UP or four sweeps are open; else shed,
in a normal run, if it is sheddable and the state THROTTLED; else launched, with the next sweep number, a sweep record
and its TRIGGER. A time that is not due, was taken before in this cycle, or falls under the commit hold, does nothing
(log entry 2). -/
def Obligations.SlotIsMissedShedOrLaunched : Prop :=
  ∀ (c : Part) (q : List Instr) (r : Run) (j : Nat) (s : Slot), c.sched.run = some r → c.store.tables.slots[j]? = some s →
    let launch := r.cycleStart + BitVec.ofNat 32 s.offset
    let sample := launch + BitVec.ofNat 32 c.store.tables.header.lead
    let due := r.begun = true ∧ c.sched.holdInEffect = false ∧ j ∉ r.launched ∧
      atOrAfter c.sched.packTime launch = true ∧
      ((r.kind = .normal ∧ s.mask.getLsbD (r.cycle % 8) = true) ∨
        (r.kind = .patrol ∧ s.patrol = true ∧ r.launchEnded = false))
    let taken : Part := { c with sched.run := some { r with launched := r.launched ++ [j] } }
    (¬ due → exec (.slotLaunchTime j) ⟨c, q⟩ = .next ⟨c, q⟩) ∧
    (due → c.south.link ≠ .up ∨ 4 ≤ c.sched.sweeps.length →
      exec (.slotLaunchTime j) ⟨c, q⟩ = .next ⟨{ taken with
        sched.slotMiss := c.sched.slotMiss.setIfInBounds j (min (c.sched.slotMiss.getD j 0 + 1) 255),
        sched.missedSlots := min (c.sched.missedSlots + 1) 65535 }, q⟩) ∧
    (due → c.south.link = .up → c.sched.sweeps.length < 4 →
      r.kind = .normal ∧ s.sheddable = true ∧ c.sched.throttled = true →
      exec (.slotLaunchTime j) ⟨c, q⟩ =
        .next ⟨{ taken with sched.shedSlots := min (c.sched.shedSlots + 1) 65535 }, q⟩) ∧
    (due → c.south.link = .up → c.sched.sweeps.length < 4 →
      ¬ (r.kind = .normal ∧ s.sheddable = true ∧ c.sched.throttled = true) →
      exec (.slotLaunchTime j) ⟨c, q⟩ = .next ⟨{ taken with
        sched.nextSweep := c.sched.nextSweep + 1,
        sched.sweeps := c.sched.sweeps ++
          [{ number := c.sched.nextSweep, slotIndex := j, slot := s, runKind := r.kind, sampleTime := sample,
             closeTime := sample + BitVec.ofNat 32 s.window, target := s.target, replied := 0, skewed := 0,
             buffers := [] }],
        south.sampling := c.south.sampling ++ [.trigger c.sched.nextSweep sample s.target] }, q⟩)

/-- A sweep closes at its close time, or with the SAMPLE of the last position of its target set (R12, R53, R54), outside
PATROL: each position that replied has a missed-reply count of 0, each other position of the target set one more, up to
15; the silent-sweep run is 0 after a reply; a first silent sweep sets it to 1 and a second takes the link DOWN, with no
sweep left open; else the sweep alone leaves the tracker. A second silent sweep does so whatever the link state (log
entry 31). Before its time SWEEP_CLOSE_TIME does nothing (log entry 2). The close is the evaluation, the missed-reply
counts, the silent-sweep count and the sweep's reports, in this order, and then the reports of what the sequencer
answered (R134; log entry 14). A sweep of a patrol run makes no reports; a normal one makes its SUMMARY by its summary
mode, an exception being a missing reply, a skewed sample, a trip, a clear or a skipped sum check, and then, if its slot
asks for it, one DETAIL for each replied position, in ascending order (R131 to R133). -/
def Obligations.SweepClosesInOrder : Prop :=
  (∀ (c : Part) (q : List Instr) (n : BitVec 16) (w : Sweep), c.power.state ≠ .patrol → c.sched.sweep n = some w →
    atOrAfter c.sched.packTime w.closeTime = true →
    let e := Part.evaluate w { c with
      sched.sweeps := c.sched.sweeps.filter (fun x => decide (x.number ≠ w.number)), reports.held := some [] }
    exec (.sweepCloseTime n) ⟨c, q⟩ =
      .next ⟨(((e.1.account w).silentReport w).sweepReports w e.2).releaseAnswers, q⟩) ∧
  (∀ (c : Part) (w : Sweep) (r : SweepResults),
    let exception := w.replied ≠ w.target ∨ w.skewed ≠ 0 ∨ 0 < r.trips ∨ 0 < r.clears ∨ r.sumSkipped = true
    let made := w.slot.summary = .all ∨ (w.slot.summary = .exceptions ∧ exception)
    let offer (p : Part) (payloads : List (List Byte)) : Part :=
      payloads.foldl (fun p payload => p.offerReport .sweep payload) p
    let summary := [summaryPayload w c.south.foreign r]
    let details := r.values.filterMap (fun v =>
      match c.store.tables.byPosition v.position, w.buffers.find? (fun b => b.position == v.position) with
      | some e, some b => some (detailPayload w e b.taken v)
      | _, _ => none)
    (w.runKind = .patrol → c.sweepReports w r = c) ∧
    (w.runKind = .normal → made → w.slot.detail = false → c.sweepReports w r = offer c summary) ∧
    (w.runKind = .normal → made → w.slot.detail = true → c.sweepReports w r = offer c (summary ++ details)) ∧
    (w.runKind = .normal → ¬ made → w.slot.detail = false → c.sweepReports w r = c) ∧
    (w.runKind = .normal → ¬ made → w.slot.detail = true → c.sweepReports w r = offer c details)) ∧
  (∀ (c : Part) (w : Sweep),
    (c.evaluate w).2.values.map (fun v => v.position) = allPositions.filter (fun p => hasPos w.replied p &&
      (c.store.tables.byPosition p).isSome && w.buffers.any (fun b => b.position == p))) ∧
  ∀ (c : Part) (q : List Instr), c.power.state ≠ .patrol →
    let closed (g t : Part) (w : Sweep) : Prop :=
      (∀ p ∈ allPositions, atPos t.sched.missed 0 p =
        if hasPos w.target p then (if hasPos w.replied p then 0 else min 15 (atPos c.sched.missed 0 p + 1))
        else atPos c.sched.missed 0 p) ∧
      (w.replied ≠ 0 → t.south = { g.south with silentRun := 0 } ∧
        t.sched.sweeps = c.sched.sweeps.filter (fun x => decide (x.number ≠ w.number))) ∧
      (w.replied = 0 → c.south.silentRun = 0 → t.south = { g.south with silentRun := 1 } ∧
        t.sched.sweeps = c.sched.sweeps.filter (fun x => decide (x.number ≠ w.number))) ∧
      (w.replied = 0 → 1 ≤ c.south.silentRun → t.south.link = .down ∧ t.south.linkLost = true ∧
        t.south.downEvents = min (c.south.downEvents + 1) 65535 ∧ t.sched.sweeps = []) ∧
      t.sched.packTime = c.sched.packTime ∧ t.store.tables = c.store.tables ∧ t.mgmt = c.mgmt ∧ t.power = c.power
    (∀ n w, c.sched.sweep n = some w →
      (atOrAfter c.sched.packTime w.closeTime = false → exec (.sweepCloseTime n) ⟨c, q⟩ = .next ⟨c, q⟩) ∧
      (atOrAfter c.sched.packTime w.closeTime = true →
        ∃ t : Part, exec (.sweepCloseTime n) ⟨c, q⟩ = .next ⟨t, q⟩ ∧ closed c t w)) ∧
    (∀ bs p f d w, c.south.link ≠ .off → sortSouth (.frame bs) = .sample p f → parseSample f.payload = some d →
      c.sched.sweep d.sweep = some w → hasPos w.target p = true → hasPos w.replied p = false →
      addPos w.replied p = w.target →
      ∃ t : Part, exec (.sample bs) ⟨c, q⟩ = .next ⟨t, q⟩ ∧ closed c.goodFrame t { w with replied := w.target })

/-! ### The contactors -/

/-- A feedback takes a level outside DEEP while no step of the connection state machine waits for a check (R104, R105):
a running check that waits for that level passes, and the watch of the settled contactor goes TIMING from ARMED when the
feedback then disagrees with the drive, and ARMED when it agrees. -/
def Obligations.FeedbackChangesMoveCheckAndWatch : Prop :=
  ∀ (c : Part) (q : List Instr) (k : Contactor) (closed : Bool), c.power.state ≠ .deep →
    c.seq.conn ≠ .negClosing → c.seq.conn ≠ .mainClosing → c.seq.conn ≠ .opening →
    let x := c.seq.contactor k
    let timer := x.timer.filter (fun t => t.target != closed)
    let watch : Watch :=
      if timer.isSome then x.watch
      else if x.drive = closed then .armed
      else if x.watch = .armed then .timing (c.sched.packTime + BitVec.ofNat 32 (c.store.tables.params.debounceMs * 1000))
      else x.watch
    exec (.feedbackLineChange k closed) ⟨c, q⟩ = .next ⟨{ c with
      lines.feedback := c.lines.feedback.set k closed,
      seq := c.seq.withContactor k { drive := x.drive, timer := timer, watch := watch } }, q⟩

/-- The steps of a close and of an opening, each taken by the feedback it waits for, outside DEEP (R103, R108, R111,
R116, R117): K− closed starts KP; KP closed starts the precharge; K+ closed opens KP; KP open completes the close; K+
open opens K−; K− open ends the opening, in LOCKED_OUT if lockout is pending, and with an OPENED_UNDER_LOAD in place of
the OPEN_DONE, with that reading's current and link voltage, if an under-load reading was kept. -/
def Obligations.FeedbacksMoveTheSequence : Prop :=
  ∀ (c : Part) (q : List Instr), c.power.state ≠ .deep →
    let wait : Time := c.sched.packTime + BitVec.ofNat 32 (c.store.tables.params.feedbackMs * 1000)
    let waiting (x : ContactorState) (v : Bool) : Prop := x.drive = v ∧ ∃ e, x.timer = some { expiry := e, target := v }
    let settled (v : Bool) : ContactorState := { drive := v, timer := none, watch := .armed }
    let driven (v : Bool) : ContactorState := { drive := v, timer := some { expiry := wait, target := v }, watch := .armed }
    (c.seq.conn = .negClosing → waiting c.seq.kNeg true → c.seq.kPre.drive = false → c.lines.feedback.kPre = false →
      exec (.feedbackLineChange .kNeg true) ⟨c, q⟩ = .next ⟨{ c with
        lines.feedback.kNeg := true, seq.kNeg := settled true, seq.kPre := driven true }, q⟩) ∧
    (c.seq.conn = .negClosing → c.seq.kNeg.timer = none → waiting c.seq.kPre true →
      exec (.feedbackLineChange .kPre true) ⟨c, q⟩ = .next ⟨{ c with
        lines.feedback.kPre := true, seq.kPre := settled true, seq.conn := .precharging,
        seq.tPc := some c.sched.packTime,
        seq.prechargeEnd := some (c.sched.packTime + BitVec.ofNat 32 (c.store.tables.params.prechargeMs * 1000)) }, q⟩) ∧
    (c.seq.conn = .mainClosing → waiting c.seq.kPos true → c.seq.kPre.drive = true → c.lines.feedback.kPre = true →
      exec (.feedbackLineChange .kPos true) ⟨c, q⟩ = .next ⟨{ c with
        lines.feedback.kPos := true, seq.kPos := settled true, seq.kPre := driven false }, q⟩) ∧
    (c.seq.conn = .mainClosing → c.seq.kPos.timer = none → waiting c.seq.kPre false →
      exec (.feedbackLineChange .kPre false) ⟨c, q⟩ = .next ⟨
        Part.logEvent .closeDone none .request .mainClosing .closed { c with
          lines.feedback.kPre := false, seq.kPre := settled false, seq.conn := .closed,
          seq.softEnd := none, seq.prechargeEnd := none, seq.tPc := none }, q⟩) ∧
    (c.seq.conn = .opening → waiting c.seq.kPos false → c.seq.kNeg.drive = true → c.lines.feedback.kNeg = true →
      exec (.feedbackLineChange .kPos false) ⟨c, q⟩ = .next ⟨{ c with
        lines.feedback.kPos := false, seq.kPos := settled false, seq.kNeg := driven false }, q⟩) ∧
    (c.seq.conn = .opening → waiting c.seq.kNeg false → c.seq.kPos.drive = false → c.seq.kPre.drive = false →
      c.lines.feedback.kPos = false → c.seq.pendingLockout = none → c.seq.underLoad = none →
      exec (.feedbackLineChange .kNeg false) ⟨c, q⟩ = .next ⟨
        { Part.logEvent .openDone none (c.seq.openingCause.getD .request) .opening .opened { c with
            lines.feedback.kNeg := false, seq.kNeg := settled false, seq.conn := .opened, seq.tSo := none } with
          seq.openingCause := none }, q⟩) ∧
    (∀ u, c.seq.conn = .opening → waiting c.seq.kNeg false → c.seq.kPos.drive = false → c.seq.kPre.drive = false →
      c.lines.feedback.kPos = false → c.seq.pendingLockout = none → c.seq.underLoad = some u →
      exec (.feedbackLineChange .kNeg false) ⟨c, q⟩ = .next ⟨
        { Part.appendEvent .openedUnderLoad none (c.seq.openingCause.getD .request) .opening .opened (some u.1) (some u.2)
            { c with
              lines.feedback.kNeg := false, seq.kNeg := settled false, seq.conn := .opened, seq.tSo := none } with
          seq.openingCause := none, seq.underLoad := none }, q⟩) ∧
    (∀ k, c.seq.conn = .opening → waiting c.seq.kNeg false → c.lines.feedback.kPos = false →
      c.seq.pendingLockout = some k →
      ∃ t : Part, exec (.feedbackLineChange .kNeg false) ⟨c, q⟩ = .next ⟨t, q⟩ ∧
        t.seq.conn = .lockedOut ∧ t.seq.pendingLockout = none ∧ t.seq.underLoad = none ∧ t.seq.openingCause = none ∧
        t.seq.kPos.drive = false ∧ t.seq.kNeg.drive = false ∧ t.seq.kPre.drive = false ∧
        t.store.copy.lockout = true ∧ t.store.write ≠ .idle ∧ t.interlock.faultOut = true ∧
        (∃ e ∈ t.seq.events, e.kind = .lockoutEnter ∧ e.cause = .cls k ∧ e.time = c.sched.packTime) ∧
        (∃ e ∈ t.seq.events, e.kind = (if c.seq.underLoad = none then .openDone else .openedUnderLoad) ∧
          e.cause = c.seq.openingCause.getD .request ∧ e.after = .lockedOut))

/-- Contactor faults (R104 to R106, R116, R118, R120, R145, R153, R155): an expired check is a FAIL_CLOSE or a WELD, and
an expired mismatch a FEEDBACK_LOST, with cause SLEEP_FEEDBACK in PATROL. Whatever the connection state, K+ and KP are
driven open, the state is OPENING or LOCKED_OUT, LOCKED_OUT at once from OPEN; lockout pending is set, in LOCKED_OUT
too, where an earlier cause stands (log entry 18); the fault has its event record; the event class CONTACTOR_FAULT is
active; and the part is ACTIVE. An expiry that is not reached does nothing (log entry 2). One that the entry to DEEP has
overtaken, the feedback still reading the other level, wakes the part with FEEDBACK, and the fault is made after the
wake (log entry 47). The laws of the contactors are a premise, and stand after it. -/
def Obligations.ContactorFaultsOpenThePack : Prop :=
  ∀ (c : Part) (q : List Instr) (k : Contactor), c.contactorLaws = true →
    let faulted (t : Part) (kind : EventKind) (cause : Cause) : Prop :=
      (t.seq.conn = .opening ∨ t.seq.conn = .lockedOut) ∧
      (c.seq.conn = .opened ∨ c.seq.conn = .lockedOut → t.seq.conn = .lockedOut ∧ t.interlock.faultOut = true) ∧
      (t.seq.conn = .opening → t.seq.pendingLockout ≠ none) ∧
      (c.seq.conn = .lockedOut → t.seq.pendingLockout = some (c.seq.pendingLockout.getD .contactorFault)) ∧
      t.seq.kPos.drive = false ∧ t.seq.kPre.drive = false ∧
      (t.seq.conn = .lockedOut → t.seq.kNeg.drive = false) ∧ t.contactorLaws = true ∧
      (∃ e ∈ t.seq.events, e.kind = kind ∧ e.contactor = some k ∧ e.cause = cause ∧ e.time = c.sched.packTime) ∧
      hasClass t.interlock.events .contactorFault = true ∧ t.power.state = .active ∧ t.lines = c.lines ∧
      t.store.tables = c.store.tables ∧ t.mgmt = c.mgmt ∧ t.sched.packTime = c.sched.packTime
    let woken (t : Part) : Prop :=
      t.power.hostWake = true ∧ t.power.causes = 0 ∧ t.power.patrolTimer = none ∧ t.south.link = .waking ∧
      t.eval.channels = Vector.replicate 16 (Vector.replicate 16 { state := .normal, counter := 0, pending := .none })
    (∀ tm, (c.seq.contactor k).timer = some tm →
      let kind : EventKind := if tm.target then .failClose else .weld
      (atOrAfter c.sched.packTime tm.expiry = true →
        (c.power.state ≠ .deep →
          ∃ t : Part, exec (.feedbackTimerExpiry k) ⟨c, q⟩ = .next ⟨t, q⟩ ∧ faulted t kind (.cls .contactorFault)) ∧
        (c.power.state = .deep → c.lines.feedback.get k ≠ tm.target → (∀ j ∈ q, j.wakes = false) →
          c.power.closedFeedback.any = false →
          ∃ t : Part, exec (.feedbackTimerExpiry k) ⟨c, q⟩ = .next ⟨t, q⟩ ∧ faulted t kind (.cls .contactorFault) ∧
            woken t)) ∧
      (atOrAfter c.sched.packTime tm.expiry = false ∨
          (c.power.state = .deep ∧ c.lines.feedback.get k = tm.target) →
        exec (.feedbackTimerExpiry k) ⟨c, q⟩ = .next ⟨c, q⟩)) ∧
    (∀ e, (c.seq.contactor k).watch = .timing e →
      (atOrAfter c.sched.packTime e = true →
        (c.power.state ≠ .deep →
          ∃ t : Part, exec (.watchExpiry k) ⟨c, q⟩ = .next ⟨t, q⟩ ∧
            faulted t .feedbackLost (if c.power.state = .patrol then .sleepFeedback else .cls .contactorFault)) ∧
        (c.power.state = .deep → c.lines.feedback.get k ≠ (c.seq.contactor k).drive → (∀ j ∈ q, j.wakes = false) →
          c.power.closedFeedback.any = false →
          ∃ t : Part, exec (.watchExpiry k) ⟨c, q⟩ = .next ⟨t, q⟩ ∧ faulted t .feedbackLost (.cls .contactorFault) ∧
            woken t)) ∧
      (atOrAfter c.sched.packTime e = false ∨
          (c.power.state = .deep ∧ c.lines.feedback.get k = (c.seq.contactor k).drive) →
        exec (.watchExpiry k) ⟨c, q⟩ = .next ⟨c, q⟩))

/-- The two limits of the sequencer (R110, R115, R116): the precharge limit in PRECHARGING opens every drive with a
PRECHARGE_ABORT and activates PRECHARGE_FAIL, in OPEN or, if that class calls for it, LOCKED_OUT; the soft-open wait in
SOFT_OPENING keeps the shunt reading as it stands as the under-load reading and enters OPENING, where DRV_POS opens, and
DRV_NEG too once FB_POS reads open. A limit before its time does nothing (log entry 2). The reading test of the closing
of a sweep (R73, R76, R77, R109, R110, R115): a sample of the SHUNT position that is not skewed, with its three channels
OK, is the new shunt reading, after the position's channels and sense object have been fed; a reading that is not after
the reference time, or too old, and a reading in another connection state, tests nothing. In PRECHARGING a current above
the limit fails the precharge, and a link voltage at the ratio of a pack voltage at its minimum leads to MAIN_CLOSING,
where DRV_POS closes; in SOFT_OPENING a current at or below the break current leads to OPENING. -/
def Obligations.PrechargeAndSoftOpenLimitsOpen : Prop :=
  (∀ (c : Part) (w : Sweep) (e : MapEntry) (v : PositionValues) (n : Tally), e.kind = .shunt →
    let fed := v.channels.foldl (fun ct x => Part.feedChannel w.runKind w.sampleTime e.kind e.position x ct) (c, n)
    let sensed := Part.feedSense w.runKind w.sampleTime e.position v.faulty fed
    Part.evalPosition w (e, v) (c, n) = (sensed.1.writeShunt w v, sensed.2)) ∧
  (∀ (c : Part) (w : Sweep) (v : PositionValues),
    (hasPos w.skewed v.position = true ∨ v.valueAt 1 = none ∨ v.valueAt 2 = none ∨ v.valueAt 3 = none →
      c.writeShunt w v = c) ∧
    (∀ i u l : Int, hasPos w.skewed v.position = false → v.valueAt 1 = some i → v.valueAt 2 = some u →
      v.valueAt 3 = some l →
      let reading : ShuntReading :=
        { current := i, packVoltage := u, linkVoltage := l, sampleTime := w.sampleTime, sweep := w.number }
      let read : Part := { c with eval.shunt := some reading }
      let t := c.writeShunt w v
      let params := c.store.tables.params
      let wait : Time := c.sched.packTime + BitVec.ofNat 32 (params.feedbackMs * 1000)
      let used (reference : Option Time) : Prop := (∃ b, reference = some b ∧ isAfter w.sampleTime b = true) ∧
        (c.sched.packTime - w.sampleTime).toNat ≤ c.store.tables.header.maxAge * 1000
      let charged := params.minPackVoltage ≤ u ∧ params.prechargeRatio * u ≤ l * 1000
      t.eval.shunt = some reading ∧
      (c.seq.conn ≠ .precharging → c.seq.conn ≠ .softOpening → t = read) ∧
      (c.seq.conn = .precharging →
        (¬ used c.seq.tPc → t = read) ∧
        (used c.seq.tPc → params.prechargeCurrent < i.natAbs →
          (t.seq.conn = .opened ∨ t.seq.conn = .lockedOut) ∧
          t.seq.kPos.drive = false ∧ t.seq.kNeg.drive = false ∧ t.seq.kPre.drive = false ∧ t.seq.prechargeEnd = none ∧
          (∃ r ∈ t.seq.events, r.kind = .prechargeAbort ∧ r.cause = .cls .prechargeFail ∧ r.before = .precharging ∧
            r.after = .opened ∧ r.time = c.sched.packTime ∧ r.current = some i ∧ r.linkVoltage = some l) ∧
          hasClass t.interlock.events .prechargeFail = true) ∧
        (used c.seq.tPc → i.natAbs ≤ params.prechargeCurrent → ¬ charged → t = read) ∧
        (used c.seq.tPc → i.natAbs ≤ params.prechargeCurrent → charged → c.seq.kPos.drive = false →
          (c.lines.feedback.kPos = false → t = { read with
            seq.conn := .mainClosing, seq.prechargeEnd := none,
            seq.kPos := { drive := true, timer := some { expiry := wait, target := true }, watch := .armed } }) ∧
          (c.lines.feedback.kPos = true → c.seq.kPre.drive = true →
            t.seq.conn = (if c.lines.feedback.kPre then .mainClosing else .closed) ∧
            t.seq.kPos.drive = true ∧ t.seq.kPre.drive = false ∧ t.seq.kNeg = c.seq.kNeg))) ∧
      (c.seq.conn = .softOpening →
        (¬ used c.seq.tSo ∨ params.breakCurrent < i.natAbs → t = read) ∧
        (used c.seq.tSo → i.natAbs ≤ params.breakCurrent → c.seq.kPos.drive = true → c.seq.kPre.drive = false →
          (c.lines.feedback.kPos = true → c.seq.kNeg.drive = true → t = { read with
            seq.conn := .opening, seq.softEnd := none, seq.prechargeEnd := none, seq.tPc := none,
            seq.kPos := { drive := false, timer := some { expiry := wait, target := false }, watch := .armed } }) ∧
          (c.lines.feedback.kPos = false →
            t.seq.kPos.drive = false ∧ t.seq.kNeg.drive = false ∧ t.seq.kPre.drive = false ∧
            (c.lines.feedback.kNeg = true → t.seq.conn = .opening) ∧
            (c.lines.feedback.kNeg = false →
              t.seq.conn = if c.seq.pendingLockout.isSome then .lockedOut else .opened)))))) ∧
  ∀ (c : Part) (q : List Instr),
    let wait : Time := c.sched.packTime + BitVec.ofNat 32 (c.store.tables.params.feedbackMs * 1000)
    (∀ e, c.seq.conn = .precharging → c.seq.prechargeEnd = some e →
      (atOrAfter c.sched.packTime e = true →
        ∃ t : Part, exec .prechargeLimitExpiry ⟨c, q⟩ = .next ⟨t, q⟩ ∧
          (t.seq.conn = .opened ∨ t.seq.conn = .lockedOut) ∧
          t.seq.kPos.drive = false ∧ t.seq.kNeg.drive = false ∧ t.seq.kPre.drive = false ∧ t.seq.prechargeEnd = none ∧
          (∃ r ∈ t.seq.events, r.kind = .prechargeAbort ∧ r.cause = .cls .prechargeFail ∧ r.before = .precharging ∧
            r.after = .opened ∧ r.time = c.sched.packTime) ∧
          hasClass t.interlock.events .prechargeFail = true ∧ t.store.tables = c.store.tables ∧ t.mgmt = c.mgmt) ∧
      (atOrAfter c.sched.packTime e = false → exec .prechargeLimitExpiry ⟨c, q⟩ = .next ⟨c, q⟩)) ∧
    (∀ e, c.seq.conn = .softOpening → c.seq.softEnd = some e → c.seq.kPos.drive = true → c.seq.kPre.drive = false →
      (atOrAfter c.sched.packTime e = true → c.lines.feedback.kPos = true → c.seq.kNeg.drive = true →
        exec .softOpenWaitExpiry ⟨c, q⟩ = .next ⟨{ c with
          seq.conn := .opening, seq.softEnd := none, seq.prechargeEnd := none, seq.tPc := none,
          seq.underLoad := c.eval.shunt.map (fun r => (r.current, r.linkVoltage)),
          seq.kPos := { drive := false, timer := some { expiry := wait, target := false }, watch := .armed } }, q⟩) ∧
      (atOrAfter c.sched.packTime e = true → c.lines.feedback.kPos = false →
        ∃ t : Part, exec .softOpenWaitExpiry ⟨c, q⟩ = .next ⟨t, q⟩ ∧
          t.seq.kPos.drive = false ∧ t.seq.kNeg.drive = false ∧ t.seq.kPre.drive = false ∧
          (c.lines.feedback.kNeg = true → t.seq.conn = .opening) ∧
          (c.lines.feedback.kNeg = false →
            t.seq.conn = if c.seq.pendingLockout.isSome then .lockedOut else .opened)) ∧
      (atOrAfter c.sched.packTime e = false → exec .softOpenWaitExpiry ⟨c, q⟩ = .next ⟨c, q⟩))

/-! ### The tamper and service lines -/

/-- TAMPER_IN and SERVICE_IN (R89, R145, R146, R153, R176, R177): TAMPER_IN that becomes asserted with SERVICE_IN
deasserted, and SERVICE_IN that becomes deasserted with TAMPER_IN asserted, set the tamper latch, which asks for a
record write, counts the TAMPER object and leaves the part ACTIVE (during a programming the latch waits for its end: log
entry 48); the deassertion of SERVICE_IN ends an update in READY or CHECKING, withdraws a pending commit, and waits for
an erase or a programming; every other level changes its line alone (log entry 7), but for what arrives together with a
wake from DEEP (log entry 42). The record write begins when none is in progress, waits behind one in progress, and
merges with one that waits (R161); in DEEP it begins at the wake, with the lockout flag that the trip has set, if it
sets one. The withdrawal of a commit whose hold is in effect begins a new normal run if the schedule is RUNNING (R50). A
latch that is set before the boot has read the record reads it first (log entry 10). -/
def Obligations.TamperAndServiceLinesAct : Prop :=
  ∀ (c : Part) (q : List Instr),
    let asked (t : Part) : Prop :=
      (c.seq.conn = .lockedOut ∨ t.seq.conn ≠ .lockedOut → t.store.copy.lockout = c.store.copy.lockout ∧
        (c.store.write = .idle → t.store.write = .inProgress { c.store.copy with tamper := true } (c.sched.packTime + 6000#32)) ∧
        (∀ f d, c.store.write = .inProgress f d → t.store.write = .inProgressWaiting f d) ∧
        (∀ f d, c.store.write = .inProgressWaiting f d → t.store.write = .inProgressWaiting f d))
    let same (t : Part) (asserted service : Bool) : Prop :=
      t.lines.tamperIn = asserted ∧ t.lines.serviceIn = service ∧
      (c.power.state ≠ .deep ∨ (∀ j ∈ q, j.wakes = false) →
        t.lines.wakeIn = c.lines.wakeIn ∧ t.lines.feedback = c.lines.feedback)
    let free := c.mgmt.programming = none
    (free → c.lines.serviceIn = false → c.lines.tamperIn = false → c.store.recordRead = false →
      ∃ t : Part, exec (.tamperInAssert .asserted) ⟨c, q⟩ = .next ⟨t, q⟩ ∧ same t true false ∧
        t.store.recordRead = true ∧ t.store.copy.tamper = true ∧
        t.store.copy.active = (c.store.record.getD {}).active ∧ t.store.copy.floor = (c.store.record.getD {}).floor ∧
        packObject .tamper ∈ t.interlock.tripped ∧ t.store.state = c.store.state ∧ t.store.tables = c.store.tables ∧
        t.mgmt = c.mgmt ∧ ((c.store.record.getD {}).lockout = true → t.seq.conn = .lockedOut) ∧
        ((c.store.record.getD {}).tamper = false → t.power.state = .active ∧ t.store.write ≠ .idle)) ∧
    (free → c.lines.tamperIn = false → c.lines.serviceIn = false → c.store.recordRead = true →
      (c.store.copy.tamper = false →
        ∃ t : Part, exec (.tamperInAssert .asserted) ⟨c, q⟩ = .next ⟨t, q⟩ ∧ same t true false ∧
          t.store.copy.tamper = true ∧ t.store.copy.active = c.store.copy.active ∧
          t.store.copy.floor = c.store.copy.floor ∧ t.store.write ≠ .idle ∧ asked t ∧
          packObject .tamper ∈ t.interlock.tripped ∧ t.power.state = .active ∧ t.mgmt = c.mgmt ∧
          t.store.tables = c.store.tables ∧
          (c.power.state = .deep → c.store.write = .idle → c.seq.conn = .opened → c.power.closedFeedback.any = false →
            (∀ j ∈ q, j.wakes = false) → c.store.tables.actionOf .tamper = some .lockout →
            packObject .tamper ∉ c.interlock.tripped → c.interlock.effective ≠ .lockout →
            t.seq.conn = .lockedOut ∧ t.store.write =
              .inProgress { c.store.copy with tamper := true, lockout := true } (c.sched.packTime + 6000#32))) ∧
      (c.store.copy.tamper = true →
        exec (.tamperInAssert .asserted) ⟨c, q⟩ = .next ⟨{ c with lines.tamperIn := true }, q⟩)) ∧
    (¬ free → c.lines.tamperIn = false → c.lines.serviceIn = false →
      exec (.tamperInAssert .asserted) ⟨c, q⟩ =
        .next ⟨{ c with lines.tamperIn := true, store.tamperPending := true }, q⟩) ∧
    (c.lines.tamperIn = true ∨ c.lines.serviceIn = true →
      exec (.tamperInAssert .asserted) ⟨c, q⟩ = .next ⟨{ c with lines.tamperIn := true }, q⟩) ∧
    exec (.tamperInAssert .deasserted) ⟨c, q⟩ = .next ⟨{ c with lines.tamperIn := false }, q⟩ ∧
    exec (.serviceInDeassert .asserted) ⟨c, q⟩ = .next ⟨{ c with lines.serviceIn := true }, q⟩ ∧
    (c.lines.serviceIn = false → exec (.serviceInDeassert .deasserted) ⟨c, q⟩ = .next ⟨c, q⟩) ∧
    (¬ free → c.lines.serviceIn = true → c.lines.tamperIn = true → c.store.update = .ready →
      exec (.serviceInDeassert .deasserted) ⟨c, q⟩ = .next ⟨{ c with
        lines.serviceIn := false, store.abortPending := true, store.tamperPending := true }, q⟩) ∧
    (free → c.lines.serviceIn = true → c.lines.tamperIn = true → c.store.recordRead = true →
      ∃ t : Part, exec (.serviceInDeassert .deasserted) ⟨c, q⟩ = .next ⟨t, q⟩ ∧
        same t true false ∧ t.store.copy.tamper = true ∧
        t.store.copy.active = c.store.copy.active ∧ t.store.copy.floor = c.store.copy.floor ∧
        (c.store.copy.tamper = false → packObject .tamper ∈ t.interlock.tripped ∧ t.power.state = .active ∧ asked t) ∧
        (c.store.update ≠ .erasing → c.store.update ≠ .switching → t.store.update = .idle)) ∧
    (c.lines.serviceIn = true → c.lines.tamperIn = false →
      let off : Part := { c with lines.serviceIn := false }
      let aborted (p : Part) (st : UpdateState) : Part :=
        p.offerReport .priority (updatePayload (.aborted st) c.store.target .idle c.store.state c.store.copy.floor)
      (c.store.update = .idle ∨ c.store.update = .switching →
        exec (.serviceInDeassert .deasserted) ⟨c, q⟩ = .next ⟨off, q⟩) ∧
      (c.store.update = .erasing ∨ (c.store.update = .ready ∧ c.mgmt.programming ≠ none) →
        exec (.serviceInDeassert .deasserted) ⟨c, q⟩ = .next ⟨{ off with store.abortPending := true }, q⟩) ∧
      (c.mgmt.programming = none → c.store.update = .ready ∨ c.store.update = .checking →
        exec (.serviceInDeassert .deasserted) ⟨c, q⟩ = .next ⟨aborted { off with
          store.update := .idle, store.abortPending := false } c.store.update, q⟩) ∧
      (c.mgmt.programming = none → c.store.update = .commitPending → c.sched.holdInEffect = false →
        exec (.serviceInDeassert .deasserted) ⟨c, q⟩ = .next ⟨aborted { off with
          store.update := .idle, store.abortPending := false, sched.hold := false } .commitPending, q⟩) ∧
      (c.mgmt.programming = none → c.store.update = .commitPending → c.sched.holdInEffect = true →
        let freed : Part := { off with
          store.update := .idle, store.abortPending := false, sched.hold := false, sched.holdInEffect := false }
        (c.sched.state = .stopped →
          exec (.serviceInDeassert .deasserted) ⟨c, q⟩ = .next ⟨aborted freed .commitPending, q⟩) ∧
        (c.sched.state = .running → c.south.sampling = [] →
          exec (.serviceInDeassert .deasserted) ⟨c, q⟩ = .next ⟨aborted { freed with
            south.sampling := if c.south.link = .up then [.sync c.sched.packTime] else [],
            sched.run := some { kind := .normal, begun := true, cycle := 0, cycleStart := c.sched.packTime, launched := [],
                                cycles := (c.store.tables.params.power.map (fun p => p.cycles)).getD 0,
                                launchEnded := false } } .commitPending, q⟩)))

/-! ### Sleep -/

/-- The way to DEEP and the start of a patrol (R143, R144, R151, R152, R155, R16): with no sweep open the entry reaches
step 4, and the SLEEP broadcast falls due once the south queue is empty or the link is not UP; the end of the broadcast
is step 5, or the return of a patrol to DEEP, which counts it; step 5 with nothing left to send is DEEP; and the patrol
timer's expiry is PATROL. In DEEP no run exists, the south link is OFF with no link-lost condition, the open-feedback
set holds the feedbacks that read open, and the patrol timer runs with the period in use; a frame on the south wire is
cut off with its transmitter (log entry 32), and what is left of the last north frame's gap goes with the fast clock
(log entry 44). A RESTART that has been taken keeps DEEP_ENTRY from acting (log entry 28). A due SLEEP broadcast, its
end, DEEP_ENTRY or patrol timer whose condition does not hold does nothing, and the end of a SLEEP broadcast that was
withdrawn or of an abandoned entry is over and does nothing more (log entries 2 and 32). -/
def Obligations.SleepEntryPatrolAndReturn : Prop :=
  ∀ (c : Part) (q : List Instr),
    let asleep (t : Part) : Prop :=
      t.power.state = .deep ∧ t.power.step = .none ∧ t.south.link = .off ∧ t.south.linkLost = false ∧
      t.south.wire = none ∧ t.sched.run = none ∧ t.sched.packTime = c.sched.packTime ∧
      t.power.openFeedback = { kPos := !c.lines.feedback.kPos, kNeg := !c.lines.feedback.kNeg, kPre := !c.lines.feedback.kPre } ∧
      t.power.closedFeedback = { kPos := false, kNeg := false, kPre := false } ∧
      t.power.patrolTimer = c.store.tables.params.power.map (fun p => p.period * 60000000) ∧
      t.mgmt = c.mgmt ∧ t.store.tables = c.store.tables
    (c.power.state = .sleepEntry → c.power.step = .step3 ∨ c.power.step = .step4 → c.sched.sweeps = [] →
      ((c.router.southQueue = [] ∨ c.south.link ≠ .up) → c.south.sleepDue = none → c.power.sleepSent = false →
        exec .sleepBroadcastDue ⟨c, q⟩ =
          .next ⟨{ c with power.step := .step4, south.sleepDue := some c.sched.packTime }, q⟩) ∧
      ((c.router.southQueue ≠ [] ∧ c.south.link = .up) ∨ c.south.sleepDue ≠ none ∨ c.power.sleepSent = true →
        exec .sleepBroadcastDue ⟨c, q⟩ = .next ⟨{ c with power.step := .step4 }, q⟩)) ∧
    (c.power.state ≠ .sleepEntry ∨ c.sched.sweeps ≠ [] ∨ (c.power.step ≠ .step3 ∧ c.power.step ≠ .step4) →
      exec .sleepBroadcastDue ⟨c, q⟩ = .next ⟨c, q⟩) ∧
    (∀ w, c.south.wire = some w → w.tag = .sleep → w.endTaken = false → c.power.sleepSent = true →
      atOrAfter c.sched.packTime (w.start + BitVec.ofNat 32 (4 * (8 + w.frame.payload.length) + 8)) = true →
      (c.power.state = .sleepEntry → c.power.step = .step4 →
        exec .sleepBroadcastEnd ⟨c, q⟩ =
          .next ⟨{ c with south.wire := some { w with endTaken := true }, power.step := .step5 }, q⟩) ∧
      (c.power.state = .patrol → c.power.step = .returning →
        ∃ t : Part, exec .sleepBroadcastEnd ⟨c, q⟩ = .next ⟨t, q⟩ ∧ asleep t ∧
          t.power.patrols = min (c.power.patrols + 1) 65535)) ∧
    (∀ w, c.south.wire = some w → w.tag = .sleep → w.endTaken = false →
      let ends := w.start + BitVec.ofNat 32 (4 * (8 + w.frame.payload.length) + 8)
      (atOrAfter c.sched.packTime ends = false → exec .sleepBroadcastEnd ⟨c, q⟩ = .next ⟨c, q⟩) ∧
      (atOrAfter c.sched.packTime ends = true → c.power.sleepSent = false ∨
          ¬ ((c.power.state = .sleepEntry ∧ c.power.step = .step4) ∨
            (c.power.state = .patrol ∧ c.power.step = .returning)) →
        exec .sleepBroadcastEnd ⟨c, q⟩ = .next ⟨{ c with south.wire := some { w with endTaken := true } }, q⟩)) ∧
    ((∀ w, c.south.wire = some w → w.tag ≠ .sleep ∨ w.endTaken = true) →
      exec .sleepBroadcastEnd ⟨c, q⟩ = .next ⟨c, q⟩) ∧
    (c.power.state = .sleepEntry → c.power.step = .step5 → c.mgmt.requests = [] → c.mgmt.programming = none →
      c.mgmt.responses = [] → c.mgmt.restart = .notTaken → c.router.forward = [] → c.store.write = .idle →
      (∀ w, c.north.wire = some w →
        atOrAfter c.sched.packTime (w.start + BitVec.ofNat 32 (4 * (8 + w.frame.payload.length) + 8)) = true) →
      ∃ t : Part, exec .deepEntry ⟨c, q⟩ = .next ⟨t, q⟩ ∧ asleep t ∧ t.north.wire = none ∧ t.router.southQueue = [] ∧
        t.power.patrols = c.power.patrols) ∧
    (c.power.state ≠ .sleepEntry ∨ c.power.step ≠ .step5 ∨ c.mgmt.requests ≠ [] ∨ c.mgmt.programming ≠ none ∨
        c.mgmt.responses ≠ [] ∨ c.mgmt.restart ≠ .notTaken ∨ c.router.forward ≠ [] ∨ c.store.write ≠ .idle ∨
        (∃ w, c.north.wire = some w ∧
          atOrAfter c.sched.packTime (w.start + BitVec.ofNat 32 (4 * (8 + w.frame.payload.length) + 8)) = false) →
      exec .deepEntry ⟨c, q⟩ = .next ⟨c, q⟩) ∧
    (c.power.state = .deep → c.power.patrolTimer = some 0 →
      ∃ t : Part, exec .patrolTimerExpiry ⟨c, q⟩ = .next ⟨t, q⟩ ∧
        t.power.state = .patrol ∧ t.power.step = .running ∧ t.power.patrolTimer = none ∧
        t.power.causes = c.power.causes ||| 16 ∧ t.south.link = .waking ∧ t.sched.packTime = c.sched.packTime ∧
        t.sched.missed = Vector.replicate 16 0 ∧
        t.eval.channels = Vector.replicate 16 (Vector.replicate 16 { state := .normal, counter := 0, pending := .none }) ∧
        t.interlock.supervision = c.interlock.supervision ∧ t.mgmt = c.mgmt ∧ t.store.tables = c.store.tables) ∧
    (c.power.state ≠ .deep ∨ (∀ n, c.power.patrolTimer = some n → 0 < n) →
      exec .patrolTimerExpiry ⟨c, q⟩ = .next ⟨c, q⟩)

/-! ### The table store -/

/-- The erase, the check and the programming of the target bank (R164, R168 to R170, R176): a completed erase leaves
every byte of the bank at FF hex and the bank ERASED, a passed check leaves it STAGED with its version, each with its
UPDATE report and READY; a programming puts its bytes at its offset, leaves every other byte of both banks as it was,
makes the bank WRITTEN with no staged version, and makes its response. Where the programming would reach past the bank,
the machine stops. An erase whose time has not come, and an end with nothing begun, do nothing (log entry 2); a check
and a programming end whenever their ends are given (log entry 3). A tamper latch that waited for the programming is set
at its end (R169, R177; log entry 48). An erase that ends after the deassertion of SERVICE_IN makes its ERASED report,
with the state IDLE, before its ABORTED report (log entry 22). The checks of an image end at the first that fails: the
format tag, the total length and the six tables' extents, the CRC-32, the version, and the six tables in directory
order, TABLE naming the table and its first failing entry (R164, R165). An entry count out of range, or a failing field
of the schedule's header or the pass table's default action, has index FF hex; the six tables fail at their first field,
entry, slot, set or class out of its range, and otherwise pass (R42, R43, R64, R65, R69, R93, R102, R141, R165): of the
position map, at the first entry whose fields or trims are out of range, or that shares its number, its position or the
SHUNT kind with another (that the lower of two such entries fails first is the model's choice, and a map of good entries
with no SHUNT among them has no named index: log entry 26; so is the range of the link-voltage offset: log entry 39); of
the schedule, checked once the map has passed, at the first slot whose offset lies less than 320 µs from another or from
either end of the cycle (again of two, the lower), whose target set is empty or names a position that is not mapped, or
that is a SHUNT slot and targets anything but the SHUNT. -/
def Obligations.EraseCheckAndProgrammingEnd : Prop :=
  (∀ (m : Memory) (versionOk : Nat → Bool),
    let offset (id : Nat) := m.field (10 + 3 * id) 2
    let count (id : Nat) := m.field (12 + 3 * id) 1
    let size (id : Nat) := [0, 0, 1, 13, 0, 0].getD id 0 + count id * [26, 45, 9, 12, 18, 2].getD id 0
    let total := m.field 8 2
    let tagged := m.readAll 0 4 = [0x4A#8, 0x43#8, 0x31#8, 0x36#8]
    let holds (id a : Nat) := offset id ≤ a ∧ a < offset id + size id
    let placed := 64 ≤ total ∧ total ≤ 4096 ∧ (∀ id < 6, 28 ≤ offset id ∧ offset id + size id ≤ total - 4) ∧
      ∀ i < 6, ∀ j < 6, i ≠ j → ∀ a, ¬ (holds i a ∧ holds j a)
    let sealed := be 4 (crc32 (m.readAll 0 (total - 4))).toNat = m.readAll (total - 4) 4
    let found :=
      [validateParams m, validateMap m, validatePass m, validateSchedule m, validateLimits m, validateInterlock m]
    let result := checkImage m versionOk
    (¬ tagged → result = .format) ∧
    (tagged → ¬ placed → result = .length) ∧
    (tagged → placed → ¬ sealed → result = .crc) ∧
    (tagged → placed → sealed → versionOk (m.field 4 4) = false → result = .versionLow) ∧
    (tagged → placed → sealed → versionOk (m.field 4 4) = true →
      ((∀ r ∈ found, r = none) → result = .staged) ∧
      (∀ id i, found[id]? = some (some i) → (∀ j < id, found[j]? = some none) → result = .table id i))) ∧
  (∀ m : Memory,
    let offset (id : Nat) := m.field (10 + 3 * id) 2
    let count (id : Nat) := m.field (12 + 3 * id) 1
    let first (r : Option Nat) (n : Nat) (good : Nat → Prop) : Prop :=
      ((∀ i < n, good i) → r = none) ∧ ∀ i < n, ¬ good i → (∀ j < i, good j) → r = some i
    let params : List (Nat × Nat × Nat × Nat) :=
      [(0, 1, 1, 15), (1, 2, 500, 65535), (3, 2, 10, 2550), (5, 1, 5, 200), (6, 1, 1, 50), (7, 2, 800, 990),
       (9, 2, 1, 65535), (11, 2, 50, 10000), (13, 4, 1, 500000), (17, 4, 0, 500000), (21, 2, 10, 5000),
       (23, 2, 1, 1440), (25, 1, 1, 15)]
    let limit (i k : Nat) : Int := signed 4 (m.field (offset 4 + 18 * i + 4 * k) 4)
    let trips (i : Nat) := m.field (offset 4 + 18 * i + 16) 1
    let clears (i : Nat) := m.field (offset 4 + 18 * i + 17) 1
    let ordered (i : Nat) (lo hi : Int) : Prop := lo ≤ limit i 2 ∧ limit i 2 ≤ limit i 3 ∧ limit i 3 < limit i 1 ∧
      limit i 1 ≤ limit i 0 ∧ limit i 0 ≤ hi
    let action (i : Nat) := m.field (offset 5 + 2 * i) 1
    let logical (i : Nat) := m.field (offset 1 + 45 * i) 1
    let position (i : Nat) := m.field (offset 1 + 45 * i + 1) 1
    let kind (i : Nat) := m.field (offset 1 + 45 * i + 2) 1
    let cells (i : Nat) := m.field (offset 1 + 45 * i + 9) 1
    let temps (i : Nat) := m.field (offset 1 + 45 * i + 10) 1
    let gain (i : Nat) : Int := signed 2 (m.field (offset 1 + 45 * i + 11) 2)
    let trim (i n : Nat) : Int := signed 2 (m.field (offset 1 + 45 * i + 13 + 2 * n) 2)
    let entryGood (i : Nat) : Prop :=
      1 ≤ logical i ∧ logical i ≤ 16 ∧ 1 ≤ position i ∧ position i ≤ 16 ∧ kind i ≤ 1 ∧
      (∀ j < count 1, j ≠ i → logical j ≠ logical i ∧ position j ≠ position i) ∧ -2048 ≤ gain i ∧ gain i ≤ 2047 ∧
      (kind i = 0 → cells i ≤ 12 ∧ temps i ≤ 4 ∧ (∀ n < 12, -512 ≤ trim i n ∧ trim i n ≤ 511) ∧
        ∀ n < 16, 12 ≤ n → -128 ≤ trim i n ∧ trim i n ≤ 127) ∧
      (kind i = 1 → cells i = 0 ∧ temps i = 0 ∧ (∀ j < count 1, j ≠ i → kind j ≠ 1) ∧
        -32768 ≤ trim i 0 ∧ trim i 0 ≤ 32767 ∧ ∀ n < 3, 1 ≤ n → -128 ≤ trim i n ∧ trim i n ≤ 127)
    let cycle := m.field (offset 3) 4
    let lead := m.field (offset 3 + 4) 2
    let skew := m.field (offset 3 + 6) 2
    let missed := m.field (offset 3 + 8) 1
    let age := m.field (offset 3 + 9) 2
    let high := m.field (offset 3 + 11) 1
    let headerGood : Prop :=
      count 3 ≤ 24 ∧ 2000 ≤ cycle ∧ cycle ≤ 1000000 ∧ 320 ≤ lead ∧ lead ≤ 5000 ∧ 1 ≤ skew ∧ skew ≤ 500 ∧
      1 ≤ missed ∧ missed ≤ 15 ∧ 1 ≤ age ∧ age ≤ 1000 ∧ 8 ≤ high ∧ high ≤ 56 ∧ m.field (offset 3 + 12) 1 < high
    let slot (i k size : Nat) := m.field (offset 3 + 13 + 12 * i + k) size
    let targets (i p : Nat) : Prop := (slot i 5 2).testBit (p - 1) = true
    let slotGood (i : Nat) : Prop :=
      320 ≤ slot i 0 4 ∧ slot i 0 4 + 320 ≤ cycle ∧
      (∀ j < count 3, j ≠ i → slot j 0 4 + 320 ≤ slot i 0 4 ∨ slot i 0 4 + 320 ≤ slot j 0 4) ∧
      slot i 4 1 ≤ 1 ∧ 200 ≤ slot i 8 2 ∧ slot i 8 2 ≤ 60000 ∧ slot i 11 1 ≤ 2 ∧ slot i 5 2 ≠ 0 ∧
      (∀ p ∈ allPositions, targets i p → ∃ e < count 1, position e = p) ∧
      (slot i 4 1 = 1 → ∀ p ∈ allPositions, targets i p ↔ ∃ e < count 1, kind e = 1 ∧ position e = p)
    (count 0 ≠ 1 → validateParams m = some 255) ∧
    (count 0 = 1 → first (validateParams m) 13 (fun n => ∀ a size lo hi, params[n]? = some (a, size, lo, hi) →
      let v := m.field (offset 0 + a) size
      lo ≤ v ∧ v ≤ hi ∧ (n = 2 → v % 10 = 0))) ∧
    (count 1 = 0 ∨ 16 < count 1 → validateMap m = some 255) ∧
    (1 ≤ count 1 → count 1 ≤ 16 →
      ((∀ i < count 1, entryGood i) → (∃ i < count 1, kind i = 1) → validateMap m = none) ∧
      ((∀ i < count 1, entryGood i) → (∀ i < count 1, kind i ≠ 1) → ∃ n, validateMap m = some n) ∧
      (∀ i < count 1, ¬ entryGood i → (∀ j < i, entryGood j) → validateMap m = some i)) ∧
    (12 < count 2 ∨ 3 < m.field (offset 2) 1 → validatePass m = some 255) ∧
    (count 2 ≤ 12 → m.field (offset 2) 1 ≤ 3 →
      first (validatePass m) (count 2) (fun i => m.field (offset 2 + 1 + 9 * i + 8) 1 ≤ 3)) ∧
    (¬ headerGood → validateSchedule m = some 255) ∧
    (headerGood → validateMap m = none → first (validateSchedule m) (count 3) slotGood) ∧
    (count 4 ≠ 12 → validateLimits m = some 255) ∧
    (count 4 = 12 → first (validateLimits m) 12 (fun i =>
      1 ≤ trips i ∧ trips i ≤ 15 ∧ 1 ≤ clears i ∧ clears i ≤ 15 ∧
      (i < 2 → ordered i 0 65535) ∧ (i = 2 ∨ i = 3 → ordered i (-550) 1550) ∧
      (i = 4 ∨ i = 5 → ordered i (-8388608) 8388607) ∧
      (i = 6 ∨ i = 7 → limit i 2 = 0 ∧ limit i 3 = 0 ∧ 0 < limit i 1 ∧ limit i 1 ≤ limit i 0 ∧ limit i 0 ≤ 65535) ∧
      (8 ≤ i → ∀ k < 4, limit i k = 0) ∧ (10 ≤ i → trips i = 1 ∧ clears i = 1))) ∧
    (count 5 ≠ 16 → validateInterlock m = some 255) ∧
    (count 5 = 16 → first (validateInterlock m) 16 (fun i =>
      action i ≤ 5 ∧ (i = 7 ∨ i = 9 ∨ i = 10 → 2 ≤ action i) ∧ (i = 13 → action i = 5)))) ∧
  ∀ (c : Part) (q : List Instr),
    let n := c.store.target
    let report (p : Part) (o : UpdateOutcome) (u : UpdateState) : Part :=
      p.offerReport .priority (updatePayload o n u c.store.state c.store.copy.floor)
    (∀ e, c.store.update = .erasing → c.store.eraseEnd = some e →
      (atOrAfter c.sched.packTime e = false → exec .eraseComplete ⟨c, q⟩ = .next ⟨c, q⟩) ∧
      (atOrAfter c.sched.packTime e = true → c.store.abortPending = false →
        exec .eraseComplete ⟨c, q⟩ = .next ⟨report { c with
          store := { c.store.setBank n { bytes := [], state := .erased } with update := .ready, eraseEnd := none } }
          .erased .ready, q⟩) ∧
      (atOrAfter c.sched.packTime e = true → c.store.abortPending = true →
        exec .eraseComplete ⟨c, q⟩ = .next ⟨report (report { c with
          store := { c.store.setBank n { bytes := [], state := .erased } with
            update := .idle, eraseEnd := none, abortPending := false } }
          .erased .idle) (.aborted .erasing) .idle, q⟩)) ∧
    (c.store.update ≠ .erasing ∨ c.store.eraseEnd = none → exec .eraseComplete ⟨c, q⟩ = .next ⟨c, q⟩) ∧
    (c.store.update = .checking →
      let m := (c.store.bank n).bytes
      let result := checkImage m (fun v => decide (c.store.copy.floor < v))
      (result = .staged →
        exec .checkComplete ⟨c, q⟩ = .next ⟨report { c with
          store := { c.store.setBank n { bytes := m, state := .staged } with
            update := .ready, staged := some (imageVersion m) } }
          (.checked .staged (some (imageVersion m))) .ready, q⟩) ∧
      (result = .format →
        exec .checkComplete ⟨c, q⟩ =
          .next ⟨report { c with store.update := .ready } (.checked .format none) .ready, q⟩) ∧
      (result ≠ .staged → result ≠ .format →
        exec .checkComplete ⟨c, q⟩ =
          .next ⟨report { c with store.update := .ready } (.checked result (some (imageVersion m))) .ready, q⟩)) ∧
    (c.store.update ≠ .checking → exec .checkComplete ⟨c, q⟩ = .next ⟨c, q⟩) ∧
    (∀ p, c.mgmt.programming = some p →
      (p.offset + p.data.length ≤ bankSize → c.store.tamperPending = true → c.store.recordRead = true →
        c.store.copy.tamper = false → c.store.abortPending = true → c.store.update = .ready → c.bankLaws = true →
        ∃ t : Part, exec .writeProgrammingEnd ⟨c, q⟩ = .next ⟨t, q⟩ ∧
          (∀ a, (t.store.bank n).bytes.read a =
            if p.offset ≤ a ∧ a < p.offset + p.data.length then (p.data[a - p.offset]?).getD 0
            else (c.store.bank n).bytes.read a) ∧
          t.mgmt = { c.mgmt with
            programming := none,
            responses := c.mgmt.responses ++
              [{ frame := { dest := 0, source := 0, kind := .mgmtRsp, seq := p.seq, status := 0, payload := [17] },
                 restart := false }] } ∧
          t.store.update = .idle ∧ t.store.tamperPending = false ∧ t.store.copy.tamper = true ∧ t.store.write ≠ .idle ∧
          packObject .tamper ∈ t.interlock.tripped ∧ t.power.state = .active) ∧
      (p.offset + p.data.length ≤ bankSize → c.store.tamperPending = false → c.store.abortPending = false →
        c.bankLaws = true →
        ∃ t : Part, exec .writeProgrammingEnd ⟨c, q⟩ = .next ⟨t, q⟩ ∧
          (∀ a, (t.store.bank n).bytes.read a =
            if p.offset ≤ a ∧ a < p.offset + p.data.length then (p.data[a - p.offset]?).getD 0
            else (c.store.bank n).bytes.read a) ∧
          t = { c with
            store := { c.store.setBank n { bytes := (t.store.bank n).bytes, state := .written } with staged := none },
            mgmt.programming := none,
            mgmt.responses := c.mgmt.responses ++
              [{ frame := { dest := 0, source := 0, kind := .mgmtRsp, seq := p.seq, status := 0, payload := [17] },
                 restart := false }] }) ∧
      (p.offset + p.data.length ≤ bankSize → c.store.tamperPending = false → c.store.abortPending = true →
        c.store.update = .ready → c.bankLaws = true →
        ∃ m : Memory, (∀ a, m.read a =
            if p.offset ≤ a ∧ a < p.offset + p.data.length then (p.data[a - p.offset]?).getD 0
            else (c.store.bank n).bytes.read a) ∧
          exec .writeProgrammingEnd ⟨c, q⟩ = .next ⟨report { c with
          store := { c.store.setBank n { bytes := m, state := .written } with
            staged := none, update := .idle, abortPending := false },
          mgmt.programming := none,
          mgmt.responses := c.mgmt.responses ++
            [{ frame := { dest := 0, source := 0, kind := .mgmtRsp, seq := p.seq, status := 0, payload := [17] },
               restart := false }] } (.aborted .ready) .idle, q⟩) ∧
      (bankSize < p.offset + p.data.length →
        exec .writeProgrammingEnd ⟨c, q⟩ = .fault (.noSuchBankByte (p.offset + p.data.length - 1)))) ∧
    (c.mgmt.programming = none → exec .writeProgrammingEnd ⟨c, q⟩ = .next ⟨c, q⟩)

/-- The switch (R50, R161, R171, R172): with the tracker empty and no normal run but one under the commit hold,
COMMIT_PENDING becomes SWITCHING, the record copy takes the target bank and the staged version, and a record write is
asked for. A write that completes leaves its record in memory and the next write, if one waits, begins with the fields
as they stand; the write of a switch retires the active bank, makes the new one ACTIVE and begins the load of 2 ms. A
SWITCH_START without its condition, and a record write's end before its time, change nothing (log entry 2). -/
def Obligations.SwitchStartsAndWritesTheRecord : Prop :=
  ∀ (c : Part) (q : List Instr),
    let noRun := ∀ r, c.sched.run = some r → r.kind = .normal → c.sched.holdInEffect = true
    let named : ServiceRecord :=
      { c.store.copy with active := some c.store.target, floor := c.store.staged.getD c.store.copy.floor }
    let ends : Time := c.sched.packTime + 6000#32
    let retired (b : Bank) : Bank := { bytes := b.bytes, state := if b.state = .active then .retired else b.state }
    (c.store.update = .commitPending → c.sched.sweeps = [] → noRun →
      (c.store.write = .idle →
        exec .switchStart ⟨c, q⟩ = .next ⟨{ c with
          store.copy := named, store.update := .switching, store.switch := .writing,
          store.write := .inProgress named ends }, q⟩) ∧
      (∀ f d, c.store.write = .inProgress f d ∨ c.store.write = .inProgressWaiting f d →
        exec .switchStart ⟨c, q⟩ = .next ⟨{ c with
          store.copy := named, store.update := .switching, store.switch := .waiting,
          store.write := .inProgressWaiting f d }, q⟩)) ∧
    (c.store.update ≠ .commitPending ∨ c.sched.sweeps ≠ [] ∨ ¬ noRun → exec .switchStart ⟨c, q⟩ = .next ⟨c, q⟩) ∧
    (∀ f d next, atOrAfter c.sched.packTime d = true →
      (c.store.write = .inProgress f d ∧ next = .idle) ∨
        (c.store.write = .inProgressWaiting f d ∧ next = .inProgress c.store.copy ends) →
      let written : Part := { c with store.record := some f, store.write := next }
      let loading : SwitchPhase := .loading (c.sched.packTime + 2000#32)
      (c.store.switch = .none ∨ (∃ e, c.store.switch = .loading e) →
        exec .recordWriteComplete ⟨c, q⟩ = .next ⟨written, q⟩) ∧
      (c.store.switch = .waiting →
        exec .recordWriteComplete ⟨c, q⟩ = .next ⟨{ written with store.switch := .writing }, q⟩) ∧
      (c.store.switch = .writing → c.store.copy.active = some .a →
        exec .recordWriteComplete ⟨c, q⟩ = .next ⟨{ written with
          store.staged := none, store.switch := loading,
          store.bankA := { bytes := c.store.bankA.bytes, state := .active }, store.bankB := retired c.store.bankB }, q⟩) ∧
      (c.store.switch = .writing → c.store.copy.active = some .b →
        exec .recordWriteComplete ⟨c, q⟩ = .next ⟨{ written with
          store.staged := none, store.switch := loading,
          store.bankB := { bytes := c.store.bankB.bytes, state := .active }, store.bankA := retired c.store.bankA }, q⟩)) ∧
    (∀ f d, c.store.write = .inProgress f d ∨ c.store.write = .inProgressWaiting f d →
      atOrAfter c.sched.packTime d = false → exec .recordWriteComplete ⟨c, q⟩ = .next ⟨c, q⟩)

/-- The end of a switch's load (R172 to R174): with a sound CRC-32 the store is CONFIGURED with the tables of the new
bank and the new floor as the version in use; with an unsound one it is UNCONFIGURED with the empty tables, the schedule
is STOPPED with no run, and CONFIG_SWITCH is active. Both end the update, clear the commit hold, return every channel,
the sum and every sense object to NORMAL, set the missed-reply and slot miss counts that no LOST verdict sets to 0, keep
the transaction tracker and the two router queues, form the effective action and FAULT_OUT under the tables now in use,
so that from OPEN the connection state is LOCKED_OUT exactly if a new action of LOCKOUT is formed, once, after the
identity check (log entry 41), and end with their UPDATE report, SWITCHED with the version in use or SWITCH_FAILED with
the floor (R138), each naming the new active bank (log entry 22). A sound load begins a new normal run if the schedule
is RUNNING. The load's end before its time does nothing (log entry 2). -/
def Obligations.LoadEndsTheSwitch : Prop :=
  ∀ (c : Part) (q : List Instr) (d : Time) (n : BankName), c.store.switch = .loading d → c.store.copy.active = some n →
    let m := (c.store.bank n).bytes
    let ended (t : Part) : Prop :=
      t.store.update = .idle ∧ t.store.switch = .none ∧ t.store.abortPending = false ∧ t.sched.hold = false ∧
      t.sched.holdInEffect = false ∧
      t.sched.slotMiss = Vector.replicate 24 0 ∧ t.router = c.router ∧ t.store.copy.active = some n ∧
      t.store.copy.floor = c.store.copy.floor ∧ t.store.bankA = c.store.bankA ∧ t.store.bankB = c.store.bankB ∧
      t.eval.channels = Vector.replicate 16 (Vector.replicate 16 { state := .normal, counter := 0, pending := .none }) ∧
      t.eval.sum = { state := .normal, counter := 0, pending := .none } ∧
      t.eval.sense = Vector.replicate 16 { tripped := false, counter := 0 } ∧
      (∀ p ∈ allPositions, atPos t.sched.missed 0 p =
        if (t.store.tables.byPosition p).isSome ∧ atPos c.south.replies none p = none then t.store.tables.header.missedLimit
        else 0) ∧
      t.sched.packTime = c.sched.packTime ∧ t.mgmt = c.mgmt ∧
      t.interlock.effective = t.effectiveAction ∧
      t.interlock.faultOut = decide (3 ≤ t.interlock.effective.code ∨ t.seq.conn = .lockedOut)
    (atOrAfter c.sched.packTime d = false → exec .tableLoadComplete ⟨c, q⟩ = .next ⟨c, q⟩) ∧
    (atOrAfter c.sched.packTime d = true → crcOk m = true →
      ∃ t : Part, exec .tableLoadComplete ⟨c, q⟩ = .next ⟨t, q⟩ ∧ ended t ∧
        t.store.state = .configured ∧ t.store.tables = loadTables m ∧ t.store.versionInUse = some c.store.copy.floor ∧
        t.sched.state = c.sched.state ∧
        t.reported (updatePayload (.switched c.store.copy.floor) n .idle .configured c.store.copy.floor) ∧
        (c.seq.conn = .opened → t.seq.conn =
          if t.interlock.effective = .lockout ∧ c.interlock.effective ≠ .lockout then .lockedOut else .opened) ∧
        (c.power.state = .active → c.sched.state = .stopped → t.sched.run = c.sched.run) ∧
        (c.power.state = .active → c.sched.state = .running → c.south.sampling = [] →
          t.south.sampling = (if c.south.link = .up then [.sync c.sched.packTime] else []) ∧
          t.sched.run = some { kind := .normal, begun := true, cycle := 0, cycleStart := c.sched.packTime, launched := [],
                               cycles := ((loadTables m).params.power.map (fun p => p.cycles)).getD 0,
                               launchEnded := false })) ∧
    (atOrAfter c.sched.packTime d = true → crcOk m = false →
      ∃ t : Part, exec .tableLoadComplete ⟨c, q⟩ = .next ⟨t, q⟩ ∧ ended t ∧
        t.store.state = .unconfigured ∧ t.store.tables = Tables.empty ∧ t.store.versionInUse = none ∧
        t.sched.state = .stopped ∧ (c.power.state = .active → t.sched.run = none) ∧
        hasClass t.interlock.events .configSwitch = true ∧ t.interlock.effective = .report ∧
        t.reported (updatePayload .switchFailed n .idle .unconfigured c.store.copy.floor) ∧
        (c.seq.conn = .opened → t.seq.conn = .opened))

/-! ### Management requests -/

/-- What the engine answers before a request's own rule (R183, R184): BUSY while the store is LOADING, but for STATUS,
and BAD_ARGUMENT for a payload length or an argument out of range; an unknown code has its own answer. Nothing else
changes. A request command whose request is not the one at the head of the queue, or that finds the engine waiting for a
programming or a RESTART, does nothing (log entry 6). -/
def Obligations.RequestsAreCheckedFirst : Prop :=
  ∀ (c : Part) (q : List Instr) (f : Frame) (rest : List Frame) (r : Request), c.mgmt.requests = f :: rest →
    (c.mgmt.programming = none → c.mgmt.restart = .notTaken → f.request = some r → c.store.state = .loading → r ≠ .status →
      exec r.command ⟨c, q⟩ = .next ⟨c.answered f rest .busy [], q⟩) ∧
    (c.mgmt.programming = none → c.mgmt.restart = .notTaken → f.request = some r → c.store.state ≠ .loading ∨ r = .status →
      f.argumentsOk r = false → exec r.command ⟨c, q⟩ = .next ⟨c.answered f rest .badArgument [], q⟩) ∧
    (c.mgmt.programming = none → c.mgmt.restart = .notTaken → f.request = none →
      exec .unknownRequest ⟨c, q⟩ = .next ⟨c.answered f rest .unknownRequest [], q⟩) ∧
    (c.mgmt.programming ≠ none ∨ c.mgmt.restart ≠ .notTaken ∨ f.request ≠ some r →
      exec r.command ⟨c, q⟩ = .next ⟨c, q⟩)

/-- The requests that return what stands (R130, R179, R186 to R189): each answers OK with its return data and changes
nothing but what its rule names: STATUS the priority-loss flag, and READ_COUNTERS with a clear byte of 1 the counters of
its table, each of them 0 afterwards. -/
def Obligations.ReadRequestsReturnWhatStands : Prop :=
  ∀ (c : Part) (q : List Instr) (f : Frame) (rest : List Frame),
    (c.executes f rest .status →
      exec .status ⟨c, q⟩ = .next ⟨{ c.answered f rest .ok
        ([BitVec.ofNat 8 c.power.state.code, BitVec.ofNat 8 c.seq.conn.code, BitVec.ofNat 8 c.store.state.code,
          BitVec.ofNat 8 c.store.update.code, BitVec.ofNat 8 c.sched.state.code, BitVec.ofNat 8 c.south.link.code,
          c.statusFlagsA, c.statusFlagsB] ++ be 4 c.sched.packTime.toNat ++
         [BitVec.ofNat 8 c.sched.sweeps.length, BitVec.ofNat 8 c.interlock.effective.code] ++
         be 2 c.activitySet.toNat ++ be 2 c.interlock.latches.toNat ++ [BitVec.ofNat 8 c.reports.queue.length] ++
         be 4 (c.store.versionInUse.getD 0) ++ be 4 (if c.store.recordRead then c.store.copy.floor else 0)) with
        reports.priorityLoss := false }, q⟩) ∧
    (c.executes f rest .readCounters →
      let data := (c.counters.map (be 2)).flatten ++ [BitVec.ofNat 8 c.seq.overwritten] ++
        c.sched.slotMiss.toList.map (BitVec.ofNat 8)
      (f.byte 1 = 0 → exec .readCounters ⟨c, q⟩ = .next ⟨c.answered f rest .ok data, q⟩) ∧
      (f.byte 1 = 1 → exec .readCounters ⟨c, q⟩ = .next ⟨{ c.answered f rest .ok data with
        north.crcErrors := 0, south.crcErrors := 0, kindDiscards := 0, south.downEvents := 0, south.retries := 0,
        router.late := 0, sched.lateSamples := 0, sched.unsolicited := 0, sched.duplicates := 0,
        sched.skewedSamples := 0, sched.missedSlots := 0, sched.shedSlots := 0, router.refusalsDiscarded := 0,
        reports.sweepDiscarded := 0, reports.priorityDiscarded := 0, eval.recordsLost := 0, south.spoofs := 0,
        mgmt.overflow := 0, power.patrols := 0, seq.overwritten := 0, sched.slotMiss := Vector.replicate 24 0 }, q⟩)) ∧
    (c.executes f rest .keepalive →
      exec .keepalive ⟨c, q⟩ = .next ⟨c.answered f rest .ok
        (be 4 c.sched.packTime.toNat ++ [BitVec.ofNat 8 c.power.state.code]), q⟩) ∧
    (c.executes f rest .updStatus →
      exec .updStatus ⟨c, q⟩ = .next ⟨c.answered f rest .ok
        ([BitVec.ofNat 8 c.store.update.code, BitVec.ofNat 8 c.store.state.code,
          BitVec.ofNat 8 (BankName.code c.store.copy.active), BitVec.ofNat 8 (BankName.code (some c.store.target)),
          BitVec.ofNat 8 c.store.bankA.state.code, BitVec.ofNat 8 c.store.bankB.state.code, c.updateFlags] ++
         be 4 (c.store.staged.getD 0) ++ be 4 (c.store.versionInUse.getD 0) ++ be 4 c.store.copy.floor ++
         [BitVec.ofNat 8 c.store.write.code]), q⟩) ∧
    (c.executes f rest .readImage →
      (c.store.copy.active = none → exec .readImage ⟨c, q⟩ = .next ⟨c.answered f rest .state [], q⟩) ∧
      (∀ n, c.store.copy.active = some n →
        exec .readImage ⟨c, q⟩ = .next ⟨c.answered f rest .ok
          (be 2 (f.field 1 2) ++ [BitVec.ofNat 8 (f.field 3 1)] ++
            (List.range (f.field 3 1)).map (fun i => (c.store.bank n).bytes.read (f.field 1 2 + i))), q⟩))

/-- The requests on the lists of faults and events (R83, R91, R123): READ_FAULTS returns up to three records from its
start index and removes the CLEARED ones among them; READ_EVENTS returns and removes the three oldest records;
ACK_FAULTS makes the event classes it names inactive and clears the latches it names whose class has no tripped object,
TAMPER's apart. The life of a fault record (R80 to R82, R135): a trip creates it while fewer than 32 are held, and is
otherwise counted as lost; a trip of a record that is there makes it ACTIVE with the new last time, one more trip and
the worse value; a clear of an ACTIVE one makes it CLEARED; each makes one FAULT report of the record as it then stands;
a clear that finds no ACTIVE record changes nothing; and a value offered while the channel stays tripped moves the worst
value alone. (The FAULT report of PRECHARGE_FAIL at a sweep's close waits with the EVENT report of its cause: log entry
14.) -/
def Obligations.FaultAndEventListsAreRead : Prop :=
  (∀ (c : Part) (k : FaultKey) (now : Time) (v : Option Int),
    let rs := c.eval.records
    let worse (old new : Option Int) : Option Int :=
      match k.dir, old, new with
      | .high, some a, some b => some (max a b)
      | .low, some a, some b => some (min a b)
      | .none, _, _ => none
      | _, a, none => a
      | _, none, b => b
    let told (p : Part) (change : FaultChange) (n : Nat) (r : FaultRecord) : Part :=
      p.offerReport .priority (faultPayload change n r)
    (k.cls ≠ .prechargeFail ∨ c.reports.held = none →
      ((∀ r ∈ rs, r.key ≠ k) → rs.length < 32 →
        let r : FaultRecord := { key := k, active := true, first := now, last := now, trips := 1, worst := worse none v }
        c.recordTrip k now v = told { c with eval.records := rs ++ [r] } .created rs.length r) ∧
      (∀ before r after, rs = before ++ r :: after → (∀ x ∈ before, x.key ≠ k) → r.key = k →
        let r' : FaultRecord :=
          { r with active := true, last := now, trips := min (r.trips + 1) 255, worst := worse r.worst v }
        let r'' : FaultRecord := { r with active := false, last := now }
        c.recordTrip k now v = told { c with eval.records := before ++ r' :: after } .tripped before.length r' ∧
        (r.active = true →
          c.recordClear k now = told { c with eval.records := before ++ r'' :: after } .cleared before.length r''))) ∧
    ((∀ r ∈ rs, r.key ≠ k) → 32 ≤ rs.length →
      c.recordTrip k now v = { c with eval.recordsLost := min (c.eval.recordsLost + 1) 65535 }) ∧
    ((∀ r ∈ rs, r.key ≠ k ∨ r.active = false) → c.recordClear k now = c) ∧
    (∀ x : Int, c.recordOffer k x = { c with
      eval.records := rs.map (fun r => if r.key = k ∧ r.active = true then { r with worst := worse r.worst (some x) } else r) })) ∧
  ∀ (c : Part) (q : List Instr) (f : Frame) (rest : List Frame),
    (c.executes f rest .readFaults →
      let n := (f.byte 1).toNat
      let returned := (c.eval.records.drop n).take 3
      let data := [BitVec.ofNat 8 c.eval.records.length, BitVec.ofNat 8 returned.length] ++
        (returned.map FaultRecord.bytes).flatten
      exec .readFaults ⟨c, q⟩ = .next ⟨{ c.answered f rest .ok data with
        eval.records := c.eval.records.take n ++ returned.filter (fun r => r.active) ++ c.eval.records.drop (n + 3) }, q⟩) ∧
    (c.executes f rest .readEvents →
      let returned := c.seq.events.take 3
      let data := [BitVec.ofNat 8 c.seq.events.length, BitVec.ofNat 8 c.seq.overwritten,
        BitVec.ofNat 8 returned.length] ++ (returned.map EventRecord.bytes).flatten
      exec .readEvents ⟨c, q⟩ = .next ⟨{ c.answered f rest .ok data with
        seq.events := c.seq.events.drop 3 }, q⟩) ∧
    (c.executes f rest .ackFaults →
      ∃ t : Part, exec .ackFaults ⟨c, q⟩ = .next ⟨t, q⟩ ∧
        (∀ k ∈ FaultClass.all,
          let named := hasClass (BitVec.ofNat 16 (f.field 1 2)) k
          (k.isEvent = true → hasClass t.interlock.events k = (hasClass c.interlock.events k && !named)) ∧
          (k.isEvent = false → hasClass t.interlock.latches k =
            (hasClass c.interlock.latches k && !(named && decide (k ≠ .tamper) && !c.hasObject k)))) ∧
        t.interlock.tripped = c.interlock.tripped ∧ t.interlock.effective = t.effectiveAction ∧
        t.mgmt = (c.answered f rest .ok (be 2 t.activitySet.toNat ++ be 2 t.interlock.latches.toNat)).mgmt ∧
        t.store.tables = c.store.tables ∧ t.south = c.south ∧ t.router = c.router ∧ t.power = c.power)

/-- CONNECT (R107, R108): the first of its conditions that holds gives the refusal, which changes nothing; otherwise
NEG_CLOSING with DRV_NEG closed and its check running, or, where FB_NEG already reads closed, DRV_PRE after it. -/
def Obligations.ConnectIsAnsweredInOrder : Prop :=
  ∀ (c : Part) (q : List Instr) (f : Frame) (rest : List Frame), c.executes f rest .connect →
    let wait : Time := c.sched.packTime + BitVec.ofNat 32 (c.store.tables.params.feedbackMs * 1000)
    let driven : ContactorState := { drive := true, timer := some { expiry := wait, target := true }, watch := .armed }
    let settled : ContactorState := { drive := true, timer := none, watch := .armed }
    let opened := c.seq.conn = .opened
    let active := c.power.state = .active
    let configured := c.store.state ≠ .unconfigured
    let idle := c.store.update = .idle
    let blocked := 2 ≤ c.interlock.effective.code ∨ c.store.copy.tamper = true
    (¬ opened → exec .connect ⟨c, q⟩ = .next ⟨c.answered f rest .state [], q⟩) ∧
    (opened → ¬ active → exec .connect ⟨c, q⟩ = .next ⟨c.answered f rest .notActive [], q⟩) ∧
    (opened → active → ¬ configured → exec .connect ⟨c, q⟩ = .next ⟨c.answered f rest .unconfigured [], q⟩) ∧
    (opened → active → configured → ¬ idle → exec .connect ⟨c, q⟩ = .next ⟨c.answered f rest .updating [], q⟩) ∧
    (opened → active → configured → idle → blocked →
      exec .connect ⟨c, q⟩ = .next ⟨c.answered f rest .blocked [], q⟩) ∧
    (opened → active → configured → idle → ¬ blocked → c.seq.kNeg.drive = false →
      (c.lines.feedback.kNeg = false →
        exec .connect ⟨c, q⟩ = .next ⟨{ c.answered f rest .ok [1] with
          seq.conn := .negClosing, seq.kNeg := driven }, q⟩) ∧
      (c.lines.feedback.kNeg = true → c.lines.feedback.kPre = false → c.seq.kPre.drive = false →
        exec .connect ⟨c, q⟩ = .next ⟨{ c.answered f rest .ok [1] with
          seq.conn := .negClosing, seq.kNeg := settled, seq.kPre := driven }, q⟩) ∧
      (c.lines.feedback.kNeg = true → c.lines.feedback.kPre = true → c.seq.kPre.drive = false →
        exec .connect ⟨c, q⟩ = .next ⟨{ c.answered f rest .ok [2] with
          seq.conn := .precharging, seq.kNeg := settled, seq.kPre := settled, seq.tPc := some c.sched.packTime,
          seq.prechargeEnd :=
            some (c.sched.packTime + BitVec.ofNat 32 (c.store.tables.params.prechargeMs * 1000)) }, q⟩))

/-- DISCONNECT and DISCONNECT_NOW (R112, R114 to R116) are answered OK in every connection state, with the state that
results: at rest and in OPENING nothing changes; a close before MAIN_CLOSING is aborted to OPEN with a PRECHARGE_ABORT;
MAIN_CLOSING, and for DISCONNECT_NOW CLOSED and SOFT_OPENING too, go to OPENING, where DRV_POS and DRV_PRE open while
DRV_NEG waits for FB_POS, and with FB_POS open already opens at once, the opening ending where FB_NEG reads open too, in
LOCKED_OUT if lockout is pending; CLOSED goes to SOFT_OPENING for DISCONNECT. The cause is REQUEST, and a soft open
keeps its own. -/
def Obligations.DisconnectsOpenThePack : Prop :=
  ∀ (c : Part) (q : List Instr) (f : Frame) (rest : List Frame) (i : Instr),
    (i = .disconnect ∧ c.executes f rest .disconnect) ∨ (i = .disconnectNow ∧ c.executes f rest .disconnectNow) →
    (c.seq.conn = .opened ∨ c.seq.conn = .lockedOut ∨ c.seq.conn = .opening ∨
        (i = .disconnect ∧ c.seq.conn = .softOpening) →
      exec i ⟨c, q⟩ = .next ⟨c.answered f rest .ok [BitVec.ofNat 8 c.seq.conn.code], q⟩) ∧
    (c.seq.conn = .negClosing ∨ c.seq.conn = .precharging →
      ∃ t : Part, exec i ⟨c, q⟩ = .next ⟨t, q⟩ ∧ t.seq.conn = .opened ∧
        t.seq.kPos.drive = false ∧ t.seq.kNeg.drive = false ∧ t.seq.kPre.drive = false ∧
        t.seq.prechargeEnd = none ∧ t.seq.tPc = none ∧
        (∃ e ∈ t.seq.events, e.kind = .prechargeAbort ∧ e.cause = .request ∧ e.before = c.seq.conn ∧ e.after = .opened ∧
          e.time = c.sched.packTime) ∧
        t.mgmt = (c.answered f rest .ok [0]).mgmt ∧ t.store = c.store ∧ t.south = c.south ∧ t.router = c.router ∧
        t.power = c.power ∧ t.interlock = c.interlock) ∧
    (c.seq.conn = .mainClosing ∨ (i = .disconnectNow ∧ (c.seq.conn = .closed ∨ c.seq.conn = .softOpening)) →
      c.lines.feedback.kPos = false →
      let ended : ConnState := if c.seq.pendingLockout = none then .opened else .lockedOut
      ∃ t : Part, exec i ⟨c, q⟩ = .next ⟨t, q⟩ ∧
        t.seq.kPos.drive = false ∧ t.seq.kPre.drive = false ∧ t.seq.kNeg.drive = false ∧
        t.seq.conn = (if c.lines.feedback.kNeg then .opening else ended) ∧
        t.mgmt = (c.answered f rest .ok [BitVec.ofNat 8 t.seq.conn.code]).mgmt ∧
        (c.lines.feedback.kNeg = true → t = { c.answered f rest .ok [6] with seq := t.seq } ∧
          t.seq.openingCause = if c.seq.conn = .softOpening then c.seq.openingCause else some .request)) ∧
    (c.seq.conn = .mainClosing ∨ (i = .disconnectNow ∧ (c.seq.conn = .closed ∨ c.seq.conn = .softOpening)) →
      c.lines.feedback.kPos = true → c.seq.kNeg.drive = true →
      ∃ t : Part, exec i ⟨c, q⟩ = .next ⟨t, q⟩ ∧ t = { c.answered f rest .ok [6] with seq := t.seq } ∧
        t.seq.conn = .opening ∧ t.seq.kPos.drive = false ∧ t.seq.kPre.drive = false ∧ t.seq.kNeg = c.seq.kNeg ∧
        t.seq.prechargeEnd = none ∧ t.seq.softEnd = none ∧ t.seq.tPc = none ∧
        t.seq.openingCause = (if c.seq.conn = .softOpening then c.seq.openingCause else some .request) ∧
        t.seq.events = c.seq.events ∧ t.seq.pendingLockout = c.seq.pendingLockout) ∧
    (i = .disconnect → c.seq.conn = .closed →
      exec i ⟨c, q⟩ = .next ⟨{ c.answered f rest .ok [5] with
        seq.conn := .softOpening, seq.tSo := some c.sched.packTime, seq.openingCause := some .request,
        seq.softEnd :=
          some (c.sched.packTime + BitVec.ofNat 32 (c.store.tables.params.softOpenMs * 1000)) }, q⟩)

/-- CLEAR_LOCKOUT (R119) and CLEAR_TAMPER (R89, R178): the first condition that holds gives the refusal, which changes
nothing; otherwise the flag of the record copy is cleared and a record write is asked for, which begins, waits behind
one in progress, or merges with one that waits (R161). CLEAR_LOCKOUT leads to OPEN with a LOCKOUT_CLEAR record and no
lockout pending (R107; log entry 18); CLEAR_TAMPER takes the TAMPER object away, and on a clear latch changes nothing.
-/
def Obligations.LockoutAndTamperAreCleared : Prop :=
  ∀ (c : Part) (q : List Instr) (f : Frame) (rest : List Frame),
    (c.executes f rest .clearLockout →
      let locked := c.seq.conn = .lockedOut
      let active := c.power.state = .active
      let service := c.lines.serviceIn = true
      let allOpen := c.lines.feedback = { kPos := false, kNeg := false, kPre := false }
      let held := ∃ k ∈ FaultClass.all, c.classActive k = true ∧ c.store.tables.actionOf k = some .lockout
      (¬ locked → exec .clearLockout ⟨c, q⟩ = .next ⟨c.answered f rest .state [], q⟩) ∧
      (locked → ¬ active → exec .clearLockout ⟨c, q⟩ = .next ⟨c.answered f rest .notActive [], q⟩) ∧
      (locked → active → ¬ service → exec .clearLockout ⟨c, q⟩ = .next ⟨c.answered f rest .noService [], q⟩) ∧
      (locked → active → service → ¬ allOpen →
        exec .clearLockout ⟨c, q⟩ = .next ⟨c.answered f rest .feedback [], q⟩) ∧
      (locked → active → service → allOpen → held →
        exec .clearLockout ⟨c, q⟩ = .next ⟨c.answered f rest .blocked [], q⟩) ∧
      (locked → active → service → allOpen → ¬ held →
        ∃ t : Part, exec .clearLockout ⟨c, q⟩ = .next ⟨t, q⟩ ∧ t.seq.conn = .opened ∧ t.seq.pendingLockout = none ∧
          t.store.copy = { c.store.copy with lockout := false } ∧ t.store.record = c.store.record ∧
          (c.store.write = .idle →
            t.store.write = .inProgress { c.store.copy with lockout := false } (c.sched.packTime + 6000#32)) ∧
          (∀ g d, c.store.write = .inProgress g d ∨ c.store.write = .inProgressWaiting g d →
            t.store.write = .inProgressWaiting g d) ∧
          (∃ e ∈ t.seq.events, e.kind = .lockoutClear ∧ e.cause = .request ∧ e.before = .lockedOut ∧ e.after = .opened) ∧
          t.interlock = { c.interlock with faultOut := decide (3 ≤ c.interlock.effective.code) } ∧
          t.mgmt = (c.answered f rest .ok []).mgmt ∧ t.power = c.power ∧ t.south = c.south ∧ t.router = c.router)) ∧
    (c.executes f rest .clearTamper →
      (c.lines.serviceIn = false → exec .clearTamper ⟨c, q⟩ = .next ⟨c.answered f rest .noService [], q⟩) ∧
      (c.lines.serviceIn = true → c.lines.tamperIn = true →
        exec .clearTamper ⟨c, q⟩ = .next ⟨c.answered f rest .tamperOpen [], q⟩) ∧
      (c.lines.serviceIn = true → c.lines.tamperIn = false → c.store.copy.tamper = false →
        exec .clearTamper ⟨c, q⟩ = .next ⟨c.answered f rest .ok [], q⟩) ∧
      (c.lines.serviceIn = true → c.lines.tamperIn = false → c.store.copy.tamper = true →
        ∃ t : Part, exec .clearTamper ⟨c, q⟩ = .next ⟨t, q⟩ ∧ t.store.copy.tamper = false ∧ t.store.write ≠ .idle ∧
          (c.seq.conn = .lockedOut ∨ t.seq.conn ≠ .lockedOut → t.store.copy = { c.store.copy with tamper := false } ∧
            (c.store.write = .idle →
              t.store.write = .inProgress { c.store.copy with tamper := false } (c.sched.packTime + 6000#32)) ∧
            (∀ g d, c.store.write = .inProgress g d ∨ c.store.write = .inProgressWaiting g d →
              t.store.write = .inProgressWaiting g d)) ∧
          t.store.copy.active = c.store.copy.active ∧ t.store.copy.floor = c.store.copy.floor ∧
          packObject .tamper ∉ t.interlock.tripped ∧ t.mgmt = (c.answered f rest .ok []).mgmt ∧ t.power = c.power ∧
          t.south = c.south ∧ t.router = c.router ∧ t.store.tables = c.store.tables))

/-- SCHEDULE_START, SCHEDULE_STOP and SET_TIME (R41, R44 to R47, R50): a start refused by its conditions in order, or a
normal run that begins at once, with its SYNC for an UP link, unless an old SYNC or TRIGGER still waits; a stop, which
ends a normal run and its hold; and pack time set while STOPPED with no sweep open, by which every deadline, timer, due
time and reference time moves too, the ends of a record write, of a load and of a RESTART's response and the starts of
the frames on both wires among them (log entry 35); that response's end moves with every set of pack time, although the
engine executes no SET_TIME while it stands (R191). -/
def Obligations.ScheduleIsStartedStoppedAndTimed : Prop :=
  (∀ (c : Part) (v : Time), (c.setTime v).sched.packTime = v ∧ (c.setTime v).mgmt = { c.mgmt with
    restart := match c.mgmt.restart with
      | .answered e => .answered (e + (v - c.sched.packTime))
      | .notTaken => .notTaken
      | .taken => .taken }) ∧
  ∀ (c : Part) (q : List Instr) (f : Frame) (rest : List Frame),
    (c.executes f rest .scheduleStart →
      let configured := c.store.state ≠ .unconfigured
      let active := c.power.state = .active
      let updating := c.store.update = .commitPending ∨ c.store.update = .switching
      let running (begun : Bool) (sampling : List SamplingFrame) : Part := { c.answered f rest .ok [] with
        sched.state := .running, sched.hold := false, sched.holdInEffect := false, south.sampling := sampling,
        sched.run := some { kind := .normal, begun := begun, cycle := 0, cycleStart := c.sched.packTime, launched := [],
                            cycles := (c.store.tables.params.power.map (fun p => p.cycles)).getD 0, launchEnded := false } }
      (¬ configured → exec .scheduleStart ⟨c, q⟩ = .next ⟨c.answered f rest .unconfigured [], q⟩) ∧
      (configured → ¬ active → exec .scheduleStart ⟨c, q⟩ = .next ⟨c.answered f rest .notActive [], q⟩) ∧
      (configured → active → updating → exec .scheduleStart ⟨c, q⟩ = .next ⟨c.answered f rest .updating [], q⟩) ∧
      (configured → active → ¬ updating → c.sched.state = .running →
        exec .scheduleStart ⟨c, q⟩ = .next ⟨c.answered f rest .state [], q⟩) ∧
      (configured → active → ¬ updating → c.sched.state = .stopped →
        (c.south.sampling = [] → exec .scheduleStart ⟨c, q⟩ =
          .next ⟨running true (if c.south.link = .up then [.sync c.sched.packTime] else []), q⟩) ∧
        (c.south.sampling ≠ [] → exec .scheduleStart ⟨c, q⟩ = .next ⟨running false c.south.sampling, q⟩))) ∧
    (c.executes f rest .scheduleStop →
      (c.sched.state = .stopped → exec .scheduleStop ⟨c, q⟩ = .next ⟨c.answered f rest .ok [], q⟩) ∧
      (c.sched.state = .running → (∀ r, c.sched.run = some r → r.kind = .patrol) →
        exec .scheduleStop ⟨c, q⟩ = .next ⟨{ c.answered f rest .ok [] with sched.state := .stopped }, q⟩) ∧
      (c.sched.state = .running → (∃ r, c.sched.run = some r ∧ r.kind = .normal) →
        exec .scheduleStop ⟨c, q⟩ = .next ⟨{ c.answered f rest .ok [] with
          sched.state := .stopped, sched.run := none, sched.hold := false, sched.holdInEffect := false }, q⟩)) ∧
    (c.executes f rest .setTime →
      (c.sched.state = .running → exec .setTime ⟨c, q⟩ = .next ⟨c.answered f rest .state [], q⟩) ∧
      (c.sched.state = .stopped → c.sched.sweeps ≠ [] →
        exec .setTime ⟨c, q⟩ = .next ⟨c.answered f rest .busy [], q⟩) ∧
      (c.sched.state = .stopped → c.sched.sweeps = [] →
        ∃ t : Part, exec .setTime ⟨c, q⟩ = .next ⟨t, q⟩ ∧
          let d := BitVec.ofNat 32 (f.field 1 4) - c.sched.packTime
          t.sched.packTime = BitVec.ofNat 32 (f.field 1 4) ∧
          t.interlock.supervision = c.interlock.supervision.map (· + d) ∧
          t.south.retry = c.south.retry.map (· + d) ∧ t.south.window = c.south.window.map (· + d) ∧
          t.south.bringAt = c.south.bringAt.map (· + d) ∧ t.south.bringDue = c.south.bringDue.map (· + d) ∧
          t.south.sleepDue = c.south.sleepDue.map (· + d) ∧ t.store.eraseEnd = c.store.eraseEnd.map (· + d) ∧
          (∀ k, let x := c.seq.contactor k
            let y := t.seq.contactor k
            y.drive = x.drive ∧ y.timer = x.timer.map (fun r => { r with expiry := r.expiry + d }) ∧
            (∀ e, x.watch = .timing e → y.watch = .timing (e + d)) ∧
            (x.watch = .armed ∨ x.watch = .spent → y.watch = x.watch)) ∧
          (∀ w, c.south.wire = some w → t.south.wire = some { w with start := w.start + d }) ∧
          (∀ w, c.north.wire = some w → t.north.wire = some { w with start := w.start + d }) ∧
          (c.south.wire = none → t.south.wire = none) ∧ (c.north.wire = none → t.north.wire = none) ∧
          (∀ g e, c.store.write = .inProgress g e → t.store.write = .inProgress g (e + d)) ∧
          (∀ g e, c.store.write = .inProgressWaiting g e → t.store.write = .inProgressWaiting g (e + d)) ∧
          (c.store.write = .idle → t.store.write = .idle) ∧
          (∀ e, c.store.switch = .loading e → t.store.switch = .loading (e + d)) ∧
          ((∀ e, c.store.switch ≠ .loading e) → t.store.switch = c.store.switch) ∧
          t.seq.tPc = c.seq.tPc.map (· + d) ∧ t.seq.prechargeEnd = c.seq.prechargeEnd.map (· + d) ∧
          t.seq.tSo = c.seq.tSo.map (· + d) ∧ t.seq.softEnd = c.seq.softEnd.map (· + d) ∧
          (t.eval.shunt.map (fun r => r.sampleTime)) = c.eval.shunt.map (fun r => r.sampleTime + d) ∧
          t.router.tracker.map (fun r => (r.seq, r.state)) =
            c.router.tracker.map (fun r => (r.seq, match r.state with | .queued => .queued | .sent e => .sent (e + d))) ∧
          t.sched.state = c.sched.state ∧ t.sched.run = c.sched.run ∧ t.seq.conn = c.seq.conn ∧ t.power = c.power ∧
          t.store.tables = c.store.tables ∧ t.mgmt.requests = rest ∧
          t.mgmt.responses = (c.answered f rest .ok []).mgmt.responses))

/-- SLEEP, RESTART and RESET_SOUTH (R15, R98, R142, R143, R190, R191): a SLEEP refused by its conditions in order, or
SLEEP_ENTRY at step 3, with the normal run ended and the supervision timer stopped; a RESTART refused, or taken with its
response; and RESET_SOUTH, which in OFF does nothing, and outside PATROL takes the link through DOWN, with its completed
transactions, to WAKING with the missed-reply counts at 0. -/
def Obligations.SleepRestartAndResetSouth : Prop :=
  ∀ (c : Part) (q : List Instr) (f : Frame) (rest : List Frame),
    (c.executes f rest .sleep →
      let ready := c.power.state = .active ∧ (c.seq.conn = .opened ∨ c.seq.conn = .lockedOut)
      let normal := ∃ r, c.sched.run = some r ∧ r.kind = .normal
      let entering : Part := { c.answered f rest .ok [1] with
        power.state := .sleepEntry, power.step := .step3, power.sleepSent := false, interlock.supervision := none }
      (¬ ready → exec .sleep ⟨c, q⟩ = .next ⟨c.answered f rest .state [], q⟩) ∧
      (ready → c.store.update ≠ .idle → exec .sleep ⟨c, q⟩ = .next ⟨c.answered f rest .updating [], q⟩) ∧
      (ready → c.store.update = .idle → c.router.tracker ≠ [] →
        exec .sleep ⟨c, q⟩ = .next ⟨c.answered f rest .busy [], q⟩) ∧
      (ready → c.store.update = .idle → c.router.tracker = [] → normal →
        exec .sleep ⟨c, q⟩ = .next ⟨{ entering with
          sched.run := none, sched.hold := false, sched.holdInEffect := false }, q⟩) ∧
      (ready → c.store.update = .idle → c.router.tracker = [] → ¬ normal →
        exec .sleep ⟨c, q⟩ = .next ⟨entering, q⟩)) ∧
    (c.executes f rest .restart →
      let atRest := c.seq.conn = .opened ∨ c.seq.conn = .lockedOut
      (¬ atRest → exec .restart ⟨c, q⟩ = .next ⟨c.answered f rest .state [], q⟩) ∧
      (atRest → c.store.update ≠ .idle → exec .restart ⟨c, q⟩ = .next ⟨c.answered f rest .updating [], q⟩) ∧
      (atRest → c.store.update = .idle →
        exec .restart ⟨c, q⟩ = .next ⟨{ c with
          mgmt.requests := rest, mgmt.restart := .taken,
          mgmt.responses := c.mgmt.responses ++ [{ frame := responseFrame f .ok [], restart := true }] }, q⟩)) ∧
    (c.executes f rest .resetSouth →
      (c.south.link = .off → exec .resetSouth ⟨c, q⟩ = .next ⟨c.answered f rest .ok [0], q⟩) ∧
      (c.south.link ≠ .off → c.power.state ≠ .patrol →
        ∃ t : Part, exec .resetSouth ⟨c, q⟩ = .next ⟨t, q⟩ ∧
          t.south.link = .waking ∧ t.south.linkLost = true ∧ t.south.retry = none ∧ t.south.window = none ∧
          t.south.bringDue = some c.sched.packTime ∧ t.south.wakesSent = 0 ∧
          t.south.downEvents = min (c.south.downEvents + 1) 65535 ∧ t.south.retries = c.south.retries ∧
          t.south.replies = c.south.replies ∧ t.south.foreign = c.south.foreign ∧
          t.sched.missed = Vector.replicate 16 0 ∧ t.sched.sweeps = [] ∧ t.router.tracker = [] ∧
          t.router.southQueue = [] ∧
          t.router.forward = c.router.forward ++ c.router.tracker.map (fun x =>
            { frame := { dest := 0, source := BitVec.ofNat 8 x.logical, kind := .response, seq := x.seq, status := 134,
                         payload := [x.code] }, refusal := false }) ∧
          t.mgmt = (c.answered f rest .ok [1]).mgmt ∧ t.power.state = c.power.state ∧
          t.store.tables = c.store.tables))

/-- The update's requests (R50, R166 to R171, R175): UPD_OPEN by its conditions in order; UPD_ERASE, UPD_WRITE,
UPD_CHECK and UPD_COMMIT refused outside READY with STATE in IDLE and COMMIT_PENDING and with BUSY in ERASING, CHECKING
and SWITCHING, and in READY acting on the target bank; UPD_ABORT ending READY, CHECKING and COMMIT_PENDING. -/
def Obligations.UpdateRequestsFollowTheUpdateState : Prop :=
  ∀ (c : Part) (q : List Instr) (f : Frame) (rest : List Frame),
    let n := c.store.target
    let b := c.store.bank n
    let normal := ∃ r, c.sched.run = some r ∧ r.kind = .normal
    (c.executes f rest .updOpen →
      let active := c.power.state = .active
      let idle := c.store.update = .idle
      let atRest := c.seq.conn = .opened ∨ c.seq.conn = .lockedOut
      let service := c.lines.serviceIn = true
      let data := [BitVec.ofNat 8 (BankName.code (some n)), BitVec.ofNat 8 b.state.code,
        if c.store.staged = none then 0 else 1] ++ be 4 (c.store.staged.getD 0)
      (¬ active → exec .updOpen ⟨c, q⟩ = .next ⟨c.answered f rest .notActive [], q⟩) ∧
      (active → ¬ idle → exec .updOpen ⟨c, q⟩ = .next ⟨c.answered f rest .updating [], q⟩) ∧
      (active → idle → ¬ atRest → exec .updOpen ⟨c, q⟩ = .next ⟨c.answered f rest .state [], q⟩) ∧
      (active → idle → atRest → ¬ service → exec .updOpen ⟨c, q⟩ = .next ⟨c.answered f rest .noService [], q⟩) ∧
      (active → idle → atRest → service → c.store.copy.tamper = true →
        exec .updOpen ⟨c, q⟩ = .next ⟨c.answered f rest .tamper [], q⟩) ∧
      (active → idle → atRest → service → c.store.copy.tamper = false →
        exec .updOpen ⟨c, q⟩ = .next ⟨{ c.answered f rest .ok data with
          store.update := .ready, store.abortPending := false }, q⟩)) ∧
    (∀ r, r = .updErase ∨ r = .updWrite ∨ r = .updCheck ∨ r = .updCommit → c.executes f rest r →
      (c.store.update = .idle ∨ c.store.update = .commitPending →
        exec r.command ⟨c, q⟩ = .next ⟨c.answered f rest .state [], q⟩) ∧
      (c.store.update = .erasing ∨ c.store.update = .checking ∨ c.store.update = .switching →
        exec r.command ⟨c, q⟩ = .next ⟨c.answered f rest .busy [], q⟩)) ∧
    (c.executes f rest .updErase → c.store.update = .ready →
      exec .updErase ⟨c, q⟩ = .next ⟨{ c.answered f rest .ok [] with
        store.update := .erasing, store.eraseEnd := some (c.sched.packTime + 40000#32), store.staged := none }, q⟩) ∧
    (c.executes f rest .updWrite → c.store.update = .ready →
      let offset := f.field 1 2
      let count := f.field 3 1
      ((∀ i < count, b.bytes.read (offset + i) = 0xFF) →
        exec .updWrite ⟨c, q⟩ = .next ⟨{ c with
          mgmt.requests := rest,
          mgmt.programming := some { seq := f.seq, offset := offset, data := f.payload.drop 4 } }, q⟩) ∧
      ((∃ i < count, b.bytes.read (offset + i) ≠ 0xFF) →
        exec .updWrite ⟨c, q⟩ = .next ⟨c.answered f rest .notErased [], q⟩)) ∧
    (c.executes f rest .updCheck → c.store.update = .ready →
      (b.state = .written → exec .updCheck ⟨c, q⟩ =
        .next ⟨{ c.answered f rest .ok [] with store.update := .checking }, q⟩) ∧
      (b.state ≠ .written → exec .updCheck ⟨c, q⟩ = .next ⟨c.answered f rest .state [], q⟩)) ∧
    (c.executes f rest .updCommit → c.store.update = .ready →
      (b.state = .staged → normal → exec .updCommit ⟨c, q⟩ =
        .next ⟨{ c.answered f rest .ok [] with store.update := .commitPending, sched.hold := true }, q⟩) ∧
      (b.state = .staged → ¬ normal → exec .updCommit ⟨c, q⟩ =
        .next ⟨{ c.answered f rest .ok [] with store.update := .commitPending }, q⟩) ∧
      (b.state ≠ .staged → exec .updCommit ⟨c, q⟩ = .next ⟨c.answered f rest .state [], q⟩)) ∧
    (c.executes f rest .updAbort →
      (c.store.update = .idle → exec .updAbort ⟨c, q⟩ = .next ⟨c.answered f rest .ok [], q⟩) ∧
      (c.store.update = .ready ∨ c.store.update = .checking →
        exec .updAbort ⟨c, q⟩ = .next ⟨{ c.answered f rest .ok [] with store.update := .idle }, q⟩) ∧
      (c.store.update = .commitPending → c.sched.holdInEffect = false →
        exec .updAbort ⟨c, q⟩ =
          .next ⟨{ c.answered f rest .ok [] with store.update := .idle, sched.hold := false }, q⟩) ∧
      (c.store.update = .commitPending → c.sched.holdInEffect = true → c.sched.state = .running →
        c.south.sampling = [] →
        ∃ t : Part, exec .updAbort ⟨c, q⟩ = .next ⟨t, q⟩ ∧
          t = { c.answered f rest .ok [] with store := t.store, sched := t.sched, south := t.south } ∧
          t.store = { c.store with update := .idle } ∧ t.sched.hold = false ∧ t.sched.holdInEffect = false ∧
          ∃ r, t.sched.run = some r ∧ r.kind = .normal ∧ r.begun = true ∧ r.cycle = 0 ∧
            r.cycleStart = c.sched.packTime ∧ r.launched = []) ∧
      (c.store.update = .erasing ∨ c.store.update = .switching →
        exec .updAbort ⟨c, q⟩ = .next ⟨c.answered f rest .busy [], q⟩))
end

