-- ==== Sys2Proof/Laws/State.lean ====
section
/-!
SUPPORT. The one relation the frame lemmas are stated in, Part.Keeps: every block of the part but those listed is as
before; and how it composes along a chain of operations.
-/
namespace Sys2Proof.Machine

/-- The blocks of the part, and after them the parts of a block that a block-wide change may spare. -/
inductive Field where
  | lines | north | kindDiscards | south | router | sched | eval | interlock | seq | reports | power | store | mgmt |
  freeIndex
  | northErrors | northWire | link | replies | foreign | linkLost | southWire | tracker | southQueue | forward |
  packTime | schedState | run | sweeps | nextSweep | missed | slotMiss | objects | shunt | records | tripped |
  latches | eventClasses | supervision | silence | conn | contactors | eventQueue | powerState | powerStep | patrols
  | wakeCauses | hostWake | banks | record | recordRead | storeState | copy | activeFloor | tamperLatch | write |
  update | staged | switch | versionInUse | tables | requests | programming | responses | restart | overflow
  deriving DecidableEq

/-- Everything but the fields listed is as before. -/
abbrev Part.Keeps (touched : List Field) (c c' : Part) : Prop :=
  (.lines ∉ touched → c'.lines = c.lines) ∧
  (.north ∉ touched → c'.north = c.north) ∧
  (.kindDiscards ∉ touched → c'.kindDiscards = c.kindDiscards) ∧
  (.south ∉ touched → c'.south = c.south) ∧
  (.router ∉ touched → c'.router = c.router) ∧
  (.sched ∉ touched → c'.sched = c.sched) ∧
  (.eval ∉ touched → c'.eval = c.eval) ∧
  (.interlock ∉ touched → c'.interlock = c.interlock) ∧
  (.seq ∉ touched → c'.seq = c.seq) ∧
  (.reports ∉ touched → c'.reports = c.reports) ∧
  (.power ∉ touched → c'.power = c.power) ∧
  (.store ∉ touched → c'.store = c.store) ∧
  (.mgmt ∉ touched → c'.mgmt = c.mgmt) ∧
  (.freeIndex ∉ touched → c'.freeIndex = c.freeIndex) ∧
  (.northErrors ∉ touched → c'.north.crcErrors = c.north.crcErrors) ∧
  (.northWire ∉ touched → c'.north.wire = c.north.wire) ∧
  (.link ∉ touched → c'.south.link = c.south.link) ∧
  (.replies ∉ touched → c'.south.replies = c.south.replies) ∧
  (.foreign ∉ touched → c'.south.foreign = c.south.foreign) ∧
  (.linkLost ∉ touched → c'.south.linkLost = c.south.linkLost) ∧
  (.southWire ∉ touched → c'.south.wire = c.south.wire) ∧
  (.tracker ∉ touched → c'.router.tracker = c.router.tracker) ∧
  (.southQueue ∉ touched → c'.router.southQueue = c.router.southQueue) ∧
  (.forward ∉ touched → c'.router.forward = c.router.forward) ∧
  (.packTime ∉ touched → c'.sched.packTime = c.sched.packTime) ∧
  (.schedState ∉ touched → c'.sched.state = c.sched.state) ∧
  (.run ∉ touched → c'.sched.run = c.sched.run ∧ c'.sched.hold = c.sched.hold ∧ c'.sched.holdInEffect = c.sched.holdInEffect) ∧
  (.sweeps ∉ touched → c'.sched.sweeps = c.sched.sweeps) ∧
  (.nextSweep ∉ touched → c'.sched.nextSweep = c.sched.nextSweep) ∧
  (.missed ∉ touched → c'.sched.missed = c.sched.missed) ∧
  (.slotMiss ∉ touched → c'.sched.slotMiss = c.sched.slotMiss) ∧
  (.objects ∉ touched → c'.eval.channels = c.eval.channels ∧ c'.eval.sum = c.eval.sum ∧ c'.eval.sense = c.eval.sense ∧ c'.eval.lost = c.eval.lost) ∧
  (.shunt ∉ touched → c'.eval.shunt = c.eval.shunt) ∧
  (.records ∉ touched → c'.eval.records = c.eval.records ∧ c'.eval.recordsLost = c.eval.recordsLost) ∧
  (.tripped ∉ touched → c'.interlock.tripped = c.interlock.tripped) ∧
  (.latches ∉ touched → c'.interlock.latches = c.interlock.latches) ∧
  (.eventClasses ∉ touched → c'.interlock.events = c.interlock.events) ∧
  (.supervision ∉ touched → c'.interlock.supervision = c.interlock.supervision) ∧
  (.silence ∉ touched → c'.interlock.silence = c.interlock.silence) ∧
  (.conn ∉ touched → c'.seq.conn = c.seq.conn) ∧
  (.contactors ∉ touched → c'.seq.kPos = c.seq.kPos ∧ c'.seq.kNeg = c.seq.kNeg ∧ c'.seq.kPre = c.seq.kPre) ∧
  (.eventQueue ∉ touched → c'.seq.events = c.seq.events ∧ c'.seq.nextEvent = c.seq.nextEvent ∧ c'.seq.overwritten = c.seq.overwritten) ∧
  (.powerState ∉ touched → c'.power.state = c.power.state) ∧
  (.powerStep ∉ touched → c'.power.step = c.power.step) ∧
  (.patrols ∉ touched → c'.power.patrols = c.power.patrols) ∧
  (.wakeCauses ∉ touched → c'.power.causes = c.power.causes) ∧
  (.hostWake ∉ touched → c'.power.hostWake = c.power.hostWake) ∧
  (.banks ∉ touched → c'.store.bankA = c.store.bankA ∧ c'.store.bankB = c.store.bankB) ∧
  (.record ∉ touched → c'.store.record = c.store.record) ∧
  (.recordRead ∉ touched → c'.store.recordRead = c.store.recordRead) ∧
  (.storeState ∉ touched → c'.store.state = c.store.state) ∧
  (.copy ∉ touched → c'.store.copy = c.store.copy) ∧
  (.activeFloor ∉ touched → c'.store.copy.active = c.store.copy.active ∧ c'.store.copy.floor = c.store.copy.floor) ∧
  (.tamperLatch ∉ touched → c'.store.copy.tamper = c.store.copy.tamper) ∧
  (.write ∉ touched → c'.store.write = c.store.write) ∧
  (.update ∉ touched → c'.store.update = c.store.update) ∧
  (.staged ∉ touched → c'.store.staged = c.store.staged) ∧
  (.switch ∉ touched → c'.store.switch = c.store.switch) ∧
  (.versionInUse ∉ touched → c'.store.versionInUse = c.store.versionInUse) ∧
  (.tables ∉ touched → c'.store.tables = c.store.tables) ∧
  (.requests ∉ touched → c'.mgmt.requests = c.mgmt.requests) ∧
  (.programming ∉ touched → c'.mgmt.programming = c.mgmt.programming) ∧
  (.responses ∉ touched → c'.mgmt.responses = c.mgmt.responses) ∧
  (.restart ∉ touched → c'.mgmt.restart = c.mgmt.restart) ∧
  (.overflow ∉ touched → c'.mgmt.overflow = c.mgmt.overflow)

theorem Part.Keeps.refl (t : List Field) (c : Part) : Part.Keeps t c c := by simp [Part.Keeps]

theorem Part.Keeps.trans {t : List Field} {a b c : Part} (h : Part.Keeps t a b) (h' : Part.Keeps t b c) :
    Part.Keeps t a c := by
  simp +contextual only [Part.Keeps, h, h', not_false_eq_true, and_self, implies_true]

theorem Part.Keeps.mono {t t' : List Field} {a b : Part} (h : Part.Keeps t a b) (s : t ⊆ t') : Part.Keeps t' a b := by
  have s' : ∀ f, f ∉ t' → f ∉ t := fun f hn hm => hn (s hm)
  simp +contextual only [Part.Keeps, h, s', not_false_eq_true, and_self, implies_true]

/-- Two steps one after the other, inside a wider list of fields. -/
theorem Part.Keeps.step {t t' u : List Field} {a b c : Part} (h : Part.Keeps t a b) (h' : Part.Keeps t' b c)
    (s : t ⊆ u := by decide) (s' : t' ⊆ u := by decide) : Part.Keeps u a c := (h.mono s).trans (h'.mono s')

/-- A fold of steps that each spare the same fields spares them. -/
theorem Part.Keeps.foldl {α : Type} {t : List Field} {f : Part → α → Part} (h : ∀ c x, Part.Keeps t c (f c x))
    (l : List α) (c : Part) : Part.Keeps t c (l.foldl f c) := by
  induction l generalizing c with
  | nil => exact .refl t c
  | cons x l ih => exact (h c x).trans (ih (f c x))

/-- The same for a fold that carries a tally beside the part. -/
theorem Part.Keeps.foldl_fst {α β : Type} {t : List Field} {f : Part × β → α → Part × β}
    (h : ∀ c x, Part.Keeps t c.1 (f c x).1) (l : List α) (c : Part × β) : Part.Keeps t c.1 (l.foldl f c).1 := by
  induction l generalizing c with
  | nil => exact .refl t c.1
  | cons x l ih => exact (h c x).trans (ih (f c x))

end Sys2Proof.Machine
end

