-- ==== Sys2Proof/Laws/Ops.lean ====
section
/-!
SUPPORT. What each operation of Machine/Ops.lean leaves as it was.
-/
namespace Sys2Proof.Machine

@[simp] theorem Part.useFree_keeps (c : Part) : Part.Keeps [.freeIndex] c (Part.useFree c) := by
  simp [Part.Keeps, Part.useFree]

@[simp] theorem Part.handFill_keeps (c : Part) : Part.Keeps [.sched] c (Part.handFill c) := by
  simp [Part.Keeps, Part.handFill]

@[simp] theorem Part.admitReport_keeps (cls : ReportClass) (f : Frame) (c : Part) : Part.Keeps [.sched,
    .reports] c (Part.admitReport cls f c) := by
  simp [Part.Keeps, Part.admitReport]

@[simp] theorem Part.offerReport_keeps (cls : ReportClass) (payload : List Byte) (c : Part) : Part.Keeps
    [.sched, .reports] c (Part.offerReport cls payload c) := by
  unfold Part.offerReport; dsimp only; (repeat' split) <;> simp [Part.Keeps]

@[simp] theorem Part.offerAnswer_keeps (payload : List Byte) (c : Part) : Part.Keeps [.sched, .reports] c
    (Part.offerAnswer payload c) := by
  unfold Part.offerAnswer; (repeat' split) <;> simp [Part.Keeps]

@[simp] theorem Part.holdAnswers_keeps (c : Part) : Part.Keeps [.reports] c (Part.holdAnswers c) := by
  simp [Part.Keeps, Part.holdAnswers]

@[simp] theorem Part.releaseAnswers_keeps (c : Part) : Part.Keeps [.sched, .reports] c (Part.releaseAnswers c) := by
  unfold Part.releaseAnswers
  exact Part.Keeps.trans (b := { c with reports.held := none }) (by simp [Part.Keeps])
    (.foldl (fun c p => Part.offerReport_keeps .priority p c) _ _)

@[simp] theorem Part.offerFault_keeps (k : FaultClass) (payload : List Byte) (c : Part) : Part.Keeps [.sched, .reports] c
    (Part.offerFault k payload c) := by
  unfold Part.offerFault; (repeat' split) <;> simp [Part.Keeps]

@[simp] theorem Part.recordTrip_keeps (k : FaultKey) (t : Time) (v : Option Int) (c : Part) : Part.Keeps
    [.sched, .eval, .records, .reports] c (Part.recordTrip k t v c) := by
  unfold Part.recordTrip; dsimp only; (repeat' split) <;> simp [Part.Keeps]

@[simp] theorem Part.recordClear_keeps (k : FaultKey) (t : Time) (c : Part) : Part.Keeps [.sched, .eval,
    .records, .reports] c (Part.recordClear k t c) := by
  unfold Part.recordClear; dsimp only; (repeat' split) <;> simp [Part.Keeps]

@[simp] theorem Part.recordOffer_keeps (k : FaultKey) (v : Int) (c : Part) : Part.Keeps [.eval, .records] c
    (Part.recordOffer k v c) := by
  unfold Part.recordOffer; simp [Part.Keeps]

@[simp] theorem Part.requestWrite_keeps (c : Part) : Part.Keeps [.store, .write] c (Part.requestWrite c) := by
  unfold Part.requestWrite; (repeat' split) <;> simp [Part.Keeps]

@[simp] theorem Part.driveFaultOut_keeps (c : Part) : Part.Keeps [.interlock] c (Part.driveFaultOut c) := by
  simp [Part.Keeps, Part.driveFaultOut]

@[simp] theorem Part.appendEvent_keeps (kind : EventKind) (k : Option Contactor) (cause : Cause) (before after :
    ConnState) (current linkVoltage : Option Int) (c : Part) : Part.Keeps [.sched, .seq, .eventQueue, .reports] c
    (Part.appendEvent kind k cause before after current linkVoltage c) := by
  unfold Part.appendEvent; dsimp only; (repeat' split) <;> simp [Part.Keeps]

@[simp] theorem Part.logEvent_keeps (kind : EventKind) (k : Option Contactor) (cause : Cause) (before after :
    ConnState) (c : Part) : Part.Keeps [.sched, .seq, .eventQueue, .reports] c (Part.logEvent kind k cause before
    after c) := by
  simp [Part.Keeps, Part.logEvent]

@[simp] theorem Part.respond_keeps (req : Frame) (st : Status) (data : List Byte) (c : Part) : Part.Keeps
    [.mgmt, .responses] c (Part.respond req st data c) := by
  simp [Part.Keeps, Part.respond]

end Sys2Proof.Machine
end

