-- ==== Sys2Proof/Laws/Contactors.lean ====
section
/-!
SUPPORT. What each operation of Machine/Contactors.lean leaves as it was.
-/
namespace Sys2Proof.Machine

@[simp] theorem Part.withContactor_keeps (c : Part) (k : Contactor) (x : ContactorState) : Part.Keeps [.seq,
    .contactors] c (Part.withContactor c k x) := by
  cases k <;> simp [Part.Keeps, Part.withContactor, Sequencer.withContactor]

@[simp] theorem Part.drive_keeps (k : Contactor) (v : Bool) (c : Part) : Part.Keeps [.seq, .contactors] c
    (Part.drive k v c) := by
  unfold Part.drive; (repeat' split) <;> simp [Part.Keeps]

@[simp] theorem Part.openDrives_keeps (c : Part) : Part.Keeps [.seq, .contactors] c (Part.openDrives c) := by
  simp [Part.Keeps, Part.openDrives]

@[simp] theorem Part.updateWatch_keeps (k : Contactor) (c : Part) : Part.Keeps [.seq, .contactors] c
    (Part.updateWatch k c) := by
  unfold Part.updateWatch; dsimp only; (repeat' split) <;> simp [Part.Keeps]

@[simp] theorem Part.updateWatches_keeps (c : Part) : Part.Keeps [.seq, .contactors] c (Part.updateWatches c) :=
    by
  simp [Part.Keeps, Part.updateWatches]

@[simp] theorem Part.setPending_keeps (k : FaultClass) (c : Part) : Part.Keeps [.seq] c (Part.setPending k c) :=
    by
  unfold Part.setPending; (repeat' split) <;> simp [Part.Keeps]

@[simp] theorem Part.enterLockedOut_keeps (before : ConnState) (c : Part) : Part.Keeps [.sched, .interlock,
    .seq, .conn, .contactors, .eventQueue, .reports, .store, .copy, .write] c (Part.enterLockedOut before c) := by
  simp [Part.Keeps, Part.enterLockedOut]

@[simp] theorem Part.endOpening_keeps (c : Part) : Part.Keeps [.sched, .interlock, .seq, .conn, .contactors,
    .eventQueue, .reports, .store, .copy, .write] c (Part.endOpening c) := by
  unfold Part.endOpening; dsimp only; (repeat' split) <;> simp [Part.Keeps]

@[simp] theorem Part.advanceOpening_keeps (c : Part) : Part.Keeps [.sched, .interlock, .seq, .conn, .contactors,
    .eventQueue, .reports, .store, .copy, .write] c (Part.advanceOpening c) := by
  unfold Part.advanceOpening; dsimp only; (repeat' split) <;> simp [Part.Keeps]

@[simp] theorem Part.enterOpening_keeps (cause : Cause) (c : Part) : Part.Keeps [.seq, .conn, .contactors] c
    (Part.enterOpening cause c) := by
  unfold Part.enterOpening; dsimp only; (repeat' split) <;> simp [Part.Keeps]

@[simp] theorem Part.startOpening_keeps (cause : Cause) (c : Part) : Part.Keeps [.sched, .interlock, .seq,
    .conn, .contactors, .eventQueue, .reports, .store, .copy, .write] c (Part.startOpening cause c) := by
  simp [Part.Keeps, Part.startOpening]

@[simp] theorem Part.enterSoftOpening_keeps (cause : Cause) (c : Part) : Part.Keeps [.seq, .conn] c
    (Part.enterSoftOpening cause c) := by
  simp [Part.Keeps, Part.enterSoftOpening]

@[simp] theorem Part.enterClosed_keeps (c : Part) : Part.Keeps [.sched, .seq, .conn, .eventQueue, .reports] c
    (Part.enterClosed c) := by
  simp [Part.Keeps, Part.enterClosed]

@[simp] theorem Part.advanceMain_keeps (c : Part) : Part.Keeps [.sched, .seq, .conn, .contactors, .eventQueue,
    .reports] c (Part.advanceMain c) := by
  unfold Part.advanceMain; dsimp only; (repeat' split) <;> simp [Part.Keeps]

@[simp] theorem Part.enterMain_keeps (c : Part) : Part.Keeps [.sched, .seq, .conn, .contactors, .eventQueue,
    .reports] c (Part.enterMain c) := by
  simp [Part.Keeps, Part.enterMain]

@[simp] theorem Part.enterPrecharging_keeps (c : Part) : Part.Keeps [.seq, .conn] c (Part.enterPrecharging c) :=
    by
  simp [Part.Keeps, Part.enterPrecharging]

@[simp] theorem Part.advanceNeg_keeps (c : Part) : Part.Keeps [.seq, .conn, .contactors] c (Part.advanceNeg c)
    := by
  unfold Part.advanceNeg; dsimp only; (repeat' split) <;> simp [Part.Keeps]

@[simp] theorem Part.enterNeg_keeps (c : Part) : Part.Keeps [.seq, .conn, .contactors] c (Part.enterNeg c) := by
  simp [Part.Keeps, Part.enterNeg]

@[simp] theorem Part.advance_keeps (c : Part) : Part.Keeps [.sched, .interlock, .seq, .conn, .contactors,
    .eventQueue, .reports, .store, .copy, .write] c (Part.advance c) := by
  unfold Part.advance; (repeat' split) <;> simp [Part.Keeps]

@[simp] theorem Part.abortToOpen_keeps (cause : Cause) (c : Part) : Part.Keeps [.sched, .seq, .conn,
    .contactors, .eventQueue, .reports] c (Part.abortToOpen cause c) := by
  simp [Part.Keeps, Part.abortToOpen]

@[simp] theorem Part.takeAction_keeps (a : Action) (c : Part) : Part.Keeps [.sched, .interlock, .seq, .conn,
    .contactors, .eventQueue, .reports, .store, .copy, .write] c (Part.takeAction a c) := by
  unfold Part.takeAction
  dsimp only
  split
  · simp [Part.Keeps]
  generalize (c.dueClass a).getD .contactorFault = due
  generalize hc1 : (if a = .lockout ∧ c.seq.conn ≠ .lockedOut then { c with seq.pendingLockout := some due } else c : Part) = c1
  have h1 : Part.Keeps [.seq] c c1 := by subst hc1; split <;> simp [Part.Keeps]
  have kept := h1.step (u := [.sched, .interlock, .seq, .conn, .contactors, .eventQueue, .reports, .store, .copy, .write])
    (.refl [] c1)
  have opens := h1.step (u := [.sched, .interlock, .seq, .conn, .contactors, .eventQueue, .reports, .store, .copy, .write])
    (Part.startOpening_keeps (.cls due) c1)
  have aborts := h1.step (u := [.sched, .interlock, .seq, .conn, .contactors, .eventQueue, .reports, .store, .copy, .write])
    (Part.abortToOpen_keeps (.cls due) c1)
  cases c.seq.conn
  case opened => dsimp only; split; exacts [h1.step (Part.enterLockedOut_keeps .opened c1), kept]
  case negClosing => dsimp only; split; exacts [aborts.step (Part.enterLockedOut_keeps _ _), aborts]
  case precharging => dsimp only; split; exacts [aborts.step (Part.enterLockedOut_keeps _ _), aborts]
  case mainClosing => exact opens
  case closed =>
    cases a
    case openSoft => exact h1.step (Part.enterSoftOpening_keeps (.cls due) c1)
    case openNow => exact opens
    case lockout => exact opens
    all_goals exact kept
  case softOpening =>
    cases a
    case openNow => exact opens
    case lockout => exact opens
    all_goals exact kept
  case opening => exact kept
  case lockedOut => exact kept

@[simp] theorem Part.softDisconnect_keeps (c : Part) : Part.Keeps [.sched, .interlock, .seq, .conn, .contactors,
    .eventQueue, .reports, .store, .copy, .write] c (Part.softDisconnect c) := by
  unfold Part.softDisconnect; (repeat' split) <;> simp [Part.Keeps]

@[simp] theorem Part.hardDisconnect_keeps (c : Part) : Part.Keeps [.sched, .interlock, .seq, .conn, .contactors,
    .eventQueue, .reports, .store, .copy, .write] c (Part.hardDisconnect c) := by
  unfold Part.hardDisconnect; (repeat' split) <;> simp [Part.Keeps]

end Sys2Proof.Machine
end

