-- ==== Sys2Proof/Laws/Runs.lean ====
section
/-!
SUPPORT. What each operation of Machine/Runs.lean leaves as it was.
-/
namespace Sys2Proof.Machine

@[simp] theorem Part.syncDue_keeps (t : Time) (c : Part) : Part.Keeps [.south] c (Part.syncDue t c) := by
  unfold Part.syncDue; (repeat' split) <;> simp [Part.Keeps]

@[simp] theorem Part.supercycle_keeps (t : Time) (c : Part) : Part.Keeps [.south, .sched, .run] c
    (Part.supercycle t c) := by
  unfold Part.supercycle; (repeat' split) <;> simp [Part.Keeps]

@[simp] theorem Part.beginRun_keeps (r : Run) (c : Part) : Part.Keeps [.south, .sched, .run] c (Part.beginRun r
    c) := by
  simp [Part.Keeps, Part.beginRun]

@[simp] theorem Part.startRun_keeps (kind : RunKind) (hold : Bool) (c : Part) : Part.Keeps [.south, .sched,
    .run] c (Part.startRun kind hold c) := by
  unfold Part.startRun; dsimp only; (repeat' split) <;> simp [Part.Keeps]

@[simp] theorem Part.startNormalRun_keeps (hold : Bool) (c : Part) : Part.Keeps [.south, .sched, .run] c
    (Part.startNormalRun hold c) := by
  unfold Part.startNormalRun; (repeat' split) <;> simp [Part.Keeps]

@[simp] theorem Part.settleRun_keeps (c : Part) : Part.Keeps [.south, .sched, .run] c (Part.settleRun c) := by
  unfold Part.settleRun; (repeat' split) <;> simp [Part.Keeps]

@[simp] theorem Part.endRun_keeps (c : Part) : Part.Keeps [.sched, .run] c (Part.endRun c) := by
  simp [Part.Keeps, Part.endRun]

@[simp] theorem Part.endNormalRun_keeps (c : Part) : Part.Keeps [.sched, .run] c (Part.endNormalRun c) := by
  unfold Part.endNormalRun; (repeat' split) <;> simp [Part.Keeps]

@[simp] theorem Part.releaseHold_keeps (c : Part) : Part.Keeps [.south, .sched, .run] c (Part.releaseHold c) :=
    by
  unfold Part.releaseHold; dsimp only; (repeat' split) <;> simp [Part.Keeps]

@[simp] theorem Part.abortSweeps_keeps (p : Sweep → Bool) (c : Part) : Part.Keeps [.south, .sched, .run,
    .sweeps] c (Part.abortSweeps p c) := by
  simp [Part.Keeps, Part.abortSweeps]

@[simp] theorem Part.dropSampling_keeps (c : Part) : Part.Keeps [.south, .sched, .run, .sweeps] c
    (Part.dropSampling c) := by
  simp [Part.Keeps, Part.dropSampling]

@[simp] theorem Part.enterWaking_keeps (c : Part) : Part.Keeps [.south, .link, .sched, .run, .sweeps] c
    (Part.enterWaking c) := by
  simp [Part.Keeps, Part.enterWaking]

@[simp] theorem Part.restartSupervision_keeps (c : Part) : Part.Keeps [.interlock, .supervision] c
    (Part.restartSupervision c) := by
  simp [Part.Keeps, Part.restartSupervision]

@[simp] theorem Part.addCause_keeps (w : WakeCause) (c : Part) : Part.Keeps [.power, .wakeCauses] c
    (Part.addCause w c) := by
  simp [Part.Keeps, Part.addCause]

@[simp] theorem Part.powerReport_keeps (left : PowerState) (escalated : Bool) (c : Part) : Part.Keeps [.sched,
    .reports, .power, .wakeCauses, .hostWake] c (Part.powerReport left escalated c) := by
  unfold Part.powerReport; dsimp only; (repeat' split) <;> simp [Part.Keeps]

@[simp] theorem Part.abandonEntry_keeps (w : WakeCause) (c : Part) : Part.Keeps [.south, .link, .sched, .run,
    .sweeps, .interlock, .supervision, .reports, .power, .powerState, .powerStep, .wakeCauses, .hostWake] c
    (Part.abandonEntry w c) := by
  simp [Part.Keeps, Part.abandonEntry]

@[simp] theorem Part.escalate_keeps (w : WakeCause) (cls : Option FaultClass) (c : Part) : Part.Keeps [.south,
    .link, .sched, .run, .sweeps, .interlock, .supervision, .reports, .power, .powerState, .powerStep, .wakeCauses,
    .hostWake] c (Part.escalate w cls c) := by
  unfold Part.escalate; dsimp only; (repeat' split) <;> simp [Part.Keeps]

end Sys2Proof.Machine
end

