-- ==== Sys2Proof/Laws/Interlock.lean ====
section
/-!
SUPPORT. What each operation of Machine/Interlock.lean leaves as it was.
-/
namespace Sys2Proof.Machine

@[simp] theorem Part.refreshAction_keeps (c : Part) : Part.Keeps [.sched, .interlock, .seq, .conn, .contactors,
    .eventQueue, .reports, .store, .copy, .write] c (Part.refreshAction c) := by
  unfold Part.refreshAction; dsimp only; (repeat' split) <;> simp [Part.Keeps]

@[simp] theorem Part.formAction_keeps (f : Forming) (c : Part) : Part.Keeps [.sched, .interlock, .seq, .conn, .contactors,
    .eventQueue, .reports, .store, .copy, .write] c (Part.formAction f c) := by
  cases f <;> simp [Part.Keeps, Part.formAction]

@[simp] theorem Part.notice_keeps (k : FaultClass) (c : Part) : Part.Keeps [.south, .link, .sched, .run,
    .sweeps, .interlock, .supervision, .reports, .power, .powerState, .powerStep, .wakeCauses, .hostWake] c
    (Part.notice k c) := by
  unfold Part.notice; (repeat' split) <;> simp [Part.Keeps]

@[simp] theorem Part.countTrip_keeps (o : FaultObject) (c : Part) (f : Forming) : Part.Keeps [.sched, .interlock, .tripped,
    .latches, .seq, .conn, .contactors, .eventQueue, .reports, .store, .copy, .write] c (Part.countTrip o c f) := by
  unfold Part.countTrip; (repeat' split) <;> simp [Part.Keeps]

@[simp] theorem Part.tripObject_keeps (o : FaultObject) (c : Part) (f : Forming) : Part.Keeps [.south, .link, .sched, .run,
    .sweeps, .interlock, .tripped, .latches, .supervision, .seq, .conn, .contactors, .eventQueue, .reports, .power,
    .powerState, .powerStep, .wakeCauses, .hostWake, .store, .copy, .write] c (Part.tripObject o c f) := by
  unfold Part.tripObject; (repeat' split) <;> simp [Part.Keeps]

@[simp] theorem Part.clearObject_keeps (o : FaultObject) (c : Part) (f : Forming) : Part.Keeps [.sched, .interlock, .tripped,
    .seq, .conn, .contactors, .eventQueue, .reports, .store, .copy, .write] c (Part.clearObject o c f) := by
  unfold Part.clearObject; (repeat' split) <;> simp [Part.Keeps]

@[simp] theorem Part.setCondition_keeps (k : FaultClass) (c : Part) : Part.Keeps [.south, .link, .sched, .run,
    .sweeps, .eval, .records, .interlock, .tripped, .latches, .supervision, .seq, .conn, .contactors, .eventQueue,
    .reports, .power, .powerState, .powerStep, .wakeCauses, .hostWake, .store, .copy, .write] c (Part.setCondition k
    c) := by
  simp [Part.Keeps, Part.setCondition]

@[simp] theorem Part.clearCondition_keeps (k : FaultClass) (c : Part) : Part.Keeps [.sched, .eval, .records,
    .interlock, .tripped, .seq, .conn, .contactors, .eventQueue, .reports, .store, .copy, .write] c
    (Part.clearCondition k c) := by
  simp [Part.Keeps, Part.clearCondition]

@[simp] theorem Part.eventClass_keeps (k : FaultClass) (c : Part) : Part.Keeps [.south, .link, .sched, .run,
    .sweeps, .eval, .records, .interlock, .eventClasses, .supervision, .seq, .conn, .contactors, .eventQueue,
    .reports, .power, .powerState, .powerStep, .wakeCauses, .hostWake, .store, .copy, .write] c (Part.eventClass k
    c) := by
  unfold Part.eventClass; dsimp only; (repeat' split) <;> simp [Part.Keeps]

@[simp] theorem Part.clearSilence_keeps (c : Part) : Part.Keeps [.sched, .eval, .records, .interlock, .tripped,
    .silence, .seq, .conn, .contactors, .eventQueue, .reports, .store, .copy, .write] c (Part.clearSilence c) := by
  unfold Part.clearSilence; (repeat' split) <;> simp [Part.Keeps]

@[simp] theorem Part.ackClass_keeps (k : FaultClass) (c : Part) : Part.Keeps [.sched, .eval, .records,
    .interlock, .latches, .eventClasses, .reports] c (Part.ackClass k c) := by
  unfold Part.ackClass; (repeat' split) <;> simp [Part.Keeps]

@[simp] theorem Part.ackFaults_keeps (s : ClassSet) (c : Part) : Part.Keeps [.sched, .eval, .records,
    .interlock, .latches, .eventClasses, .seq, .conn, .contactors, .eventQueue, .reports, .store, .copy, .write] c
    (Part.ackFaults s c) := by
  unfold Part.ackFaults
  exact (Part.Keeps.foldl (fun c k => Part.ackClass_keeps k c) _ c).step (Part.refreshAction_keeps _)

@[simp] theorem Part.readRecord_keeps (c : Part) : Part.Keeps [.south, .link, .sched, .run, .sweeps, .eval,
    .records, .interlock, .tripped, .latches, .supervision, .seq, .conn, .contactors, .eventQueue, .reports, .power,
    .powerState, .powerStep, .wakeCauses, .hostWake, .store, .recordRead, .copy, .activeFloor, .tamperLatch, .write]
    c (Part.readRecord c) := by
  unfold Part.readRecord; dsimp only; (repeat' split) <;> simp [Part.Keeps]

@[simp] theorem Part.faultTransition_keeps (kind : EventKind) (k : Contactor) (cause : Cause) (c : Part) :
    Part.Keeps [.sched, .interlock, .seq, .conn, .contactors, .eventQueue, .reports, .store, .copy, .write] c
    (Part.faultTransition kind k cause c) := by
  unfold Part.faultTransition; dsimp only; (repeat' split) <;> simp [Part.Keeps]

@[simp] theorem Part.contactorFault_keeps (kind : EventKind) (k : Contactor) (cause : Cause) (c : Part) :
    Part.Keeps [.south, .link, .sched, .run, .sweeps, .eval, .records, .interlock, .tripped, .latches,
    .eventClasses, .supervision, .seq, .conn, .contactors, .eventQueue, .reports, .power, .powerState, .powerStep,
    .wakeCauses, .hostWake, .store, .recordRead, .copy, .activeFloor, .tamperLatch, .write] c (Part.contactorFault
    kind k cause c) := by
  unfold Part.contactorFault; dsimp only; (repeat' split) <;> simp [Part.Keeps]

@[simp] theorem Part.prechargeFail_keeps (c : Part) : Part.Keeps [.south, .link, .sched, .run, .sweeps, .eval,
    .records, .interlock, .eventClasses, .supervision, .seq, .conn, .contactors, .eventQueue, .reports, .power,
    .powerState, .powerStep, .wakeCauses, .hostWake, .store, .copy, .write] c (Part.prechargeFail c) := by
  simp [Part.Keeps, Part.prechargeFail]

@[simp] theorem Part.prechargeTest_keeps (r : ShuntReading) (c : Part) : Part.Keeps [.south, .link, .sched,
    .run, .sweeps, .eval, .records, .interlock, .eventClasses, .supervision, .seq, .conn, .contactors, .eventQueue,
    .reports, .power, .powerState, .powerStep, .wakeCauses, .hostWake, .store, .copy, .write] c (Part.prechargeTest
    r c) := by
  unfold Part.prechargeTest; dsimp only; (repeat' split) <;> simp [Part.Keeps]

@[simp] theorem Part.softOpenTest_keeps (r : ShuntReading) (c : Part) : Part.Keeps [.sched, .interlock, .seq,
    .conn, .contactors, .eventQueue, .reports, .store, .copy, .write] c (Part.softOpenTest r c) := by
  unfold Part.softOpenTest; (repeat' split) <;> simp [Part.Keeps]

@[simp] theorem Part.newReading_keeps (r : ShuntReading) (c : Part) : Part.Keeps [.south, .link, .sched, .run,
    .sweeps, .eval, .records, .interlock, .eventClasses, .supervision, .seq, .conn, .contactors, .eventQueue,
    .reports, .power, .powerState, .powerStep, .wakeCauses, .hostWake, .store, .copy, .write] c (Part.newReading r
    c) := by
  unfold Part.newReading; (repeat' split) <;> simp [Part.Keeps]

end Sys2Proof.Machine
end

