-- ==== Sys2Proof/Laws/Evaluator.lean ====
section
/-!
SUPPORT. What each operation of Machine/Evaluator.lean leaves as it was.
-/
namespace Sys2Proof.Machine

@[simp] theorem Part.handChange_keeps (ch : Change) (key : Direction → FaultKey) (t : Time) (v : Option Int) (c
    : Part) (f : Forming) : Part.Keeps [.south, .link, .sched, .run, .sweeps, .eval, .records, .interlock, .tripped, .latches,
    .supervision, .seq, .conn, .contactors, .eventQueue, .reports, .power, .powerState, .powerStep, .wakeCauses,
    .hostWake, .store, .copy, .write] c (Part.handChange ch key t v c f) := by
  unfold Part.handChange; (repeat' split) <;> simp [Part.Keeps]

@[simp] theorem Part.feedChannel_keeps (run : RunKind) (s : Time) (kind : ModuleKind) (p : Nat) (x : ChanValue)
    (ct : Part × Tally) : Part.Keeps [.south, .link, .sched, .run, .sweeps, .eval, .objects, .records, .interlock,
    .tripped, .latches, .supervision, .seq, .conn, .contactors, .eventQueue, .reports, .power, .powerState,
    .powerStep, .wakeCauses, .hostWake, .store, .copy, .write] ct.1 (Part.feedChannel run s kind p x ct).1 := by
  unfold Part.feedChannel; dsimp only; (repeat' split) <;> simp [Part.Keeps, Evaluator.setChannel]

@[simp] theorem Part.feedSense_keeps (run : RunKind) (s : Time) (p : Nat) (faulty : Bool) (ct : Part × Tally) :
    Part.Keeps [.south, .link, .sched, .run, .sweeps, .eval, .objects, .records, .interlock, .tripped, .latches,
    .supervision, .seq, .conn, .contactors, .eventQueue, .reports, .power, .powerState, .powerStep, .wakeCauses,
    .hostWake, .store, .copy, .write] ct.1 (Part.feedSense run s p faulty ct).1 := by
  unfold Part.feedSense; dsimp only; (repeat' split) <;> simp [Part.Keeps]

@[simp] theorem Part.feedSum_keeps (run : RunKind) (s : Time) (v : Int) (ct : Part × Tally) : Part.Keeps
    [.south, .link, .sched, .run, .sweeps, .eval, .objects, .records, .interlock, .tripped, .latches, .supervision,
    .seq, .conn, .contactors, .eventQueue, .reports, .power, .powerState, .powerStep, .wakeCauses, .hostWake,
    .store, .copy, .write] ct.1 (Part.feedSum run s v ct).1 := by
  unfold Part.feedSum; dsimp only; (repeat' split) <;> simp [Part.Keeps]

@[simp] theorem Part.feedLost_keeps (run : RunKind) (p : Nat) (missed : Bool) (c : Part) (f : Forming) : Part.Keeps [.south,
    .link, .sched, .run, .sweeps, .eval, .objects, .records, .interlock, .tripped, .latches, .supervision, .seq,
    .conn, .contactors, .eventQueue, .reports, .power, .powerState, .powerStep, .wakeCauses, .hostWake, .store,
    .copy, .write] c (Part.feedLost run p missed c f) := by
  simp [Part.Keeps, Part.feedLost]

@[simp] theorem Part.writeShunt_keeps (w : Sweep) (v : PositionValues) (c : Part) : Part.Keeps [.south, .link,
    .sched, .run, .sweeps, .eval, .shunt, .records, .interlock, .eventClasses, .supervision, .seq, .conn,
    .contactors, .eventQueue, .reports, .power, .powerState, .powerStep, .wakeCauses, .hostWake, .store, .copy,
    .write] c (Part.writeShunt w v c) := by
  unfold Part.writeShunt; dsimp only; (repeat' split) <;> simp [Part.Keeps]

@[simp] theorem Part.evalPosition_keeps (w : Sweep) (x : MapEntry × PositionValues) (ct : Part × Tally) :
    Part.Keeps [.south, .link, .sched, .run, .sweeps, .eval, .objects, .shunt, .records, .interlock, .tripped,
    .latches, .eventClasses, .supervision, .seq, .conn, .contactors, .eventQueue, .reports, .power, .powerState,
    .powerStep, .wakeCauses, .hostWake, .store, .copy, .write] ct.1 (Part.evalPosition w x ct).1 := by
  unfold Part.evalPosition
  dsimp only
  have fed := Part.Keeps.foldl_fst
    (fun ct v => Part.feedChannel_keeps w.runKind w.sampleTime x.1.kind x.1.position v ct) x.2.channels ct
  have sensed := fed.step (u := [.south, .link, .sched, .run, .sweeps, .eval, .objects, .records, .interlock, .tripped, .latches, .supervision, .seq, .conn, .contactors, .eventQueue, .reports, .power, .powerState, .powerStep, .wakeCauses, .hostWake, .store, .copy, .write]) (Part.feedSense_keeps w.runKind w.sampleTime x.1.position x.2.faulty _)
  split
  · exact sensed.step (.refl [] _)
  · exact sensed.step (Part.writeShunt_keeps w x.2 _)

@[simp] theorem Part.evaluate_keeps (w : Sweep) (c : Part) : Part.Keeps [.south, .link, .sched, .run, .sweeps,
    .eval, .objects, .shunt, .records, .interlock, .tripped, .latches, .eventClasses, .supervision, .seq, .conn,
    .contactors, .eventQueue, .reports, .power, .powerState, .powerStep, .wakeCauses, .hostWake, .store, .copy,
    .write] c (Part.evaluate w c).1 := by
  have stepOne := Part.Keeps.foldl_fst (fun ct x => Part.evalPosition_keeps w x ct) (w.replies c.tables) (c, ({} : Tally))
  unfold Part.evaluate
  dsimp only
  split
  · exact stepOne.step (Part.feedSum_keeps w.runKind w.sampleTime _ _)
  · exact stepOne

@[simp] theorem Part.clearRecords_keeps (c : Part) : Part.Keeps [.sched, .eval, .records, .reports] c
    (Part.clearRecords c) := by
  unfold Part.clearRecords
  exact .foldl (fun c k => Part.recordClear_keeps k c.now c) _ c

@[simp] theorem Part.objectsToNormal_keeps (c : Part) (f : Forming) : Part.Keeps [.sched, .missed, .eval, .objects, .records,
    .interlock, .tripped, .seq, .conn, .contactors, .eventQueue, .reports, .store, .copy, .write] c
    (Part.objectsToNormal c f) := by
  simp [Part.Keeps, Part.objectsToNormal]

@[simp] theorem Part.removeRecords_keeps (c : Part) : Part.Keeps [.eval, .records] c (Part.removeRecords c) :=
    by
  simp [Part.Keeps, Part.removeRecords]

end Sys2Proof.Machine
end

