-- ==== Sys2Proof/Laws/Router.lean ====
section
/-!
SUPPORT. What each operation of Machine/Router.lean leaves as it was.
-/
namespace Sys2Proof.Machine

@[simp] theorem Part.addOutcome_keeps (f : Frame) (c : Part) : Part.Keeps [.router, .forward] c (Part.addOutcome
    f c) := by
  simp [Part.Keeps, Part.addOutcome]

@[simp] theorem Part.addRefusal_keeps (f : Frame) (c : Part) : Part.Keeps [.router, .forward] c (Part.addRefusal
    f c) := by
  unfold Part.addRefusal; (repeat' split) <;> simp [Part.Keeps]

@[simp] theorem Part.refuse_keeps (f : Frame) (st : SynthStatus) (payload : List Byte) (c : Part) : Part.Keeps
    [.router, .forward] c (Part.refuse f st payload c) := by
  simp [Part.Keeps, Part.refuse]

@[simp] theorem Part.forwardTracked_keeps (f : Frame) (position : Nat) (c : Part) : Part.Keeps [.router,
    .tracker, .southQueue] c (Part.forwardTracked f position c) := by
  simp [Part.Keeps, Part.forwardTracked]

@[simp] theorem Part.forwardBroadcast_keeps (f : Frame) (c : Part) : Part.Keeps [.router, .southQueue] c
    (Part.forwardBroadcast f c) := by
  simp [Part.Keeps, Part.forwardBroadcast]

@[simp] theorem Part.admitCommand_keeps (f : Frame) (c : Part) : Part.Keeps [.router, .tracker, .southQueue,
    .forward] c (Part.admitCommand f c) := by
  unfold Part.admitCommand; dsimp only; (repeat' split) <;> simp [Part.Keeps]

@[simp] theorem Part.admitBroadcast_keeps (f : Frame) (c : Part) : Part.Keeps [.router, .southQueue, .forward] c
    (Part.admitBroadcast f c) := by
  unfold Part.admitBroadcast; dsimp only; (repeat' split) <;> simp [Part.Keeps]

@[simp] theorem Part.markSent_keeps (seq : Byte) (endTime : Time) (c : Part) : Part.Keeps [.router, .tracker] c
    (Part.markSent seq endTime c) := by
  unfold Part.markSent; simp [Part.Keeps]

@[simp] theorem Part.takeResponse_keeps (p : Nat) (f : Frame) (c : Part) : Part.Keeps [.router, .tracker,
    .forward] c (Part.takeResponse p f c) := by
  unfold Part.takeResponse; (repeat' split) <;> simp [Part.Keeps]

@[simp] theorem Part.expireRecord_keeps (seq : Byte) (c : Part) : Part.Keeps [.router, .tracker, .forward] c
    (Part.expireRecord seq c) := by
  unfold Part.expireRecord; (repeat' split) <;> simp [Part.Keeps]

@[simp] theorem Part.completeAll_keeps (c : Part) : Part.Keeps [.south, .southWire, .router, .tracker,
    .southQueue, .forward] c (Part.completeAll c) := by
  simp [Part.Keeps, Part.completeAll]

end Sys2Proof.Machine
end

