-- ==== Sys2Proof/Laws/South.lean ====
section
/-!
SUPPORT. What each operation of Machine/South.lean leaves as it was.
-/
namespace Sys2Proof.Machine

@[simp] theorem Part.enterDown_keeps (startRetry : Bool) (c : Part) : Part.Keeps [.south, .link, .linkLost,
    .southWire, .router, .tracker, .southQueue, .forward, .sched, .run, .sweeps, .eval, .records, .interlock,
    .tripped, .latches, .supervision, .seq, .conn, .contactors, .eventQueue, .reports, .power, .powerState,
    .powerStep, .wakeCauses, .hostWake, .store, .copy, .write] c (Part.enterDown startRetry c) := by
  unfold Part.enterDown; dsimp only; (repeat' split) <;> simp [Part.Keeps]

@[simp] theorem Part.clearLinkLost_keeps (c : Part) : Part.Keeps [.south, .linkLost, .sched, .eval, .records,
    .interlock, .tripped, .seq, .conn, .contactors, .eventQueue, .reports, .store, .copy, .write] c
    (Part.clearLinkLost c) := by
  unfold Part.clearLinkLost; (repeat' split) <;> simp [Part.Keeps]

@[simp] theorem Part.enterOff_keeps (c : Part) : Part.Keeps [.south, .link, .linkLost, .southWire, .sched, .run,
    .sweeps, .eval, .records, .interlock, .tripped, .seq, .conn, .contactors, .eventQueue, .reports, .store, .copy,
    .write] c (Part.enterOff c) := by
  simp [Part.Keeps, Part.enterOff]

@[simp] theorem Part.setForeign_keeps (p : Nat) (b : Bool) (c : Part) (f : Forming) : Part.Keeps [.south, .link, .foreign,
    .sched, .run, .sweeps, .eval, .records, .interlock, .tripped, .latches, .supervision, .seq, .conn, .contactors,
    .eventQueue, .reports, .power, .powerState, .powerStep, .wakeCauses, .hostWake, .store, .copy, .write] c
    (Part.setForeign p b c f) := by
  unfold Part.setForeign; dsimp only; (repeat' split) <;> simp [Part.Keeps]

@[simp] theorem Part.lostPosition_keeps (p : Nat) (c : Part) (f : Forming) : Part.Keeps [.south, .link, .sched, .run, .sweeps,
    .missed, .eval, .objects, .records, .interlock, .tripped, .latches, .supervision, .seq, .conn, .contactors,
    .eventQueue, .reports, .power, .powerState, .powerStep, .wakeCauses, .hostWake, .store, .copy, .write] c
    (Part.lostPosition p c f) := by
  unfold Part.lostPosition; dsimp only; (repeat' split) <;> simp [Part.Keeps]

@[simp] theorem Part.checkPosition_keeps (p : Nat) (c : Part) (f : Forming) : Part.Keeps [.south, .link, .foreign, .sched,
    .run, .sweeps, .missed, .eval, .objects, .records, .interlock, .tripped, .latches, .supervision, .seq, .conn,
    .contactors, .eventQueue, .reports, .power, .powerState, .powerStep, .wakeCauses, .hostWake, .store, .copy,
    .write] c (Part.checkPosition p c f) := by
  unfold Part.checkPosition; (repeat' split) <;> simp [Part.Keeps]

@[simp] theorem Part.identityCheck_keeps (c : Part) (f : Forming) : Part.Keeps [.south, .link, .foreign, .sched, .run,
    .sweeps, .missed, .eval, .objects, .records, .interlock, .tripped, .latches, .supervision, .seq, .conn,
    .contactors, .eventQueue, .reports, .power, .powerState, .powerStep, .wakeCauses, .hostWake, .store, .copy,
    .write] c (Part.identityCheck c f) := by
  unfold Part.identityCheck
  exact .foldl (fun c p => Part.checkPosition_keeps p c f) _ c

@[simp] theorem Part.enterUp_keeps (c : Part) : Part.Keeps [.south, .link, .foreign, .linkLost, .sched, .run,
    .sweeps, .missed, .eval, .objects, .records, .interlock, .tripped, .latches, .supervision, .seq, .conn,
    .contactors, .eventQueue, .reports, .power, .powerState, .powerStep, .wakeCauses, .hostWake, .store, .copy,
    .write] c (Part.enterUp c) := by
  unfold Part.enterUp; dsimp only; (repeat' split) <;> simp [Part.Keeps]

@[simp] theorem Part.southCheckFail_keeps (c : Part) : Part.Keeps [.south, .link, .linkLost, .southWire,
    .router, .tracker, .southQueue, .forward, .sched, .run, .sweeps, .eval, .records, .interlock, .tripped,
    .latches, .supervision, .seq, .conn, .contactors, .eventQueue, .reports, .power, .powerState, .powerStep,
    .wakeCauses, .hostWake, .store, .copy, .write] c (Part.southCheckFail c) := by
  unfold Part.southCheckFail; dsimp only; (repeat' split) <;> simp [Part.Keeps]

@[simp] theorem Part.goodFrame_keeps (c : Part) : Part.Keeps [.south] c (Part.goodFrame c) := by
  unfold Part.goodFrame; (repeat' split) <;> simp [Part.Keeps]

@[simp] theorem Part.kindDiscard_keeps (c : Part) : Part.Keeps [.kindDiscards] c (Part.kindDiscard c) := by
  simp [Part.Keeps, Part.kindDiscard]

@[simp] theorem Part.takeEnumReply_keeps (p : Nat) (f : Frame) (c : Part) : Part.Keeps [.kindDiscards, .south,
    .replies] c (Part.takeEnumReply p f c) := by
  unfold Part.takeEnumReply; (repeat' split) <;> simp [Part.Keeps]

@[simp] theorem Part.takeSpoof_keeps (c : Part) : Part.Keeps [.south, .link, .sched, .run, .sweeps, .eval,
    .records, .interlock, .eventClasses, .supervision, .seq, .conn, .contactors, .eventQueue, .reports, .power,
    .powerState, .powerStep, .wakeCauses, .hostWake, .store, .copy, .write] c (Part.takeSpoof c) := by
  simp [Part.Keeps, Part.takeSpoof]

@[simp] theorem Part.bringupDue_keeps (c : Part) : Part.Keeps [.south] c (Part.bringupDue c) := by
  unfold Part.bringupDue; (repeat' split) <;> simp [Part.Keeps]

@[simp] theorem Part.openWindow_keeps (endTime : Time) (c : Part) : Part.Keeps [.south, .link, .replies] c
    (Part.openWindow endTime c) := by
  simp [Part.Keeps, Part.openWindow]

@[simp] theorem Part.closeWindow_keeps (c : Part) : Part.Keeps [.south, .link, .foreign, .linkLost, .southWire,
    .router, .tracker, .southQueue, .forward, .sched, .run, .sweeps, .missed, .eval, .objects, .records, .interlock,
    .tripped, .latches, .supervision, .seq, .conn, .contactors, .eventQueue, .reports, .power, .powerState,
    .powerStep, .wakeCauses, .hostWake, .store, .copy, .write] c (Part.closeWindow c) := by
  unfold Part.closeWindow; dsimp only; (repeat' split) <;> simp [Part.Keeps]

@[simp] theorem Part.retryExpired_keeps (c : Part) : Part.Keeps [.south, .link, .sched, .run, .sweeps] c
    (Part.retryExpired c) := by
  unfold Part.retryExpired; (repeat' split) <;> simp [Part.Keeps]

@[simp] theorem Part.resetSouth_keeps (c : Part) : Part.Keeps [.south, .link, .linkLost, .southWire, .router,
    .tracker, .southQueue, .forward, .sched, .run, .sweeps, .missed, .eval, .records, .interlock, .tripped,
    .latches, .supervision, .seq, .conn, .contactors, .eventQueue, .reports, .power, .powerState, .powerStep,
    .wakeCauses, .hostWake, .store, .copy, .write] c (Part.resetSouth c) := by
  unfold Part.resetSouth; dsimp only; (repeat' split) <;> simp [Part.Keeps]

@[simp] theorem Part.putSouth_keeps (f : Frame) (tag : WireTag) (c : Part) : Part.Keeps [.south, .southWire] c
    (Part.putSouth f tag c) := by
  simp [Part.Keeps, Part.putSouth]

@[simp] theorem Part.startBringup_keeps (c : Part) : Part.Keeps [.south, .southWire, .freeIndex] c
    (Part.startBringup c) := by
  unfold Part.startBringup; dsimp only; (repeat' split) <;> simp [Part.Keeps]

@[simp] theorem Part.startSleep_keeps (c : Part) : Part.Keeps [.south, .southWire, .power, .freeIndex] c
    (Part.startSleep c) := by
  simp [Part.Keeps, Part.startSleep]

@[simp] theorem Part.startQueued_keeps (c : Part) : Part.Keeps [.south, .southWire, .router, .southQueue] c
    (Part.startQueued c) := by
  unfold Part.startQueued; (repeat' split) <;> simp [Part.Keeps]

/-- What a start in the second tier leaves as it was. -/
theorem Part.startTierTwo_keeps {c c1 : Part} (h : c.startTierTwo = some c1) :
    Part.Keeps [.south, .southWire, .power, .freeIndex] c c1 := by
  unfold Part.startTierTwo at h
  (repeat' split at h) <;> first | cases h; simp [Part.Keeps] | cases h

@[simp] theorem Part.southTransmit_keeps (c : Part) : Part.Keeps [.south, .southWire, .router, .southQueue,
    .sched, .run, .power, .freeIndex] c (Part.southTransmit c) := by
  unfold Part.southTransmit
  split
  · simp [Part.Keeps]
  split
  · simp [Part.Keeps]
  split
  · rename_i c1 h
    exact (Part.startTierTwo_keeps h).mono (by decide)
  · simp [Part.Keeps]

@[simp] theorem Part.commandEnd_keeps (c : Part) : Part.Keeps [.south, .southWire, .router, .tracker] c
    (Part.commandEnd c) := by
  unfold Part.commandEnd; (repeat' split) <;> simp [Part.Keeps]

@[simp] theorem Part.enumEnd_keeps (c : Part) : Part.Keeps [.south, .link, .replies, .southWire] c (Part.enumEnd
    c) := by
  unfold Part.enumEnd; dsimp only; (repeat' split) <;> simp [Part.Keeps]

end Sys2Proof.Machine
end

