-- ==== Sys2Proof/Laws/Sweeps.lean ====
section
/-!
SUPPORT. What each operation of Machine/Sweeps.lean leaves as it was.
-/
namespace Sys2Proof.Machine

@[simp] theorem Part.patrolDone_keeps (c : Part) : Part.Keeps [.south, .power, .powerStep] c (Part.patrolDone c)
    := by
  unfold Part.patrolDone; (repeat' split) <;> simp [Part.Keeps]

@[simp] theorem Part.cycleStart_keeps (c : Part) : Part.Keeps [.south, .sched, .run, .power, .powerStep] c
    (Part.cycleStart c) := by
  unfold Part.cycleStart; dsimp only; (repeat' split) <;> simp [Part.Keeps]

@[simp] theorem Part.missSlot_keeps (j : Nat) (c : Part) : Part.Keeps [.sched, .slotMiss] c (Part.missSlot j c)
    := by
  simp [Part.Keeps, Part.missSlot]

@[simp] theorem Part.launchSlot_keeps (r : Run) (j : Nat) (s : Slot) (c : Part) : Part.Keeps [.south, .sched,
    .sweeps, .nextSweep] c (Part.launchSlot r j s c) := by
  simp [Part.Keeps, Part.launchSlot]

@[simp] theorem Part.takeSlot_keeps (r : Run) (j : Nat) (s : Slot) (c : Part) : Part.Keeps [.south, .sched,
    .sweeps, .nextSweep, .slotMiss] c (Part.takeSlot r j s c) := by
  unfold Part.takeSlot; (repeat' split) <;> simp [Part.Keeps]

@[simp] theorem Part.slotTime_keeps (j : Nat) (c : Part) : Part.Keeps [.south, .sched, .run, .sweeps,
    .nextSweep, .slotMiss] c (Part.slotTime j c) := by
  unfold Part.slotTime; (repeat' split) <;> simp [Part.Keeps]

@[simp] theorem Part.accountPosition_keeps (w : Sweep) (p : Nat) (c : Part) : Part.Keeps [.south, .link, .sched,
    .run, .sweeps, .missed, .eval, .objects, .records, .interlock, .tripped, .latches, .supervision, .seq, .conn,
    .contactors, .eventQueue, .reports, .power, .powerState, .powerStep, .wakeCauses, .hostWake, .store, .copy,
    .write] c (Part.accountPosition w p c) := by
  unfold Part.accountPosition; dsimp only; (repeat' split) <;> simp [Part.Keeps]

@[simp] theorem Part.account_keeps (w : Sweep) (c : Part) : Part.Keeps [.south, .link, .sched, .run, .sweeps,
    .missed, .eval, .objects, .records, .interlock, .tripped, .latches, .supervision, .seq, .conn, .contactors,
    .eventQueue, .reports, .power, .powerState, .powerStep, .wakeCauses, .hostWake, .store, .copy, .write] c
    (Part.account w c) := by
  unfold Part.account
  exact .foldl (fun c p => Part.accountPosition_keeps w p c) _ c

@[simp] theorem Part.silentReport_keeps (w : Sweep) (c : Part) : Part.Keeps [.south, .link, .linkLost,
    .southWire, .router, .tracker, .southQueue, .forward, .sched, .run, .sweeps, .eval, .records, .interlock,
    .tripped, .latches, .supervision, .seq, .conn, .contactors, .eventQueue, .reports, .power, .powerState,
    .powerStep, .wakeCauses, .hostWake, .store, .copy, .write] c (Part.silentReport w c) := by
  unfold Part.silentReport; (repeat' split) <;> simp [Part.Keeps]

@[simp] theorem Part.detailReport_keeps (w : Sweep) (v : PositionValues) (c : Part) : Part.Keeps [.sched,
    .reports] c (Part.detailReport w v c) := by
  unfold Part.detailReport; (repeat' split) <;> simp [Part.Keeps]

@[simp] theorem Part.sweepReports_keeps (w : Sweep) (r : SweepResults) (c : Part) : Part.Keeps [.sched,
    .reports] c (Part.sweepReports w r c) := by
  unfold Part.sweepReports
  split
  · exact .refl _ c
  have summary : Part.Keeps [.sched, .reports] c
      (if w.summarised r then c.offerReport .sweep (summaryPayload w c.south.foreign r) else c) := by
    split <;> simp [Part.Keeps]
  dsimp only
  split
  · exact summary.trans (.foldl (fun c v => Part.detailReport_keeps w v c) _ _)
  · exact summary

@[simp] theorem Part.closeSweep_keeps (w : Sweep) (c : Part) : Part.Keeps [.south, .link, .linkLost, .southWire,
    .router, .tracker, .southQueue, .forward, .sched, .run, .sweeps, .missed, .eval, .objects, .shunt, .records,
    .interlock, .tripped, .latches, .eventClasses, .supervision, .seq, .conn, .contactors, .eventQueue, .reports,
    .power, .powerState, .powerStep, .wakeCauses, .hostWake, .store, .copy, .write] c (Part.closeSweep w c) := by
  simp [Part.Keeps, Part.closeSweep]

@[simp] theorem Part.closeTime_keeps (n : BitVec 16) (c : Part) : Part.Keeps [.south, .link, .linkLost,
    .southWire, .router, .tracker, .southQueue, .forward, .sched, .run, .sweeps, .missed, .eval, .objects, .shunt,
    .records, .interlock, .tripped, .latches, .eventClasses, .supervision, .seq, .conn, .contactors, .eventQueue,
    .reports, .power, .powerState, .powerStep, .wakeCauses, .hostWake, .store, .copy, .write] c (Part.closeTime n c)
    := by
  unfold Part.closeTime; (repeat' split) <;> simp [Part.Keeps]

@[simp] theorem Part.storeSample_keeps (w : Sweep) (p : Nat) (d : SampleData) (c : Part) : Part.Keeps [.south,
    .link, .linkLost, .southWire, .router, .tracker, .southQueue, .forward, .sched, .run, .sweeps, .missed, .eval,
    .objects, .shunt, .records, .interlock, .tripped, .latches, .eventClasses, .supervision, .seq, .conn,
    .contactors, .eventQueue, .reports, .power, .powerState, .powerStep, .wakeCauses, .hostWake, .store, .copy,
    .write] c (Part.storeSample w p d c) := by
  unfold Part.storeSample; dsimp only; (repeat' split) <;> simp [Part.Keeps]

@[simp] theorem Part.takeSample_keeps (p : Nat) (f : Frame) (c : Part) : Part.Keeps [.kindDiscards, .south,
    .link, .linkLost, .southWire, .router, .tracker, .southQueue, .forward, .sched, .run, .sweeps, .missed, .eval,
    .objects, .shunt, .records, .interlock, .tripped, .latches, .eventClasses, .supervision, .seq, .conn,
    .contactors, .eventQueue, .reports, .power, .powerState, .powerStep, .wakeCauses, .hostWake, .store, .copy,
    .write] c (Part.takeSample p f c) := by
  unfold Part.takeSample; (repeat' split) <;> simp [Part.Keeps]

end Sys2Proof.Machine
end

