-- ==== Sys2Proof/Laws/Power.lean ====
section
/-!
SUPPORT. What each operation of Machine/Power.lean leaves as it was.
-/
namespace Sys2Proof.Machine

@[simp] theorem Part.beginSleep_keeps (c : Part) : Part.Keeps [.sched, .run, .interlock, .supervision, .power,
    .powerState, .powerStep] c (Part.beginSleep c) := by
  simp [Part.Keeps, Part.beginSleep]

@[simp] theorem Part.sleepBroadcastDue_keeps (c : Part) : Part.Keeps [.south, .power, .powerStep] c
    (Part.sleepBroadcastDue c) := by
  unfold Part.sleepBroadcastDue; dsimp only; (repeat' split) <;> simp [Part.Keeps]

@[simp] theorem Part.goDeep_keeps (c : Part) : Part.Keeps [.south, .link, .linkLost, .southWire, .sched, .run,
    .sweeps, .eval, .records, .interlock, .tripped, .seq, .conn, .contactors, .eventQueue, .reports, .power,
    .powerState, .powerStep, .store, .copy, .write] c (Part.goDeep c) := by
  simp [Part.Keeps, Part.goDeep]

@[simp] theorem Part.deepEntry_keeps (c : Part) : Part.Keeps [.north, .northWire, .south, .link, .linkLost,
    .southWire, .router, .southQueue, .sched, .run, .sweeps, .eval, .records, .interlock, .tripped, .seq, .conn,
    .contactors, .eventQueue, .reports, .power, .powerState, .powerStep, .store, .copy, .write] c (Part.deepEntry c)
    := by
  unfold Part.deepEntry; (repeat' split) <;> simp [Part.Keeps]

@[simp] theorem Part.returnToDeep_keeps (c : Part) : Part.Keeps [.south, .link, .linkLost, .southWire, .sched,
    .run, .sweeps, .eval, .records, .interlock, .tripped, .seq, .conn, .contactors, .eventQueue, .reports, .power,
    .powerState, .powerStep, .patrols, .store, .copy, .write] c (Part.returnToDeep c) := by
  simp [Part.Keeps, Part.returnToDeep]

@[simp] theorem Part.sleepEnd_keeps (c : Part) : Part.Keeps [.south, .link, .linkLost, .southWire, .sched, .run,
    .sweeps, .eval, .records, .interlock, .tripped, .seq, .conn, .contactors, .eventQueue, .reports, .power,
    .powerState, .powerStep, .patrols, .store, .copy, .write] c (Part.sleepEnd c) := by
  unfold Part.sleepEnd; dsimp only; (repeat' split) <;> simp [Part.Keeps]

@[simp] theorem Part.passCheck_keeps (k : Contactor) (c : Part) : Part.Keeps [.seq, .contactors] c
    (Part.passCheck k c) := by
  unfold Part.passCheck; (repeat' split) <;> simp [Part.Keeps]

@[simp] theorem Part.resumeSequencer_keeps (c : Part) : Part.Keeps [.seq, .contactors] c (Part.resumeSequencer
    c) := by
  simp [Part.Keeps, Part.resumeSequencer]

@[simp] theorem Part.sleepFeedback_keeps (f : ContactorFlags) (k : Contactor) (c : Part) : Part.Keeps [.south, .link, .sched, .run,
    .sweeps, .eval, .records, .interlock, .tripped, .latches, .eventClasses, .supervision, .seq, .conn, .contactors,
    .eventQueue, .reports, .power, .powerState, .powerStep, .wakeCauses, .hostWake, .store, .recordRead, .copy,
    .activeFloor, .tamperLatch, .write] c (Part.sleepFeedback f k c) := by
  unfold Part.sleepFeedback; dsimp only; (repeat' split) <;> simp [Part.Keeps]

@[simp] theorem Part.sleepFeedbacks_keeps (f : ContactorFlags) (c : Part) : Part.Keeps [.south, .link, .sched, .run, .sweeps, .eval,
    .records, .interlock, .tripped, .latches, .eventClasses, .supervision, .seq, .conn, .contactors, .eventQueue,
    .reports, .power, .powerState, .powerStep, .wakeCauses, .hostWake, .store, .recordRead, .copy, .activeFloor,
    .tamperLatch, .write] c (Part.sleepFeedbacks f c) := by
  simp [Part.Keeps, Part.sleepFeedbacks]

/-- Commands that are no wake source add nothing. -/
theorem Part.together_quiet (c : Part) (l : Lines) (q : List Instr) (h : ∀ i ∈ q, i.wakes = false) :
    c.together l q = {} := by
  induction q with
  | nil => rfl
  | cons i q ih =>
    have hi := h i (by simp)
    have hq := ih (fun j hj => h j (by simp [hj]))
    cases i <;> first | exact hq | simp [Instr.wakes] at hi

/-- What arrives together depends on the part only by its open-feedback set, its tamper latch and the expiries that
have been reached. -/
theorem Part.together_congr (c d : Part) (l : Lines) (q : List Instr)
    (hf : d.power.openFeedback = c.power.openFeedback) (ht : d.canLatch = c.canLatch)
    (hw : ∀ k, d.watchDue k = c.watchDue k) (hk : ∀ k, d.checkDue k = c.checkDue k) :
    d.together l q = c.together l q := by
  induction q generalizing l with
  | nil => rfl
  | cons i q ih => cases i <;> simp only [Part.together, ih, hf, ht, hw, hk]

/-- With no wake source waiting, nothing arrives together. -/
theorem Part.arriveTogether_quiet (c : Part) (q : List Instr) (h : ∀ i ∈ q, i.wakes = false) :
    c.arriveTogether q = c := by
  simp [Part.arriveTogether, Part.together_quiet _ _ _ h, ContactorFlags.or, ContactorFlags.and]

/-- Of the lines, WAKE_IN asserted and feedbacks that read closed arrive together. -/
@[simp] theorem Part.arriveTogether_lines (q : List Instr) (c : Part) :
    (c.arriveTogether q).lines = { c.lines with
      wakeIn := c.lines.wakeIn || (c.together c.lines q).wakeIn,
      feedback := c.lines.feedback.or (c.together c.lines q).closed } := rfl

@[simp] theorem Part.arriveTogether_powerState (q : List Instr) (c : Part) :
    (c.arriveTogether q).power.state = c.power.state := rfl

@[simp] theorem Part.arriveTogether_keeps (q : List Instr) (c : Part) : Part.Keeps [.lines, .power, .wakeCauses] c
    (Part.arriveTogether q c) := by
  simp [Part.Keeps, Part.arriveTogether]

@[simp] theorem Part.leaveDeep_keeps (c : Part) : Part.Keeps [.south, .link, .sched, .run,
    .sweeps, .missed, .eval, .objects, .records, .interlock, .tripped, .latches, .eventClasses, .supervision, .seq,
    .conn, .contactors, .eventQueue, .reports, .power, .powerState, .powerStep, .wakeCauses, .hostWake, .store,
    .recordRead, .copy, .activeFloor, .tamperLatch, .write] c (Part.leaveDeep c) := by
  simp [Part.Keeps, Part.leaveDeep]

@[simp] theorem Part.wakeFromDeep_keeps (q : List Instr) (w : WakeCause) (c : Part) : Part.Keeps [.lines, .south, .link, .sched, .run,
    .sweeps, .missed, .eval, .objects, .records, .interlock, .tripped, .latches, .eventClasses, .supervision, .seq,
    .conn, .contactors, .eventQueue, .reports, .power, .powerState, .powerStep, .wakeCauses, .hostWake, .store,
    .recordRead, .copy, .activeFloor, .tamperLatch, .write] c (Part.wakeFromDeep q w c) := by
  simp [Part.Keeps, Part.wakeFromDeep]

@[simp] theorem Part.startPatrol_keeps (c : Part) : Part.Keeps [.south, .link, .sched, .run, .sweeps, .missed,
    .eval, .objects, .records, .interlock, .tripped, .seq, .conn, .contactors, .eventQueue, .reports, .power,
    .powerState, .powerStep, .wakeCauses, .store, .copy, .write] c (Part.startPatrol c) := by
  simp [Part.Keeps, Part.startPatrol]

@[simp] theorem Part.patrolExpired_keeps (c : Part) : Part.Keeps [.south, .link, .sched, .run, .sweeps, .missed,
    .eval, .objects, .records, .interlock, .tripped, .seq, .conn, .contactors, .eventQueue, .reports, .power,
    .powerState, .powerStep, .wakeCauses, .store, .copy, .write] c (Part.patrolExpired c) := by
  unfold Part.patrolExpired; (repeat' split) <;> simp [Part.Keeps]

@[simp] theorem Part.powerCause_keeps (q : List Instr) (w : WakeCause) (c : Part) : Part.Keeps [.lines, .south, .link, .sched, .run,
    .sweeps, .missed, .eval, .objects, .records, .interlock, .tripped, .latches, .eventClasses, .supervision, .seq,
    .conn, .contactors, .eventQueue, .reports, .power, .powerState, .powerStep, .wakeCauses, .hostWake, .store,
    .recordRead, .copy, .activeFloor, .tamperLatch, .write] c (Part.powerCause q w c) := by
  unfold Part.powerCause; (repeat' split) <;> simp [Part.Keeps]

@[simp] theorem Part.wakeIn_keeps (q : List Instr) (asserted : Bool) (c : Part) : Part.Keeps [.lines, .south, .link, .sched,
    .run, .sweeps, .missed, .eval, .objects, .records, .interlock, .tripped, .latches, .eventClasses, .supervision,
    .seq, .conn, .contactors, .eventQueue, .reports, .power, .powerState, .powerStep, .wakeCauses, .hostWake,
    .store, .recordRead, .copy, .activeFloor, .tamperLatch, .write] c (Part.wakeIn q asserted c) := by
  unfold Part.wakeIn; dsimp only; (repeat' split) <;> simp [Part.Keeps]

@[simp] theorem Part.northActivity_keeps (q : List Instr) (c : Part) : Part.Keeps [.lines, .south, .link, .sched, .run, .sweeps, .missed,
    .eval, .objects, .records, .interlock, .tripped, .latches, .eventClasses, .supervision, .seq, .conn,
    .contactors, .eventQueue, .reports, .power, .powerState, .powerStep, .wakeCauses, .hostWake, .store,
    .recordRead, .copy, .activeFloor, .tamperLatch, .write] c (Part.northActivity q c) := by
  unfold Part.northActivity; (repeat' split) <;> simp [Part.Keeps]

@[simp] theorem Part.deepClosed_keeps (q : List Instr) (f : ContactorFlags) (c : Part) : Part.Keeps [.lines, .south, .link,
    .sched, .run, .sweeps, .missed, .eval, .objects, .records, .interlock, .tripped, .latches, .eventClasses,
    .supervision, .seq, .conn, .contactors, .eventQueue, .reports, .power, .powerState, .powerStep, .wakeCauses,
    .hostWake, .store, .recordRead, .copy, .activeFloor, .tamperLatch, .write] c (Part.deepClosed q f c) := by
  unfold Part.deepClosed; dsimp only; (repeat' split) <;> simp [Part.Keeps]

@[simp] theorem Part.patrolClosed_keeps (f : ContactorFlags) (c : Part) : Part.Keeps [.lines, .south, .link,
    .sched, .run, .sweeps, .missed, .eval, .objects, .records, .interlock, .tripped, .latches, .eventClasses,
    .supervision, .seq, .conn, .contactors, .eventQueue, .reports, .power, .powerState, .powerStep, .wakeCauses,
    .hostWake, .store, .recordRead, .copy, .activeFloor, .tamperLatch, .write] c (Part.patrolClosed f c) := by
  simp [Part.Keeps, Part.patrolClosed]

@[simp] theorem Part.deepFeedback_keeps (q : List Instr) (f : ContactorFlags) (c : Part) : Part.Keeps [.lines, .south, .link,
    .sched, .run, .sweeps, .missed, .eval, .objects, .records, .interlock, .tripped, .latches, .eventClasses,
    .supervision, .seq, .conn, .contactors, .eventQueue, .reports, .power, .powerState, .powerStep, .wakeCauses,
    .hostWake, .store, .recordRead, .copy, .activeFloor, .tamperLatch, .write] c (Part.deepFeedback q f c) := by
  unfold Part.deepFeedback; (repeat' split) <;> simp [Part.Keeps]

@[simp] theorem Part.feedbackChange_keeps (q : List Instr) (k : Contactor) (closed : Bool) (c : Part) : Part.Keeps [.lines,
    .south, .link, .sched, .run, .sweeps, .missed, .eval, .objects, .records, .interlock, .tripped, .latches,
    .eventClasses, .supervision, .seq, .conn, .contactors, .eventQueue, .reports, .power, .powerState, .powerStep,
    .wakeCauses, .hostWake, .store, .recordRead, .copy, .activeFloor, .tamperLatch, .write] c (Part.feedbackChange q k
    closed c) := by
  unfold Part.feedbackChange; dsimp only; (repeat' split) <;> simp [Part.Keeps]

@[simp] theorem Part.failCheck_keeps (k : Contactor) (c : Part) : Part.Keeps [.south, .link, .sched, .run,
    .sweeps, .eval, .records, .interlock, .tripped, .latches, .eventClasses, .supervision, .seq, .conn, .contactors,
    .eventQueue, .reports, .power, .powerState, .powerStep, .wakeCauses, .hostWake, .store, .recordRead, .copy,
    .activeFloor, .tamperLatch, .write] c (Part.failCheck k c) := by
  unfold Part.failCheck; dsimp only; (repeat' split) <;> simp [Part.Keeps]

@[simp] theorem Part.spendWatch_keeps (k : Contactor) (c : Part) : Part.Keeps [.south, .link, .sched, .run,
    .sweeps, .eval, .records, .interlock, .tripped, .latches, .eventClasses, .supervision, .seq, .conn, .contactors,
    .eventQueue, .reports, .power, .powerState, .powerStep, .wakeCauses, .hostWake, .store, .recordRead, .copy,
    .activeFloor, .tamperLatch, .write] c (Part.spendWatch k c) := by
  unfold Part.spendWatch; dsimp only; (repeat' split) <;> simp [Part.Keeps]

@[simp] theorem Part.feedbackExpired_keeps (q : List Instr) (k : Contactor) (c : Part) : Part.Keeps [.lines, .south, .link, .sched, .run,
    .sweeps, .missed, .eval, .objects, .records, .interlock, .tripped, .latches, .eventClasses, .supervision, .seq,
    .conn, .contactors, .eventQueue, .reports, .power, .powerState, .powerStep, .wakeCauses, .hostWake, .store,
    .recordRead, .copy, .activeFloor, .tamperLatch, .write] c
    (Part.feedbackExpired q k c) := by
  unfold Part.feedbackExpired; (repeat' split) <;> simp [Part.Keeps]

@[simp] theorem Part.watchExpired_keeps (q : List Instr) (k : Contactor) (c : Part) : Part.Keeps [.lines, .south, .link, .sched, .run,
    .sweeps, .missed, .eval, .objects, .records, .interlock, .tripped, .latches, .eventClasses, .supervision, .seq,
    .conn, .contactors, .eventQueue, .reports, .power, .powerState, .powerStep, .wakeCauses, .hostWake, .store,
    .recordRead, .copy, .activeFloor, .tamperLatch, .write] c
    (Part.watchExpired q k c) := by
  unfold Part.watchExpired; (repeat' split) <;> simp [Part.Keeps]

@[simp] theorem Part.prechargeExpired_keeps (c : Part) : Part.Keeps [.south, .link, .sched, .run, .sweeps,
    .eval, .records, .interlock, .eventClasses, .supervision, .seq, .conn, .contactors, .eventQueue, .reports,
    .power, .powerState, .powerStep, .wakeCauses, .hostWake, .store, .copy, .write] c (Part.prechargeExpired c) :=
    by
  unfold Part.prechargeExpired; (repeat' split) <;> simp [Part.Keeps]

@[simp] theorem Part.softOpenExpired_keeps (c : Part) : Part.Keeps [.sched, .interlock, .seq, .conn,
    .contactors, .eventQueue, .reports, .store, .copy, .write] c (Part.softOpenExpired c) := by
  unfold Part.softOpenExpired; (repeat' split) <;> simp [Part.Keeps]

@[simp] theorem Part.supervisionExpired_keeps (c : Part) : Part.Keeps [.south, .link, .sched, .run, .sweeps,
    .eval, .records, .interlock, .tripped, .latches, .supervision, .silence, .seq, .conn, .contactors, .eventQueue,
    .reports, .power, .powerState, .powerStep, .wakeCauses, .hostWake, .store, .copy, .write] c
    (Part.supervisionExpired c) := by
  unfold Part.supervisionExpired; (repeat' split) <;> simp [Part.Keeps]

end Sys2Proof.Machine
end

