-- ==== Sys2Proof/Laws/Store.lean ====
section
/-!
SUPPORT. What each operation of Machine/Store.lean leaves as it was.
-/
namespace Sys2Proof.Machine

@[simp] theorem Part.updateReport_keeps (o : UpdateOutcome) (bank : BankName) (c : Part) : Part.Keeps [.sched,
    .reports] c (Part.updateReport o bank c) := by
  simp [Part.Keeps, Part.updateReport]

@[simp] theorem Part.tripTamper_keeps (c : Part) : Part.Keeps [.sched, .eval, .records, .interlock, .tripped, .latches,
    .seq, .conn, .contactors, .eventQueue, .reports, .store, .copy, .write] c (Part.tripTamper c) := by
  simp [Part.Keeps, Part.tripTamper]

@[simp] theorem Part.raiseTamper_keeps (c : Part) : Part.Keeps [.sched, .eval, .records, .interlock, .tripped, .latches,
    .seq, .conn, .contactors, .eventQueue, .reports, .store, .copy, .write] c (Part.raiseTamper c) := by
  unfold Part.raiseTamper; dsimp only; (repeat' split) <;> simp [Part.Keeps]

@[simp] theorem Part.setTamper_keeps (q : List Instr) (c : Part) : Part.Keeps [.lines, .south, .link, .sched, .run, .sweeps, .missed,
    .eval, .objects, .records, .interlock, .tripped, .latches, .eventClasses, .supervision, .seq, .conn,
    .contactors, .eventQueue, .reports, .power, .powerState, .powerStep, .wakeCauses, .hostWake, .store,
    .recordRead, .copy, .activeFloor, .tamperLatch, .write] c (Part.setTamper q c) := by
  unfold Part.setTamper; dsimp only; (repeat' split) <;> simp [Part.Keeps]

@[simp] theorem Part.latchTamper_keeps (q : List Instr) (c : Part) : Part.Keeps [.lines, .south, .link, .sched, .run, .sweeps, .missed,
    .eval, .objects, .records, .interlock, .tripped, .latches, .eventClasses, .supervision, .seq, .conn,
    .contactors, .eventQueue, .reports, .power, .powerState, .powerStep, .wakeCauses, .hostWake, .store,
    .recordRead, .copy, .activeFloor, .tamperLatch, .write, .update] c (Part.latchTamper q c) := by
  unfold Part.latchTamper; dsimp only; (repeat' split) <;> simp [Part.Keeps]

@[simp] theorem Part.tamperIn_keeps (q : List Instr) (asserted : Bool) (c : Part) : Part.Keeps [.lines, .south, .link, .sched,
    .run, .sweeps, .missed, .eval, .objects, .records, .interlock, .tripped, .latches, .eventClasses, .supervision,
    .seq, .conn, .contactors, .eventQueue, .reports, .power, .powerState, .powerStep, .wakeCauses, .hostWake,
    .store, .recordRead, .copy, .activeFloor, .tamperLatch, .write, .update] c (Part.tamperIn q asserted c) := by
  unfold Part.tamperIn; dsimp only; (repeat' split) <;> simp [Part.Keeps]

@[simp] theorem Part.abortUpdate_keeps (c : Part) : Part.Keeps [.south, .sched, .run, .reports, .store, .update]
    c (Part.abortUpdate c) := by
  unfold Part.abortUpdate; dsimp only; (repeat' split) <;> simp [Part.Keeps]

@[simp] theorem Part.serviceAbort_keeps (c : Part) : Part.Keeps [.south, .sched, .run, .reports, .store,
    .update] c (Part.serviceAbort c) := by
  unfold Part.serviceAbort; (repeat' split) <;> simp [Part.Keeps]

@[simp] theorem Part.serviceIn_keeps (q : List Instr) (asserted : Bool) (c : Part) : Part.Keeps [.lines, .south, .link, .sched,
    .run, .sweeps, .missed, .eval, .objects, .records, .interlock, .tripped, .latches, .eventClasses, .supervision,
    .seq, .conn, .contactors, .eventQueue, .reports, .power, .powerState, .powerStep, .wakeCauses, .hostWake,
    .store, .recordRead, .copy, .activeFloor, .tamperLatch, .write, .update] c (Part.serviceIn q asserted c) := by
  unfold Part.serviceIn; dsimp only; (repeat' split) <;> simp [Part.Keeps]

@[simp] theorem Part.tablesChanged_keeps (c : Part) : Part.Keeps [.sched, .interlock, .seq, .conn, .contactors,
    .eventQueue, .reports, .store, .copy, .write] c (Part.tablesChanged c) := by
  simp [Part.Keeps, Part.tablesChanged]

@[simp] theorem Part.boot_keeps (c : Part) : Part.Keeps [.south, .link, .sched, .run, .sweeps, .eval, .records,
    .interlock, .tripped, .latches, .supervision, .seq, .conn, .contactors, .eventQueue, .reports, .power,
    .powerState, .powerStep, .wakeCauses, .hostWake, .store, .banks, .record, .recordRead, .storeState, .copy,
    .activeFloor, .tamperLatch, .write, .update, .staged, .switch, .versionInUse, .tables] c (Part.boot c) := by
  unfold Part.boot; dsimp only; (repeat' split) <;> simp [Part.Keeps]

@[simp] theorem Part.eraseDone_keeps (c : Part) : Part.Keeps [.sched, .reports, .store, .banks, .record,
    .recordRead, .storeState, .copy, .activeFloor, .tamperLatch, .write, .update, .staged, .switch, .versionInUse,
    .tables] c (Part.eraseDone c) := by
  unfold Part.eraseDone; dsimp only; (repeat' split) <;> simp [Part.Keeps]

@[simp] theorem Part.checkDone_keeps (c : Part) : Part.Keeps [.sched, .reports, .store, .banks, .record,
    .recordRead, .storeState, .copy, .activeFloor, .tamperLatch, .write, .update, .staged, .switch, .versionInUse,
    .tables] c (Part.checkDone c) := by
  unfold Part.checkDone; dsimp only; (repeat' split) <;> simp [Part.Keeps]

@[simp] theorem Part.programmed_keeps (q : List Instr) (p : Programming) (c : Part) : Part.Keeps [.lines, .south, .link,
    .sched, .run, .sweeps, .missed, .eval, .objects, .records, .interlock, .tripped, .latches, .eventClasses, .supervision,
    .seq, .conn, .contactors, .eventQueue, .reports, .power, .powerState, .powerStep, .wakeCauses, .hostWake, .store, .banks,
    .record, .recordRead, .storeState, .copy, .activeFloor, .tamperLatch, .write, .update, .staged, .switch, .versionInUse,
    .tables, .mgmt, .programming, .responses] c (Part.programmed q p c) := by
  unfold Part.programmed; dsimp only; (repeat' split) <;> simp [Part.Keeps]

@[simp] theorem Part.switchWritten_keeps (c : Part) : Part.Keeps [.store, .banks, .record, .recordRead,
    .storeState, .copy, .activeFloor, .tamperLatch, .write, .update, .staged, .switch, .versionInUse, .tables] c
    (Part.switchWritten c) := by
  unfold Part.switchWritten; dsimp only; (repeat' split) <;> simp [Part.Keeps]

@[simp] theorem Part.recordWritten_keeps (c : Part) : Part.Keeps [.store, .banks, .record, .recordRead,
    .storeState, .copy, .activeFloor, .tamperLatch, .write, .update, .staged, .switch, .versionInUse, .tables] c
    (Part.recordWritten c) := by
  unfold Part.recordWritten; dsimp only; (repeat' split) <;> simp [Part.Keeps]

@[simp] theorem Part.switchStart_keeps (c : Part) : Part.Keeps [.store, .copy, .activeFloor, .tamperLatch,
    .write, .update, .switch] c (Part.switchStart c) := by
  unfold Part.switchStart; dsimp only; (repeat' split) <;> simp [Part.Keeps]

@[simp] theorem Part.switchTables_keeps (c : Part) : Part.Keeps [.south, .link, .foreign, .sched, .run, .sweeps,
    .missed, .slotMiss, .eval, .objects, .records, .interlock, .tripped, .latches, .supervision, .seq, .conn,
    .contactors, .eventQueue, .reports, .power, .powerState, .powerStep, .wakeCauses, .hostWake, .store, .copy,
    .write] c (Part.switchTables c) := by
  simp [Part.Keeps, Part.switchTables]

@[simp] theorem Part.switchDone_keeps (n : BankName) (c : Part) : Part.Keeps [.south, .link, .foreign, .sched,
    .run, .sweeps, .missed, .slotMiss, .eval, .objects, .records, .interlock, .tripped, .latches, .supervision,
    .seq, .conn, .contactors, .eventQueue, .reports, .power, .powerState, .powerStep, .wakeCauses, .hostWake,
    .store, .storeState, .copy, .write, .update, .switch, .versionInUse, .tables] c (Part.switchDone n c) := by
  simp [Part.Keeps, Part.switchDone]

@[simp] theorem Part.switchFailed_keeps (n : BankName) (c : Part) : Part.Keeps [.south, .link, .foreign, .sched,
    .schedState, .run, .sweeps, .missed, .slotMiss, .eval, .objects, .records, .interlock, .tripped, .latches,
    .eventClasses, .supervision, .seq, .conn, .contactors, .eventQueue, .reports, .power, .powerState, .powerStep,
    .wakeCauses, .hostWake, .store, .storeState, .copy, .write, .update, .switch, .versionInUse, .tables] c
    (Part.switchFailed n c) := by
  simp [Part.Keeps, Part.switchFailed]

@[simp] theorem Part.loadDone_keeps (c : Part) : Part.Keeps [.south, .link, .foreign, .sched, .schedState, .run,
    .sweeps, .missed, .slotMiss, .eval, .objects, .records, .interlock, .tripped, .latches, .eventClasses,
    .supervision, .seq, .conn, .contactors, .eventQueue, .reports, .power, .powerState, .powerStep, .wakeCauses,
    .hostWake, .store, .storeState, .copy, .write, .update, .switch, .versionInUse, .tables] c (Part.loadDone c) :=
    by
  unfold Part.loadDone; (repeat' split) <;> simp [Part.Keeps]

end Sys2Proof.Machine
end

