-- ==== Sys2Proof/Laws/Management.lean ====
section
/-!
SUPPORT. What each operation of Machine/Management.lean leaves as it was.
-/
namespace Sys2Proof.Machine

@[simp] theorem Part.acceptRequest_keeps (f : Frame) (c : Part) : Part.Keeps [.sched, .eval, .records,
    .interlock, .tripped, .supervision, .silence, .seq, .conn, .contactors, .eventQueue, .reports, .power,
    .hostWake, .store, .copy, .write, .mgmt, .requests, .overflow] c (Part.acceptRequest f c) := by
  unfold Part.acceptRequest; dsimp only; (repeat' split) <;> simp [Part.Keeps]

@[simp] theorem Part.putNorth_keeps (f : Frame) (c : Part) : Part.Keeps [.north, .northWire] c (Part.putNorth f
    c) := by
  simp [Part.Keeps, Part.putNorth]

@[simp] theorem Part.noteRestart_keeps (r : Response) (c : Part) : Part.Keeps [.mgmt, .restart] c
    (Part.noteRestart r c) := by
  unfold Part.noteRestart; (repeat' split) <;> simp [Part.Keeps]

@[simp] theorem Part.northTransmit_keeps (c : Part) : Part.Keeps [.north, .northWire, .router, .forward, .sched,
    .reports, .mgmt, .responses, .restart] c (Part.northTransmit c) := by
  unfold Part.northTransmit; (repeat' split) <;> simp [Part.Keeps]

@[simp] theorem Part.popRequest_keeps (c : Part) : Part.Keeps [.mgmt, .requests] c (Part.popRequest c) := by
  simp [Part.Keeps, Part.popRequest]

@[simp] theorem Part.clearCounters_keeps (c : Part) : Part.Keeps [.north, .northErrors, .kindDiscards, .south,
    .router, .sched, .slotMiss, .eval, .records, .seq, .eventQueue, .reports, .power, .patrols, .mgmt, .overflow] c
    (Part.clearCounters c) := by
  simp [Part.Keeps, Part.clearCounters]

@[simp] theorem Part.leaveLockedOut_keeps (c : Part) : Part.Keeps [.sched, .interlock, .seq, .conn, .eventQueue,
    .reports, .store, .copy, .write] c (Part.leaveLockedOut c) := by
  simp [Part.Keeps, Part.leaveLockedOut]

@[simp] theorem Part.setTime_keeps (v : Time) (c : Part) : Part.Keeps [.north, .northWire, .south, .southWire,
    .router, .tracker, .sched, .packTime, .eval, .shunt, .interlock, .supervision, .seq, .contactors, .store,
    .write, .switch, .mgmt, .restart] c (Part.setTime v c) := by
  simp [Part.Keeps, Part.setTime]

@[simp] theorem Part.clearTamper_keeps (c : Part) : Part.Keeps [.sched, .eval, .records, .interlock, .tripped,
    .seq, .conn, .contactors, .eventQueue, .reports, .store, .copy, .tamperLatch, .write] c (Part.clearTamper c) :=
    by
  unfold Part.clearTamper; (repeat' split) <;> simp [Part.Keeps]

end Sys2Proof.Machine
end

