-- ==== Sys2Proof/Laws/Memory.lean ====
section
/-!
SUPPORT. The bytes of a bank: every operation of Machine/Memory.lean keeps the canonical form, a byte read after it was
written is the byte written, and every other byte reads as before.
-/
namespace Sys2Proof.Machine

/-! ### The canonical form -/

theorem Memory.wfFrom_mono {m : Memory} {lo lo' : Nat} (h : lo ≤ lo') (w : m.wfFrom lo' = true) :
    m.wfFrom lo = true := by
  cases m with
  | nil => rfl
  | cons c rest =>
    simp only [Memory.wfFrom, Bool.and_eq_true, decide_eq_true_eq] at w ⊢
    exact ⟨⟨⟨by omega, w.1.1.2⟩, w.1.2⟩, w.2⟩

theorem Memory.erase_wfFrom {m : Memory} {lo : Nat} (a : Nat) (w : m.wfFrom lo = true) :
    (m.erase a).wfFrom lo = true := by
  induction m generalizing lo with
  | nil => rfl
  | cons c rest ih =>
    simp only [Memory.wfFrom, Bool.and_eq_true, decide_eq_true_eq] at w
    unfold Memory.erase
    split
    · exact Memory.wfFrom_mono (by omega) w.2
    · simp only [Memory.wfFrom, Bool.and_eq_true, decide_eq_true_eq]
      exact ⟨w.1, ih w.2⟩

theorem Memory.insert_wfFrom {m : Memory} {lo a : Nat} {b : Byte} (w : m.wfFrom lo = true) (ha : lo ≤ a)
    (hs : a < bankSize) (hb : b ≠ erasedByte) : (m.insert a b).wfFrom lo = true := by
  induction m generalizing lo with
  | nil => simp [Memory.insert, Memory.wfFrom, ha, hs, hb]
  | cons c rest ih =>
    simp only [Memory.wfFrom, Bool.and_eq_true, decide_eq_true_eq] at w
    unfold Memory.insert
    split
    · simp_all [Memory.wfFrom]
    · split
      · simp only [Memory.wfFrom, Bool.and_eq_true, decide_eq_true_eq]
        exact ⟨⟨⟨ha, hs⟩, hb⟩, ⟨⟨by omega, w.1.1.2⟩, w.1.2⟩, w.2⟩
      · simp only [Memory.wfFrom, Bool.and_eq_true, decide_eq_true_eq]
        exact ⟨w.1, ih w.2 (by omega)⟩

/-- A write inside the bank keeps the canonical form. -/
theorem Memory.write_wf {m : Memory} {a : Nat} (b : Byte) (w : m.wf = true) (hs : a < bankSize) :
    (m.write a b).wf = true := by
  unfold Memory.write
  split
  · exact Memory.erase_wfFrom a w
  · exact Memory.insert_wfFrom w (Nat.zero_le a) hs ‹_›

/-- A run of writes inside the bank keeps it. -/
theorem Memory.writeAll_wf {m : Memory} {a : Nat} (bs : List Byte) (w : m.wf = true) (hs : a + bs.length ≤ bankSize) :
    (m.writeAll a bs).wf = true := by
  induction bs generalizing m a with
  | nil => exact w
  | cons b bs ih =>
    simp only [List.length_cons] at hs
    exact ih (Memory.write_wf b w (by omega)) (by omega)

/-- An address below every cell of a canonical memory reads as erased. -/
theorem Memory.read_below {m : Memory} {lo a : Nat} (w : m.wfFrom lo = true) (h : a < lo) : m.read a = erasedByte := by
  induction m generalizing lo with
  | nil => rfl
  | cons c rest ih =>
    simp only [Memory.wfFrom, Bool.and_eq_true, decide_eq_true_eq] at w
    unfold Memory.read
    rw [if_neg (by omega)]
    exact ih w.2 (by omega)

/-! ### Reads after writes -/

theorem Memory.read_insert (m : Memory) (a x : Nat) (b : Byte) :
    (m.insert a b).read x = if x = a then b else m.read x := by
  induction m with
  | nil => simp only [Memory.insert, Memory.read, eq_comm]
  | cons c rest ih =>
    unfold Memory.insert
    split
    · subst_vars
      by_cases hx : x = c.1
      · subst hx; simp [Memory.read]
      · simp [Memory.read, hx, Ne.symm hx]
    · split
      · by_cases hx : x = a
        · subst hx; simp [Memory.read]
        · simp [Memory.read, hx, Ne.symm hx]
      · by_cases hc : c.1 = x
        · subst hc; simp [Memory.read, ‹¬ c.1 = a›]
        · simp [Memory.read, hc, ih]

theorem Memory.read_erase {m : Memory} {lo : Nat} (w : m.wfFrom lo = true) (a x : Nat) :
    (m.erase a).read x = if x = a then erasedByte else m.read x := by
  induction m generalizing lo with
  | nil => simp [Memory.erase, Memory.read]
  | cons c rest ih =>
    simp only [Memory.wfFrom, Bool.and_eq_true, decide_eq_true_eq] at w
    unfold Memory.erase
    split
    · subst_vars
      by_cases hx : x = c.1
      · subst hx; simp [Memory.read_below w.2 (Nat.lt_succ_self c.1)]
      · simp [Memory.read, hx, Ne.symm hx]
    · by_cases hc : c.1 = x
      · subst hc; simp [Memory.read, ‹¬ c.1 = a›]
      · simp [Memory.read, hc, ih w.2]

/-- What a write leaves to be read: the byte at its address, every other byte as before. -/
theorem Memory.read_write {m : Memory} (w : m.wf = true) (a x : Nat) (b : Byte) :
    (m.write a b).read x = if x = a then b else m.read x := by
  unfold Memory.write
  split
  · subst_vars; exact Memory.read_erase w a x
  · exact Memory.read_insert m a x b

/-- What a run of writes inside the bank leaves to be read. -/
theorem Memory.read_writeAll {m : Memory} (w : m.wf = true) (a x : Nat) (bs : List Byte)
    (hs : a + bs.length ≤ bankSize) :
    (m.writeAll a bs).read x = if a ≤ x ∧ x < a + bs.length then (bs[x - a]?).getD 0 else m.read x := by
  induction bs generalizing m a with
  | nil => rw [if_neg (by simp only [List.length_nil]; omega)]; rfl
  | cons b bs ih =>
    simp only [List.length_cons] at hs ⊢
    have step := ih (Memory.write_wf b w (a := a) (by omega)) (a + 1) (by omega)
    rw [Memory.writeAll, step, Memory.read_write w]
    by_cases h0 : x = a
    · subst h0
      rw [if_neg (by omega), if_pos rfl, if_pos (by omega)]
      simp
    · by_cases h1 : a + 1 ≤ x ∧ x < a + 1 + bs.length
      · rw [if_pos h1, if_pos (by omega)]
        obtain ⟨k, rfl⟩ : ∃ k, x = a + 1 + k := ⟨x - (a + 1), by omega⟩
        simp [show a + 1 + k - (a + 1) = k by omega, show a + 1 + k - a = k + 1 by omega]
      · rw [if_neg h1, if_neg h0, if_neg (by omega)]

/-- The banks of a fresh part hold the erased value everywhere, in the canonical form. -/
theorem State.reset_banks_wf :
    State.reset.part.store.bankA.bytes.wf = true ∧ State.reset.part.store.bankB.bytes.wf = true := ⟨rfl, rfl⟩

end Sys2Proof.Machine
end

