-- ==== Sys2Proof/Laws/Requests.lean ====
section
/-!
SUPPORT. How a request command reaches its own rule (R183): the lemmas that take a premise `executes` to the rule of the
request, and what making an answer leaves as it was.
-/
namespace Sys2Proof.Machine

@[simp] theorem State.effect_next (f : Part → Part) (c : Part) (q : List Instr) :
    State.effect f ⟨c, q⟩ = .next ⟨f c, q⟩ := rfl

/-- A request that the engine is ready to execute is taken from the queue and its own rule runs. -/
theorem Part.serve_of_executes {c : Part} {f : Frame} {rest : List Frame} {r : Request} (h : c.executes f rest r)
    (rule : Frame → Part → Part) : c.serve r rule = rule f { c with mgmt.requests := rest } := by
  obtain ⟨queue, programming, restart, request, arguments, loaded⟩ := h
  have ready : ¬ (c.store.state = .loading ∧ r ≠ .status) := fun ⟨a, b⟩ => b (loaded a)
  simp [Part.serve, Part.headRequest, queue, programming, restart, request, arguments, ready, Part.popRequest]

/-- An answer, once the request has left the queue. -/
theorem Part.respond_eq_answered (c : Part) (f : Frame) (rest : List Frame) (st : Status) (data : List Byte) :
    Part.respond f st data { c with mgmt.requests := rest } = c.answered f rest st data := rfl

@[simp] theorem Part.answered_keeps (c : Part) (f : Frame) (rest : List Frame) (st : Status) (data : List Byte) :
    Part.Keeps [.mgmt, .requests, .responses] c (c.answered f rest st data) := by
  simp [Part.Keeps, Part.answered]

/-- With no request at the head, or while a programming or a RESTART is awaited, nothing is served. -/
theorem Part.serve_of_no_head {c : Part} (h : c.headRequest = none) (r : Request) (rule : Frame → Part → Part) :
    c.serve r rule = c := by simp [Part.serve, h]

end Sys2Proof.Machine
end

