-- ==== Sys2Proof/WellFormed.lean ====
section
/-!
DEFINITION. Which commands are well formed: a frame row carries a frame that its link sorts as that row says
(R2, R3, R5), and a slot index names one of the 24 slots (R43). The meanings do not need it: a frame that does not
fit its row is handled as what it is (log entry 5).
-/
namespace Sys2Proof

/-- The command's operands are those its row speaks of. -/
def Instr.wellFormed : Instr → Bool
  | .northFrameCheckFail r => Machine.sortNorth r == .checkFail
  | .northFrameDiscard bs => Machine.sortNorth (.frame bs) == .discard
  | .mgmtReqAccept bs => match Machine.sortNorth (.frame bs) with | .request _ => true | _ => false
  | .northCommand bs => match Machine.sortNorth (.frame bs) with | .command _ => true | _ => false
  | .broadcastCommand bs => match Machine.sortNorth (.frame bs) with | .broadcast _ => true | _ => false
  | .southFrameCheckFail r => Machine.sortSouth r == .checkFail
  | .southResponse bs => match Machine.sortSouth (.frame bs) with | .response _ _ => true | _ => false
  | .sample bs => match Machine.sortSouth (.frame bs) with | .sample _ _ => true | _ => false
  | .enumReply bs => match Machine.sortSouth (.frame bs) with | .enumReply _ _ => true | _ => false
  | .chainSpoof bs => Machine.sortSouth (.frame bs) == .spoof
  | .southFrameDiscard bs => Machine.sortSouth (.frame bs) == .discard
  | .slotLaunchTime j => decide (j < 24)
  | .deepFeedbackClosed a b c => a || b || c
  | .powerOn | .resetN | .boot | .northActivity | .northTransmitStart | .restartEffect => true
  | .southTransmitStart | .commandFrameEnd | .bringupFrameDue | .enumFrameEnd | .enumWindowClose => true
  | .retryTimerExpiry | .transactionDeadline _ | .cycleStart | .sweepCloseTime _ | .supervisionExpiry => true
  | .feedbackLineChange _ _ | .feedbackTimerExpiry _ | .watchExpiry _ | .prechargeLimitExpiry => true
  | .softOpenWaitExpiry | .wakeInAssert _ | .tamperInAssert _ | .serviceInDeassert _ => true
  | .patrolTimerExpiry | .sleepBroadcastDue | .sleepBroadcastEnd | .deepEntry | .eraseComplete => true
  | .checkComplete | .writeProgrammingEnd | .switchStart | .recordWriteComplete | .tableLoadComplete => true
  | .unknownRequest | .status | .readCounters | .readFaults | .ackFaults | .readEvents | .connect => true
  | .disconnect | .disconnectNow | .clearLockout | .scheduleStart | .scheduleStop | .setTime | .sleep => true
  | .keepalive | .updOpen | .updErase | .updWrite | .updCheck | .updCommit | .updAbort | .updStatus => true
  | .readImage | .clearTamper | .resetSouth | .restart => true

end Sys2Proof
end

