-- ==== Sys2Proof/Tests/Slice0.lean ====
section
/-!
SUPPORT. Our own tests, each on fixed values and most of them from the worked examples of the manual; the smoke test of
WellFormed; and for every statement with hypotheses a witness that meets them, clause by clause.
-/
namespace Sys2Proof.Tests

-- One kernel evaluation at a time: evaluated side by side these tests take the memory of all of them.
set_option Elab.async false

open Sys2Proof.Machine

/-! ### Small parts -/

/-- The part right after the reset of a fresh part. -/
def fresh : Part := State.reset.part

/-- A part whose boot is over: a CONFIGURED store, with the limits and marks of the empty tables. -/
def ready : Part :=
  { fresh with store := { fresh.store with state := .configured, recordRead := true, versionInUse := some 0 } }

/-- A MGMT_REQ for node 0. -/
def request (payload : List Byte) : Frame :=
  { dest := 0, source := 0, kind := .mgmtReq, seq := 5, status := 0, payload := payload }

/-- The part with one request waiting. -/
def asked (payload : List Byte) (c : Part) : Part := { c with mgmt := { c.mgmt with requests := [request payload] } }

/-- A module command. -/
def command (dest seq code : Byte) : Frame :=
  { dest := dest, source := 0, kind := .command, seq := seq, status := 0, payload := [code, 0] }

/-- A frame from chain position `p` for node 0. -/
def fromModule (p : Byte) (k : Kind) (seq : Byte) (payload : List Byte) : Frame :=
  { dest := 0, source := p, kind := k, seq := seq, status := 0, payload := payload }

/-- A contactor that is closed and settled. -/
def shut : ContactorState := { drive := true }

/-- A contactor whose check for the value `v` runs until the time `e`. -/
def checking (v : Bool) (e : Time) : ContactorState := { drive := v, timer := some { expiry := e, target := v } }

/-- A pack that is CLOSED, with its feedbacks reading so. -/
def closedPack : Part :=
  { ready with
    lines := { feedback := { kPos := true, kNeg := true } }, seq := { conn := .closed, kPos := shut, kNeg := shut } }

/-- The part in a power state. -/
def inPower (p : PowerState) (step : EntryStep) (c : Part) : Part :=
  { c with power := { c.power with state := p, step := step } }

/-- The part with a south link state. -/
def linked (l : LinkState) (c : Part) : Part := { c with south := { c.south with link := l, bringDue := none } }

/-- The SHUNT at position 1, logical number 1. -/
def shuntEntry : MapEntry :=
  { logical := 1, position := 1, kind := .shunt, identity := 7, cells := 0, temps := 0, gain := 0, trims := [] }

/-- A CELL module of one cell at position 3, logical number 3. -/
def cellEntry : MapEntry :=
  { logical := 3, position := 3, kind := .cell, identity := 9, cells := 1, temps := 0, gain := 0, trims := [] }

/-- The pass table of the worked example in section 2.8. -/
def passTable : List PassEntry :=
  [{ key := 0x00004000, mask := 0x00FFFF00, action := .passWhenOpen },
   { key := 0x00007000, mask := 0x00FFF000, action := .passWhenService },
   { key := 0x04002000, mask := 0xFFFFF000, action := .refuse },
   { key := 0x00001000, mask := 0x00FFF000, action := .pass }]

/-- A SHUNT slot of position 1 in every cycle, 1,000 µs after its start, which may be shed. -/
def slotOne : Slot :=
  { offset := 1000, kind := .shunt, target := 1, mask := 0xFF, window := 800, sheddable := true, patrol := true,
    detail := false, summary := .none }

/-- Tables with the example's pass table, two modules, one slot and the parameters of section 6.9. -/
def someTables : Tables :=
  { Tables.empty with
    map := [shuntEntry, cellEntry, { cellEntry with logical := 4, position := 4 }], pass := passTable, slots := [slotOne],
    params := { Params.empty with
      responseTimeout := 2000, feedbackMs := 50, debounceMs := 10, prechargeRatio := 950, minPackVoltage := 5000,
      prechargeMs := 2000, prechargeCurrent := 20000, breakCurrent := 5000, softOpenMs := 500,
      power := some { period := 30, cycles := 2 } } }

/-- A CONFIGURED part with those tables. -/
def configured : Part := { ready with store := { ready.store with tables := someTables } }

/-- A normal run in its first cycle, which began at pack time 0. -/
def runOne : Run :=
  { kind := .normal, begun := true, cycle := 0, cycleStart := 0, launched := [], cycles := 2, launchEnded := false }

/-- An open sweep of the SHUNT slot, numbered 7, with sample time 2,000 and close time 2,800. -/
def sweepSeven : Sweep :=
  { number := 7, slotIndex := 0, slot := slotOne, runKind := .normal, sampleTime := 2000, closeTime := 2800, target := 1,
    replied := 0, skewed := 0, buffers := [] }

/-- The buffer of the SHUNT: current 1,050 mA, pack voltage 18,251, link voltage `v`. -/
def shuntBuffer (v : BitVec 24) : Buffer :=
  { position := 1, taken := 2000, channels := [(.ok, 1050), (.ok, 18251), (.ok, v)] }

/-- A SAMPLE payload for sweep 7 taken at 2,000 with no channel. -/
def emptySample : List Byte := [0, 7, 0, 0, 7, 0xD0, 0, 0, 0, 0, 0]

/-- A part in PRECHARGING since pack time 1,000, whose SHUNT sweep has its reply and is due to close at 2,800. -/
def precharging (v : BitVec 24) : Part :=
  { configured with
    lines := { feedback := { kNeg := true, kPre := true } },
    seq := { conn := .precharging, kNeg := shut, kPre := shut, tPc := some 1000, prechargeEnd := some 2001000 },
    sched := { packTime := 2800, sweeps := [{ sweepSeven with replied := 1, buffers := [shuntBuffer v] }] } }

/-- A tracker record in SENT for position 3. -/
def sentRecord : TxRecord := { seq := 41, logical := 3, position := 3, code := 0x12, state := .sent 12356 }

/-- A sweep report that waits. -/
def waitingReport : QueuedReport := { cls := .sweep, frame := fromModule 0 .report 0 [0] }

/-- A refusal that waits. -/
def waitingRefusal : ForwardEntry := { frame := fromModule 3 .response 0 [], refusal := true }

/-- The part with `n` reports waiting. -/
def filled (n : Nat) : Part := { ready with reports := { queue := List.replicate n waitingReport } }

/-- An interlock table that gives every class one action, with every wake flag set. -/
def allAct (a : Action) : Option (Vector InterlockEntry 16) :=
  some (Vector.replicate 16 { action := a, latching := false, wake := true })

/-- The part with that interlock table, and the limit set of section 4.8 for every family. -/
def acting (a : Action) (c : Part) : Part :=
  { c with store := { c.store with
      tables := { c.store.tables with
        interlock := allAct a
        limits := some (Vector.replicate 12 { ut := 42000, uc := 41500, lt := 28000, lc := 30000, nt := 3, nc := 2 }) } } }

/-- The part with a CHAIN_SPOOF not yet acknowledged. -/
def spoofed (c : Part) : Part := { c with interlock := { c.interlock with events := FaultClass.chainSpoof.bit } }

/-! ### Tests from the manual -/

/-- R192's example: the nine digits give 29B1 hex. -/
theorem test_crc16 : crc16 [0x31, 0x32, 0x33, 0x34, 0x35, 0x36, 0x37, 0x38, 0x39] = 0x29B1 := by decide +kernel

/-- R193's example: the nine digits give CBF43926 hex. -/
theorem test_crc32 : crc32 [0x31, 0x32, 0x33, 0x34, 0x35, 0x36, 0x37, 0x38, 0x39] = 0xCBF43926 := by decide +kernel

/-- The table of section 4.4. -/
theorem test_corrections :
    correct .cellVoltage 38250 (-420) 15 = 38020 ∧ correct .cellVoltage 65500 2047 511 = 65535 ∧
    correct .cellVoltage 16384 (-2) 0 = 16383 ∧ correct .packCurrent (-2400000) 100 (-250) = -2403912 ∧
    correct .temperature 1580 0 12 = 1550 := by decide +kernel

/-- The limit set of section 4.8. -/
def cellSet : LimitSet := { ut := 42000, uc := 41500, lt := 28000, lc := 30000, nt := 3, nc := 2 }

/-- The cell of section 4.8, through the values it is fed. -/
def fedWith (vs : List Int) : ChanState := vs.foldl (fun x v => (x.feed cellSet v).1) ChanState.normal

/-- Section 4.8: NORMAL with one high value after sweep 5, tripped at sweep 9, still tripped at sweep 13, NORMAL at 14. -/
theorem test_trip_and_clear :
    fedWith [42010, 42100, 41990, 42000, 42050] = { state := .normal, counter := 1, pending := .high } ∧
    (fedWith [42010, 42100, 41990, 42000, 42050, 42080, 42120]).state = .trippedHigh ∧
    fedWith [42050, 42080, 42120, 42200, 41500, 41700, 41400] = { state := .trippedHigh, counter := 1, pending := .none } ∧
    fedWith [42050, 42080, 42120, 42200, 41500, 41700, 41400, 41300] = ChanState.normal := by decide +kernel

/-- Section 2.8: the five commands' decisions in CLOSED with SERVICE_IN deasserted. -/
theorem test_pass_table :
    someTables.decide (command 3 40 0x40).passKey = (.passWhenOpen, 0) ∧
    someTables.decide (command 3 41 0x12).passKey = (.pass, 3) ∧
    someTables.decide (command 4 43 0x22).passKey = (.refuse, 2) ∧
    someTables.decide (command 3 44 0x22).passKey = (.refuse, 255) ∧
    closedPack.passes .passWhenOpen = false := by decide +kernel

/-- Sections 1.5 and 2.8: the wire times of a WAKE, an ENUM and a 12-byte command. -/
theorem test_wire_times :
    (wakeFrame 0).wireTime = 296 ∧ (enumFrame 0).wireTime = 40 ∧
    (fromModule 3 .command 41 [1, 2, 3, 4]).wireTime = 56 := by decide

/-- Section 6.9: a link voltage of 17,410 passes the precharge test of 950 against 18,251, and 16,700 waits. -/
theorem test_precharge_ratio :
    ((precharging 0).prechargeTest { current := 1050, packVoltage := 18251, linkVoltage := 17410, sampleTime := 2000, sweep := 7 }).seq.conn
      = .mainClosing ∧
    ((precharging 0).prechargeTest { current := 1600, packVoltage := 18251, linkVoltage := 16700, sampleTime := 2000, sweep := 7 }).seq.conn
      = .precharging ∧
    ((precharging 0).prechargeTest { current := 23000, packVoltage := 18251, linkVoltage := 5600, sampleTime := 2000, sweep := 7 }).seq.conn
      = .opened := by decide +kernel

/-- Section 3.9: taken 101,561 against S 101,500 is a skew of 61, and 101,498 one of 2. -/
theorem test_skew : skew 101561 101500 = 61 ∧ skew 101498 101500 = 2 := by decide

/-- Section 6.11: the failed check of K+ in an opening is a WELD, which lets DRV_NEG open. -/
theorem test_weld :
    (({ closedPack with
        sched := { packTime := 50000 },
        seq := { conn := .opening, kPos := checking false 50000, kNeg := shut } } : Part).feedbackExpired [] .kPos).seq.kNeg.drive
      = false := by decide +kernel

/-- Section 4.10: cells that add up to 3,648,960 give 18,245 units of 20 mV. -/
theorem test_sum : sum20 [{ position := 1, channel := 1, value := 3648960 }] = 18245 := by decide

/-- Section 2.8: the five commands leave one record, and the refusals REFUSED, NO_ROUTE, SEQ_CLASH and REFUSED. -/
theorem test_five_commands :
    let c := ([command 3 40 0x40, command 3 41 0x12, command 12 42 0x12, command 4 41 0x12, command 4 43 0x22].foldl
      (fun c f => c.admitCommand f)
      { linked .up configured with seq := { conn := .closed, kPos := shut, kNeg := shut } })
    c.router.tracker.map (fun r => (r.seq, r.logical, r.position, r.code)) = [(41, 3, 3, 0x12)] ∧
    c.router.forward.map (fun e => (e.frame.seq, e.frame.status, e.frame.payload)) =
      [(40, 0x83, [0]), (42, 0x84, []), (41, 0x85, []), (43, 0x83, [2])] := by decide +kernel

/-- Section 1.6: from an error count of 1 and a run of 40, the 24th good frame sets both to 0. -/
theorem test_good_frames :
    let c := (List.range 30).foldl (fun c _ => c.goodFrame)
      ({ configured with south := { link := .up, errorCount := 1, goodRun := 40 } } : Part)
    c.south.errorCount = 0 ∧ c.south.goodRun = 6 := by decide +kernel

/-- Section 10.9: a fifth request is an overflow while a programming, and three requests, hold the places. -/
theorem test_overflow :
    let c : Part := { ready with mgmt := { programming := some { seq := 20, offset := 0, data := [] },
                                           requests := List.replicate 3 (request [1]) } }
    (c.acceptRequest (request [4, 0, 0])).mgmt.overflow = 1 ∧ (c.acceptRequest (request [4, 0, 0])).mgmt.requests.length = 3 := by
  decide

/-- Section 6.10: a soft open whose wait expires keeps 61,000 mA and 18,150 as its under-load reading. -/
theorem test_under_load :
    (({ closedPack with
        seq := { conn := .softOpening, kPos := shut, kNeg := shut, softEnd := some 0, openingCause := some (.cls .cellOv) },
        eval := { shunt := some { current := 61000, packVoltage := 18200, linkVoltage := 18150, sampleTime := 0, sweep := 1 } } }
      : Part).softOpenExpired).seq.underLoad = some (61000, 18150) := by decide +kernel

/-- A part in DEEP that took all three feedbacks as open. -/
def deepPart : Part :=
  { ready with power := { state := .deep, openFeedback := { kPos := true, kNeg := true, kPre := true } } }

/-- R146: of WAKE_IN and north activity that arrive together, either order leaves the same part, whose one POWER report
shows both members, and HOST_WAKE stays as it was; with a feedback as the second, HOST_WAKE is asserted in either order;
and with the tamper latch as the second, the report has its member before the latch is set. -/
theorem test_two_wake_sources :
    let c := deepPart.wakeIn [.northActivity] true
    let f := deepPart.wakeIn [.deepFeedbackClosed true false false] true
    let told (c : Part) : List (List Byte) := c.reports.queue.map (fun q => q.frame.payload.take 3)
    c = deepPart.northActivity [.wakeInAssert .asserted] ∧ told c = [[4, 2, 3]] ∧ c.power.hostWake = false ∧
    f = deepPart.deepFeedback [.wakeInAssert .asserted] { kPos := true } ∧ f.power.hostWake = true ∧
    (told f).head? = some [4, 2, 9] ∧ f.seq.conn = .lockedOut ∧
    (told (deepPart.wakeIn [.tamperInAssert .deasserted, .tamperInAssert .asserted] true)) = [[4, 2, 5]] := by
  decide +kernel

/-- R146: a feedback that closes together with the patrol timer's expiry escalates at once, with the member FEEDBACK. -/
theorem test_late_feedback_escalates :
    let c := (deepPart.startPatrol).deepFeedback [] { kNeg := true }
    deepPart.startPatrol.power.state = .patrol ∧ c.power.state = .active ∧ c.power.hostWake = true ∧
    c.seq.conn = .lockedOut ∧ hasClass c.interlock.events .contactorFault = true := by decide +kernel

/-- A part that entered DEEP at pack time 0, at which moment the watch of K+, whose feedback reads closed, was to expire,
and the check of K− for open too. -/
def overtakenPart : Part :=
  { ready with
    lines := { feedback := { kPos := true, kNeg := true } },
    seq := { kPos := { watch := .timing 0 }, kNeg := checking false 0 },
    power := { state := .deep, openFeedback := { kPre := true } } }

/-- R145: a contactor fault that step 6 has overtaken wakes the part, which ends in ACTIVE and LOCKED_OUT with HOST_WAKE
asserted and a POWER report of FEEDBACK from DEEP; with WAKE_IN as a second source the order changes nothing (R146). -/
theorem test_overtaken_fault_wakes :
    let c := overtakenPart.watchExpired [] .kPos
    let d := overtakenPart.feedbackExpired [] .kNeg
    let seen (c : Part) : List (EventKind × Cause) := c.seq.events.map (fun e => (e.kind, e.cause))
    let told (c : Part) : Option (List Byte) := c.reports.queue.head?.map (fun q => q.frame.payload.take 3)
    (c.power.state = .active ∧ c.power.hostWake = true ∧ c.seq.conn = .lockedOut ∧ told c = some [4, 2, 8]) ∧
    seen c = [(.feedbackLost, .cls .contactorFault), (.lockoutEnter, .cls .contactorFault)] ∧
    (d.power.state = .active ∧ told d = some [4, 2, 8] ∧
      seen d = [(.weld, .cls .contactorFault), (.lockoutEnter, .cls .contactorFault)]) ∧
    overtakenPart.watchExpired [.wakeInAssert .asserted] .kPos =
      (overtakenPart.wakeIn [.watchExpiry .kPos] true).watchExpired [] .kPos := by decide +kernel

/-- R113, R106, R107: an effective action of LOCKOUT in OPENING gives lockout pending its own class as cause; a fault in
LOCKED_OUT sets lockout pending, and the way to OPEN clears it. -/
theorem test_lockout_pending :
    let c := spoofed (acting .lockout { configured with seq := { conn := .opening, pendingLockout := some .contactorFault } })
    let locked : Part := { ready with
      lines := { feedback := { kPos := true } }, seq := { conn := .lockedOut, kPos := { watch := .timing 0 } } }
    let d := locked.watchExpired [] .kPos
    c.refreshAction.seq.pendingLockout = some .chainSpoof ∧
    (d.seq.conn = .lockedOut ∧ d.seq.pendingLockout = some .contactorFault) ∧
    (d.leaveLockedOut.seq.conn = .opened ∧ d.leaveLockedOut.seq.pendingLockout = none) := by decide +kernel

/-- R118, R119, R178: a power loss before the write of a lockout flag, of its clear, or of a tamper latch's clear is
complete finds the old record. -/
theorem test_cut_write_leaves_old_record :
    let cut (old : Option ServiceRecord) (new : ServiceRecord) : Option ServiceRecord :=
      ({ ready with store := { ready.store with record := old, write := .inProgress new 6000 } } : Part).resetPart.store.record
    cut none { lockout := true } = none ∧ cut (some { lockout := true }) {} = some { lockout := true } ∧
    cut (some { tamper := true }) {} = some { tamper := true } := by decide +kernel

/-- R161: a tamper edge in DEEP whose class has the action LOCKOUT asks for one record write, which carries the lockout
flag with the latch. -/
theorem test_tamper_lockout_write :
    let c := (acting .lockout deepPart).tamperIn [] true
    c.power.state = .active ∧ c.seq.conn = .lockedOut ∧
    c.store.write = .inProgress { tamper := true, lockout := true } 6000 := by decide +kernel

/-- R134: a close whose SHUNT current trips at once makes the FAULT report of the trip before that of the lost position
4, and the EVENT report of the opening that PACK_OC asks for after both. -/
theorem test_events_follow_faults :
    let set : LimitSet := { ut := 1000, uc := 900, lt := -1000, lc := -900, nt := 1, nc := 1 }
    let c : Part :=
      { precharging 0 with
        store := { configured.store with
          tables := { someTables with
            limits := some (Vector.replicate 12 set), interlock := allAct .openNow,
            header := { someTables.header with missedLimit := 1 } } } }
    let w : Sweep := { sweepSeven with target := 9, replied := 1, buffers := [shuntBuffer 0] }
    ((Part.closeSweep w { c with sched.sweeps := [w] }).reports.queue.map (fun q => q.frame.payload.headD 0)) = [2, 2, 3] := by
  decide +kernel

/-- R165: with the kind byte 5 in entry 0 of two, and the SHUNT in entry 1, the failing index is 0. -/
theorem test_first_failing_map_entry :
    let entry (logical kind cells : Byte) : List Byte := [logical, logical, kind] ++ be 6 7 ++ [cells, 0] ++ List.replicate 34 0
    let m : Memory := Memory.writeAll [] 0 (List.replicate 13 0 ++ be 2 16 ++ [2] ++ entry 1 5 1 ++ entry 2 1 0)
    mapKindByte m 0 = 5 ∧ mapEntryOk m 1 = true ∧ validateMap m = some 0 := by decide +kernel

/-- R173: a foreign flag that the new map clears does not lock the pack out, though its class has LOCKOUT in the new
table. -/
theorem test_switch_recheck_before_action :
    let reply (k : ModuleKind) (identity : BitVec 48) (cells : Nat) : Option EnumReply :=
      some { identity := identity, kind := k, cells := cells, temps := 0 }
    let replies :=
      setPos (setPos (setPos (Vector.replicate 16 none) 1 (reply .shunt 7 0)) 3 (reply .cell 9 1)) 4 (reply .cell 9 1)
    let c : Part :=
      { acting .lockout configured with
        south := { link := .up, bringDue := none, foreign := 4, replies := replies },
        interlock := { tripped := [{ cls := .moduleForeign, position := 3, channel := none }], effective := .report } }
    c.switchTables.seq.conn = .opened ∧ c.switchTables.south.foreign = 0 ∧ c.switchTables.interlock.effective = .none := by
  decide +kernel

/-! ### WellFormed refuses what does not fit its row -/

theorem test_wellFormed_refuses :
    (Instr.northFrameCheckFail (.frame (request [1]).bytes)).wellFormed = false ∧
    (Instr.northFrameDiscard (request [1]).bytes).wellFormed = false ∧
    (Instr.mgmtReqAccept (command 3 1 0x12).bytes).wellFormed = false ∧
    (Instr.northCommand (command 31 1 0x12).bytes).wellFormed = false ∧
    (Instr.broadcastCommand (command 3 1 0x12).bytes).wellFormed = false ∧
    (Instr.southFrameCheckFail (.frame (request [1]).bytes)).wellFormed = false ∧
    (Instr.southResponse (fromModule 17 .response 1 []).bytes).wellFormed = false ∧
    (Instr.sample (fromModule 0 .sample 1 []).bytes).wellFormed = false ∧
    (Instr.enumReply (fromModule 1 .enum 1 []).bytes).wellFormed = false ∧
    (Instr.chainSpoof (fromModule 1 .response 1 []).bytes).wellFormed = false ∧
    (Instr.southFrameDiscard (request [1]).bytes).wellFormed = false ∧
    (Instr.slotLaunchTime 24).wellFormed = false ∧
    (Instr.deepFeedbackClosed false false false).wellFormed = false := by decide +kernel

theorem test_wellFormed_accepts :
    (Instr.northFrameCheckFail .overrun).wellFormed = true ∧
    (Instr.northFrameDiscard (command 0 1 1).bytes).wellFormed = true ∧
    (Instr.mgmtReqAccept (request []).bytes).wellFormed = true ∧
    (Instr.northCommand (command 30 1 0x12).bytes).wellFormed = true ∧
    (Instr.broadcastCommand (command 31 1 0x12).bytes).wellFormed = true ∧
    (Instr.southFrameCheckFail .cut).wellFormed = true ∧
    (Instr.southResponse (fromModule 16 .response 1 []).bytes).wellFormed = true ∧
    (Instr.sample (fromModule 1 .sample 1 []).bytes).wellFormed = true ∧
    (Instr.enumReply (fromModule 1 .enumReply 1 []).bytes).wellFormed = true ∧
    (Instr.chainSpoof (request []).bytes).wellFormed = true ∧
    (Instr.southFrameDiscard (fromModule 17 .response 1 []).bytes).wellFormed = true ∧
    (Instr.slotLaunchTime 23).wellFormed = true ∧
    (Instr.deepFeedbackClosed false false true).wellFormed = true := by decide +kernel

/-! ### Witnesses: steps, invariants and rules of the whole part -/

theorem witness_ClocksAdvanceOnIdleSteps :
    fresh.power.state ≠ .deep ∧ (inPower .deep .none ready).power.state = .deep ∧
    restarts .cycleStart = false ∧ Instr.cycleStart ≠ .setTime ∧ exec .cycleStart ⟨fresh, []⟩ = .next ⟨fresh, []⟩ :=
  ⟨by decide, by decide, by decide, by decide, rfl⟩

/-- A CLOSED pack that is told to open. -/
theorem witness_ContactorLawsAreKept :
    (asked [8] closedPack).contactorLaws = true ∧ ∃ s', step ⟨asked [8] closedPack, [.disconnectNow]⟩ = .next s' :=
  ⟨by decide, _, rfl⟩

/-- A part that switches: the floor it is writing is above the one in memory. -/
def switchingPart : Part :=
  { ready with
    store := { ready.store with
      record := some { active := some .b, floor := 3 }, copy := { active := some .a, floor := 4 },
      write := .inProgress { active := some .a, floor := 4 } 6000, update := .switching, switch := .writing,
      bankA := { bytes := [(0, 0x4A)], state := .staged }, bankB := { bytes := [], state := .active },
      staged := some 4, versionInUse := some 3 },
    sched := { packTime := 6000 } }

theorem witness_FloorLawsAreKept :
    switchingPart.floorLaws = true ∧ ∃ s', step ⟨switchingPart, [.recordWriteComplete]⟩ = .next s' :=
  ⟨by decide, _, rfl⟩

/-- A part that programs the last byte of bank A. -/
def programmingPart : Part :=
  { ready with
    store := { ready.store with update := .ready, bankA := { bytes := [(4095, 0x12)], state := .erased } },
    mgmt := { programming := some { seq := 5, offset := 4095, data := [0x34] } } }

theorem witness_BankLawsAreKept :
    programmingPart.bankLaws = true ∧ ∃ s', step ⟨programmingPart, [.writeProgrammingEnd]⟩ = .next s' :=
  ⟨by decide, _, rfl⟩

/-- A full report queue, and a request that makes a report. -/
theorem witness_BoundLawsAreKept :
    (filled 56).boundLaws = true ∧ ∃ s', step ⟨filled 56, [.supervisionExpiry]⟩ = .next s' :=
  ⟨by decide +kernel, _, rfl⟩

theorem witness_RecordFloorNeverFalls :
    switchingPart.floorLaws = true ∧ switchingPart.store.recordAsRead.floor = 3 ∧
    ∃ s', step ⟨switchingPart, [.powerOn]⟩ = .next s' := ⟨by decide, by decide, _, rfl⟩

theorem witness_TablesInUseAreKept :
    restarts .status = false ∧ Instr.status ≠ .boot ∧ Instr.status ≠ .tableLoadComplete ∧
    ∃ t, exec .status ⟨asked [1] configured, []⟩ = .next ⟨t, []⟩ :=
  ⟨by decide, by decide, by decide, _, rfl⟩

theorem witness_ActiveBankBytesAreKept :
    switchingPart.store.copy.active = some .a ∧ ∃ t, exec .powerOn ⟨switchingPart, []⟩ = .next ⟨t, []⟩ :=
  ⟨by decide, _, rfl⟩

/-- A CONNECT that closes, seen by its result. -/
theorem witness_OpenIsLeftOnlyByConnect :
    ready.seq.conn = .opened ∧ ∃ t, exec .connect ⟨asked [6] ready, []⟩ = .next ⟨t, []⟩ ∧ t.seq.conn = .negClosing :=
  ⟨by decide, _, rfl, by decide⟩

/-- A LOCKED_OUT part in service, every feedback open. -/
def lockedPart : Part :=
  { ready with
    lines := { serviceIn := true }, seq := { conn := .lockedOut },
    store := { ready.store with copy := { lockout := true } } }

theorem witness_LockedOutIsLeftOnlyByClearLockout :
    lockedPart.seq.conn = .lockedOut ∧ restarts .clearLockout = false ∧
    ∃ t, exec .clearLockout ⟨asked [9] lockedPart, []⟩ = .next ⟨t, []⟩ ∧ t.seq.conn = .opened :=
  ⟨by decide, by decide, _, rfl, by decide +kernel⟩

theorem witness_MainPositiveClosesOnlyFromPrecharging :
    (precharging 17410).seq.kPos.drive = false ∧
    ∃ t, exec (.sweepCloseTime 7) ⟨precharging 17410, []⟩ = .next ⟨t, []⟩ ∧ t.seq.kPos.drive = true :=
  ⟨by decide, _, rfl, by decide +kernel⟩

theorem witness_ActiveIsLeftOnlyBySleep :
    ready.power.state = .active ∧
    ∃ t, exec .sleep ⟨asked [13] ready, []⟩ = .next ⟨t, []⟩ ∧ t.power.state = .sleepEntry :=
  ⟨by decide, _, rfl, by decide⟩

/-- A part whose tamper latch is set, with the cover closed and SERVICE_IN asserted. -/
def tamperedPart : Part :=
  { ready with
    lines := { serviceIn := true }, store := { ready.store with copy := { tamper := true } },
    interlock := { tripped := [packObject .tamper] } }

theorem witness_TamperLatchIsClearedOnlyByClearTamper :
    tamperedPart.store.recordRead = true ∧ tamperedPart.store.copy.tamper = true ∧ restarts .clearTamper = false ∧
    ∃ t, exec .clearTamper ⟨asked [23] tamperedPart, []⟩ = .next ⟨t, []⟩ ∧ t.store.copy.tamper = false :=
  ⟨by decide, by decide, by decide, _, rfl, by decide +kernel⟩

/-! ### Witnesses: corrections, channels, frames, the pass table and reports -/

/-- A tie, a gain of 0, a code of 0, and the offsets that reach the ends of the ranges. -/
theorem witness_CorrectionsAreExact :
    ((65536 * (-1) - 16384 * (-2) : Int)).natAbs = 32768 ∧ ((0 : Int) = 0 ∨ (5 : Int) = 0) ∧
    (-128 ≤ (127 : Int) ∧ (127 : Int) ≤ 127) ∧ (-1 : Int) < 0 := by decide

/-- Each row of R70 and R71 at its boundary, with the set of section 4.8; an object one short of its trip and of its clear;
and a sum-bearing sweep of the SHUNT and the cells 3 and 4, whose replies have all come, and one that lacks the cell 4. -/
theorem witness_ChannelIsFed :
    (let o : ObjState := { tripped := false, counter := 1 }
     o.tripped = false ∧ o.counter + 1 < 3 ∧ 2 ≤ o.counter + 1) ∧
    (let o : ObjState := { tripped := true, counter := 1 }
     o.tripped = true ∧ o.counter + 1 < 3 ∧ 2 ≤ o.counter + 1) ∧
    (16 ∈ allPositions ∧ (acting .report configured).store.tables.limitSet .senseFault .patrol = some cellSet ∧
      (acting .report configured).store.tables.limitSet .moduleLost .normal = some cellSet ∧
      (acting .report configured).store.tables.limitSet .sumDeviation .normal = some cellSet) ∧
    (let t := (acting .report configured).store.tables
     let cell (p : Nat) : Buffer := { position := p, taken := 2000, channels := [(.ok, 38000)] }
     let w : Sweep := { sweepSeven with
       slot := { slotOne with kind := .sweep, target := 13 }, target := 13, replied := 13,
       buffers := [shuntBuffer 0, cell 3, cell 4] }
     shuntValue (w.replies t) 2 = some 18251 ∧ (w.slot.kind = .sweep ∧ w.replied = w.target ∧ w.skewed = 0) ∧
     (∀ p ∈ t.cellPositions, hasPos w.slot.target p = true) ∧ t.shuntPosition = some 1 ∧ hasPos w.slot.target 1 = true ∧
     (∀ x ∈ w.replies t, ∀ v ∈ x.2.channels, v.status = .ok) ∧ ¬ ({ w with replied := 5 } : Sweep).replied = w.target) ∧
    (ChanState.normal.state = .normal ∧ cellSet.lt ≤ cellSet.ut ∧ cellSet.ut < 42001 ∧ 1 < cellSet.nt) ∧
    (cellSet.ut < 42001 ∧ cellSet.nt ≤ (fedWith [42001, 42001]).counter + 1 ∧ (fedWith [42001, 42001]).pending = .high) ∧
    (27999 < cellSet.lt ∧ 1 < cellSet.nt) ∧
    (27999 < cellSet.lt ∧ cellSet.nt ≤ (fedWith [27999, 27999]).counter + 1 ∧ (fedWith [27999, 27999]).pending = .low) ∧
    (cellSet.lt ≤ 42000 ∧ 42000 ≤ cellSet.ut) ∧
    ((fedWith [42001, 42001, 42001]).state = .trippedHigh ∧ cellSet.uc < 41501 ∧ 41500 ≤ cellSet.uc ∧
      (fedWith [42001, 42001, 42001]).counter + 1 < cellSet.nc) ∧
    ((fedWith [42001, 42001, 42001, 41500]).state = .trippedHigh ∧
      cellSet.nc ≤ (fedWith [42001, 42001, 42001, 41500]).counter + 1) ∧
    ((fedWith [27999, 27999, 27999]).state = .trippedLow ∧ 29999 < cellSet.lc ∧ cellSet.lc ≤ 30000 ∧
      (fedWith [27999, 27999, 27999]).counter + 1 < cellSet.nc) ∧
    ((fedWith [27999, 27999, 27999, 30000]).state = .trippedLow ∧
      cellSet.nc ≤ (fedWith [27999, 27999, 27999, 30000]).counter + 1) := by decide +kernel

/-- A frame with a full payload, and one with none. -/
theorem witness_FramesAreReadBack :
    (wakeFrame 3).payload.length = 64 ∧ parseFrame (request []).bytes = some (request []) := by decide +kernel

/-- Entry 3 decides sequence 41 of section 2.8, and nothing decides sequence 44 of our own. -/
theorem witness_PassTableDecides :
    (someTables.pass[3]? = some { key := 0x00001000, mask := 0x00FFF000, action := .pass } ∧
      (∀ b < 32, (0x00FFF000 : BitVec 32).getLsbD b = true →
        (command 3 41 0x12).passKey.getLsbD b = (0x00001000 : BitVec 32).getLsbD b) ∧
      (∀ (m : Nat) (x : PassEntry), m < 3 → someTables.pass[m]? = some x →
        ∃ b < 32, x.mask.getLsbD b = true ∧ (command 3 41 0x12).passKey.getLsbD b ≠ x.key.getLsbD b)) ∧
    (∀ e ∈ someTables.pass, ∃ b < 32, e.mask.getLsbD b = true ∧
      (command 3 44 0x22).passKey.getLsbD b ≠ e.key.getLsbD b) := by
  refine ⟨⟨by decide, by decide +kernel, fun m x h hx => ?_⟩, by decide +kernel⟩
  have all : ∀ e ∈ someTables.pass.take 3, ∃ b < 32, e.mask.getLsbD b = true ∧
      (command 3 41 0x12).passKey.getLsbD b ≠ e.key.getLsbD b := by decide +kernel
  exact all x (List.mem_of_getElem? (by rw [List.getElem?_take_of_lt h]; exact hx))

/-- The fills 55, 56, 63 and 64. -/
theorem witness_ReportIsAdmittedByFill :
    (filled 55).reports.queue.length < 56 ∧ 56 ≤ (filled 56).reports.queue.length ∧
    (filled 63).reports.queue.length < 64 ∧ 64 ≤ (filled 64).reports.queue.length ∧
    ((filled 56).reports.queue.length ≤ 64 ∧
      ((filled 56).reports.queue.filter (fun q => decide (q.cls = .sweep))).length ≤ 56) := by decide

/-! ### Witnesses: starting the part -/

theorem witness_ResetTakesEveryBlockToItsResetValues :
    (closedPack.store.write = .idle ∧ closedPack.store.update ≠ .erasing ∧ closedPack.mgmt.programming = none) ∧
    (({ ready with mgmt := { restart := .answered 0 } } : Part).mgmt.restart = .answered 0 ∧
      atOrAfter ready.sched.packTime 0 = true) ∧
    switchingPart.store.write ≠ .idle ∧ fresh.mgmt.restart = .notTaken ∧
    atOrAfter ready.sched.packTime 1 = false := by decide

/-- A programming of address 4095 of the target bank A leaves address 4094, and bank B. -/
theorem witness_ResetCutsOffMemoryWrites :
    (Instr.powerOn = .powerOn ∨ Instr.powerOn = .resetN) ∧ BankName.b ≠ programmingPart.store.target ∧
    programmingPart.store.update ≠ .erasing ∧
    (∀ p, programmingPart.mgmt.programming = some p → 4094 < p.offset ∨ p.offset + p.data.length ≤ 4094) :=
  ⟨by decide, by decide, by decide, fun p h => by cases h; decide⟩

/-- The body of a small image of version 1: the SHUNT alone, no slots, one limit set for each family and run kind, and the
interlock table with LOCKOUT for CONTACTOR_FAULT. -/
def imageBody : List Byte :=
  let tables : List (Nat × Nat) := [(28, 1), (54, 1), (99, 0), (100, 0), (113, 12), (329, 16)]
  [0x4A, 0x43, 0x31, 0x36] ++ be 4 1 ++ be 2 365 ++ (tables.map (fun d => be 2 d.1 ++ be 1 d.2)).flatten ++
  (be 1 8 ++ be 2 1000 ++ be 2 100 ++ be 1 50 ++ be 1 5 ++ be 2 900 ++ be 2 1 ++ be 2 1000 ++ be 4 1000 ++ be 4 1000 ++
    be 2 100 ++ be 2 10 ++ be 1 3) ++
  (be 1 1 ++ be 1 1 ++ be 1 1 ++ be 6 7 ++ be 1 0 ++ be 1 0 ++ List.replicate 34 0) ++ [0] ++
  (be 4 10000 ++ be 2 1000 ++ be 2 100 ++ be 1 3 ++ be 2 100 ++ be 1 48 ++ be 1 32) ++
  (List.range 12).flatMap (fun i => match i / 2 with
    | 0 => be 4 42000 ++ be 4 41000 ++ be 4 28000 ++ be 4 29000 ++ [3, 3]
    | 1 => be 4 600 ++ be 4 550 ++ be 4 0 ++ be 4 10 ++ [3, 3]
    | 2 => be 4 600 ++ be 4 550 ++ be 4 0 ++ be 4 10 ++ [3, 3]
    | 3 => be 4 600 ++ be 4 550 ++ be 4 0 ++ be 4 0 ++ [3, 3]
    | 4 => be 4 0 ++ be 4 0 ++ be 4 0 ++ be 4 0 ++ [3, 3]
    | _ => be 4 0 ++ be 4 0 ++ be 4 0 ++ be 4 0 ++ [1, 1]) ++
  (List.range 16).flatMap (fun i => if i = 13 then [5, 0] else [3, 0])

/-- The bank that holds it, with its CRC-32 as another program computes it. -/
def imageBank : Memory := (List.range 365).zip (imageBody ++ be 4 0x635A3701)

/-- A part before its boot, with that image in bank A and a service record that names it with a floor `n`. -/
def beforeBoot (n : Nat) : Part :=
  { fresh with
    store := { fresh.store with
      bankA := { bytes := imageBank, state := .erased }, record := some { active := some .a, floor := n } } }

set_option maxRecDepth 100000 in
/-- The image of version 1 passes every check of R164 but the version test, which is the caller's. -/
theorem test_imageBank_checks :
    formatOk imageBank = true ∧ lengthOk imageBank = true ∧ crcOk imageBank = true ∧
      imageVersion imageBank = 1 ∧ validateTables imageBank = none := by decide +kernel

/-- So the version test alone decides on it. -/
theorem test_imageBank_version (versionOk : Nat → Bool) :
    checkImage imageBank versionOk = if versionOk 1 then .staged else .versionLow := by
  obtain ⟨hf, hl, hc, hv, ht⟩ := test_imageBank_checks
  cases h : versionOk 1 <;> simp [checkImage, hf, hl, hc, hv, ht, h]

/-- The image of version 1 is taken at the floor 1 and not at the floor 2. -/
theorem witness_BootTakesTheActiveImage :
    (fresh.store.state = .loading ∧ (fresh.store.record.getD {}).active = none) ∧ ready.store.state ≠ .loading ∧
    ((beforeBoot 1).store.record.getD {}).active = some .a ∧
    checkImage imageBank (fun v => decide (v = 1)) = .staged ∧
    checkImage imageBank (fun v => decide (v = 2)) ≠ .staged ∧
    (fresh.store.recordRead = false ∧ ready.store.recordRead = true ∧
      (({} : ServiceRecord).tamper = false ∧ ({ tamper := true, lockout := true } : ServiceRecord).tamper = true)) ∧
    (Tables.empty.header.highMark ≤ (filled 48).reports.queue.length ∧
      (filled 32).reports.queue.length ≤ Tables.empty.header.lowMark ∧
      (filled 32).reports.queue.length < Tables.empty.header.highMark) := by
  simp only [test_imageBank_version]
  decide +kernel

/-! ### Witnesses: the north link -/

theorem witness_NorthFramesThatGoNowhereAreCounted :
    (ready.power.state = .active ∨ ready.power.state = .sleepEntry) ∧ checkReception .overrun = none ∧
    checkReception (.frame []) = none ∧
    (∃ f, checkReception (.frame { request [] with dest := 1 }.bytes) = some f ∧ f.kind = .mgmtReq ∧ f.dest ≠ 0) ∧
    (∃ f, checkReception (.frame (command 0 1 1).bytes) = some f ∧ f.kind = .command ∧ f.dest = 0) ∧
    (∃ f, checkReception (.frame (wakeFrame 1).bytes) = some f ∧ f.kind ≠ .mgmtReq ∧ f.kind ≠ .command) :=
  ⟨by decide, by decide, by decide,
    ⟨{ request [] with dest := 1 }, by decide +kernel⟩, ⟨command 0 1 1, by decide +kernel⟩,
    ⟨wakeFrame 1, by decide +kernel⟩⟩

/-- The part with `n` requests waiting. -/
def crowded (n : Nat) (c : Part) : Part := { c with mgmt := { c.mgmt with requests := List.replicate n (request [1]) } }

/-- A part whose host has been silent. -/
def silentPart : Part :=
  { ready with interlock := { supervision := none, silence := true, tripped := [packObject .hostSilent] } }

theorem witness_ManagementRequestIsAccepted :
    checkReception (.frame (request []).bytes) = some (request []) ∧ (request []).kind = .mgmtReq ∧
    (request []).dest = 0 ∧ (inPower .sleepEntry .step3 ready).power.state = .sleepEntry ∧
    ((crowded 3 ready).mgmt.places < 4 ∧ (crowded 3 ready).interlock.silence = false) ∧
    ((crowded 3 silentPart).mgmt.places < 4 ∧ (crowded 3 silentPart).interlock.silence = true) ∧
    4 ≤ (crowded 4 ready).mgmt.places := by decide +kernel

/-- The router with `n` frames in the south queue, a record with sequence 41, and the south link in `l`. -/
def routing (n : Nat) (l : LinkState) : Part :=
  { linked l configured with
    router := { southQueue := List.replicate n { frame := command 31 0 0x12, tracked := false }, tracker := [sentRecord] } }

theorem witness_CommandIsForwardedOrRefused :
    (checkReception (.frame (command 30 1 0x12).bytes) = some (command 30 1 0x12) ∧
      someTables.byLogical 30 = none) ∧
    (checkReception (.frame (command 1 42 0x12).bytes) = some (command 1 42 0x12) ∧
      someTables.byLogical 1 = some shuntEntry) ∧
    (routing 7 .up).passes (someTables.decide (command 1 42 0x71).passKey).1 = false ∧
    (routing 7 .up).passes (someTables.decide (command 1 42 0x12).passKey).1 = true ∧
    (∃ r ∈ (routing 7 .up).router.tracker, r.seq = (command 1 41 0x12).seq) ∧
    (¬ ∃ r ∈ (routing 7 .up).router.tracker, r.seq = (command 1 42 0x12).seq) ∧
    8 ≤ (routing 8 .up).router.southQueue.length ∧
    ((routing 7 .up).power.state ≠ .sleepEntry ∧ (routing 7 .up).router.trackedLoad < 8 ∧
      (routing 7 .up).router.southQueue.length < 8) ∧
    (routing 7 .down).south.link = .down ∧ (routing 7 .up).south.link ≠ .down ∧
    (checkReception (.frame (command 31 42 0x12).bytes) = some (command 31 42 0x12) ∧ (command 31 42 0x12).dest = 31 ∧
      (routing 7 .up).passes (someTables.decide (command 31 42 0x12).passKey).1 = true ∧
      (routing 7 .up).passes (someTables.decide (command 31 42 0x71).passKey).1 = false) ∧
    ((routing 7 .up).router.refusals < 4 ∧
      ¬ ({ forward := List.replicate 4 waitingRefusal } : Router).refusals < 4) := by decide +kernel

/-- A frame of 8 bytes that started at pack time 0: the link is free again at 44. -/
def startedAtZero (tag : WireTag) (taken : Bool) (f : Frame) : OnWire :=
  { frame := f, start := 0, tag := tag, endTaken := taken }

/-- The part at a pack time. -/
def atTime (t : Time) (c : Part) : Part := { c with sched := { c.sched with packTime := t } }

/-- A part whose north link has been held by an 8-byte frame since pack time 0, with a response that waits. -/
def answering : Part :=
  { ready with
    north := { wire := some (startedAtZero .plain false (enumFrame 0)) },
    mgmt := { responses := [{ frame := request [], restart := true }], restart := .taken } }

/-- The first moment that the link is free, the last that it is not, and a part for each place of the arbiter. -/
theorem witness_NorthTransmitterTakesByPriority :
    ((atTime 44 answering).power.state = .active ∧
      linkFree (atTime 44 answering).sched.packTime (atTime 44 answering).north.wire = true ∧
      (atTime 44 answering).mgmt.responses = { frame := request [], restart := true } :: []) ∧
    linkFree (atTime 43 answering).sched.packTime (atTime 43 answering).north.wire = false ∧
    (({ ready with router := { forward := [waitingRefusal] } } : Part).router.forward = waitingRefusal :: [] ∧
      ready.power.state = .active ∧ linkFree ready.sched.packTime ready.north.wire = true ∧ ready.mgmt.responses = []) ∧
    ((filled 1).power.state = .active ∧ (filled 1).mgmt.responses = [] ∧ (filled 1).router.forward = [] ∧
      (filled 1).reports.queue = waitingReport :: [] ∧ linkFree (filled 1).sched.packTime (filled 1).north.wire = true) ∧
    (inPower .deep .none ready).power.state = .deep ∧ (inPower .patrol .running ready).power.state = .patrol ∧
    (ready.mgmt.responses = [] ∧ ready.router.forward = [] ∧ ready.reports.queue = []) ∧
    ((inPower .sleepEntry .step3 (filled 1)).mgmt.responses = [] ∧ (inPower .sleepEntry .step3 (filled 1)).router.forward = [] ∧
      (inPower .sleepEntry .step3 (filled 1)).power.state = .sleepEntry) := by decide

/-! ### Witnesses: wakes -/

theorem witness_WakeEventsReturnToActive :
    ((inPower .sleepEntry .step3 ready).lines.wakeIn = false ∧ (inPower .sleepEntry .step3 ready).power.state ≠ .active) ∧
    (deepPart.power.state = .deep ∨ deepPart.power.state = .patrol) ∧
    ((inPower .patrol .running ready).power.state = .deep ∨ (inPower .patrol .running ready).power.state = .patrol) ∧
    (deepPart.power.state = .deep ∧ ∃ a b d, Instr.deepFeedbackClosed false false true = .deepFeedbackClosed a b d ∧
      ((a = true ∧ deepPart.power.openFeedback.kPos = true) ∨ (b = true ∧ deepPart.power.openFeedback.kNeg = true) ∨
        (d = true ∧ deepPart.power.openFeedback.kPre = true))) :=
  ⟨by decide, by decide, by decide, by decide, false, false, true, rfl, by decide⟩

/-- A part in PATROL with its link UP, one frame check failure short of its loss, and every wake flag as `w` says. -/
def patrolPart (w : Bool) : Part :=
  let c := acting .report (inPower .patrol .running { configured with
    south := { link := .up, errorCount := 7, bringDue := none } })
  { c with store := { c.store with tables := { c.store.tables with
      interlock := some (Vector.replicate 16 { action := .report, latching := false, wake := w }) } } }

/-- The escalations of a patrol, by an activation and by the link, and two sources that arrive together in DEEP. -/
theorem witness_WakeEventsReturnToActive_together :
    (deepPart.lines.wakeIn = false ∧ deepPart.power.state ≠ .active ∧ deepPart.power.escalating = none ∧
      deepPart.power.closedFeedback = { kPos := false, kNeg := false, kPre := false }) ∧
    ((patrolPart true).power.state = .patrol ∧ (patrolPart true).south.link ≠ .off ∧
      sortSouth (.frame (request [6]).bytes) = .spoof ∧ (patrolPart true).store.tables.wakes .chainSpoof = true ∧
      hasClass (patrolPart true).interlock.events .chainSpoof = false ∧
      (patrolPart false).store.tables.wakes .chainSpoof = false ∧
      hasClass (spoofed (patrolPart true)).interlock.events .chainSpoof = true) ∧
    (checkReception .cut = none ∧ (patrolPart true).south.link = .up ∧ (patrolPart true).power.step ≠ .returning ∧
      (patrolPart true).store.tables.params.linkThreshold ≤ (patrolPart true).south.errorCount + 1 ∧
      (patrolPart false).store.tables.wakes .linkDown = false) ∧
    (let c : Part := { deepPart with power := { deepPart.power with patrolTimer := some 0 } }
     c.power.state = .deep ∧ c.power.patrolTimer = some 0 ∧ c.power.openFeedback.kPos = true ∧
      c.seq.conn = .opened ∧ c.lines.wakeIn = false ∧ (∀ j ∈ [Instr.recordWriteComplete], j.wakes = false)) ∧
    ((patrolPart true).power.escalating = none ∧ deepPart.power.openFeedback.kPre = true) := by decide +kernel

/-- The payloads of the reports that wait. -/
def reportPayloads (c : Part) : List (List Byte) := c.reports.queue.map (fun r => r.frame.payload)

/-- R137, R148: the POWER report of a wake by north activity is the one report made; that of a feedback wake comes
before the reports of its fault. -/
theorem test_wake_reports :
    reportPayloads (Part.northActivity [] deepPart) = [[4, 2, 2, 0, 0, 0, 0, 0, 0, 0]] ∧
    (reportPayloads (Part.deepFeedback [] { kPre := true } deepPart)).head? = some [4, 2, 8, 0, 0, 0, 0, 0, 0, 0] := by
  decide +kernel

/-! ### Witnesses: received south frames -/

/-- The south link UP with an error count and a good-frame run. -/
def linkUp (errors run : Nat) : Part :=
  { configured with south := { link := .up, errorCount := errors, goodRun := run, bringDue := none } }

theorem witness_SouthCheckFailuresTakeTheLinkDown :
    checkReception .cut = none ∧ (linked .off ready).south.link = .off ∧
    (linked .enumerating ready).south.link = .enumerating ∧
    ((linkUp 6 0).south.link = .up ∧ (linkUp 6 0).south.errorCount + 1 < (linkUp 6 0).store.tables.params.linkThreshold) ∧
    ((linkUp 7 0).store.tables.params.linkThreshold ≤ (linkUp 7 0).south.errorCount + 1 ∧
      (linkUp 7 0).power.state ≠ .patrol) := by decide

/-- The frame check passes a frame for destination `d`. -/
def checked (f : Frame) : Bool := decide (parseFrame f.bytes = some f)

/-- Each row of R5's table, with the sources 0, 1, 16 and 17 and the destinations 0, 1, 31 and 32 at its ends. -/
theorem witness_SouthFramesOfNoUseAreCounted_sorting :
    (checked { fromModule 1 .sample 1 [] with dest := 1 } ∧ checked { fromModule 1 .sample 1 [] with dest := 31 } ∧
      checked { fromModule 1 .sample 1 [] with dest := 32 }) ∧
    (checked (fromModule 17 .command 1 []) ∧ Kind.command.code = 0 ∧ checked (fromModule 0 .mgmtReq 1 []) ∧
      Kind.mgmtReq.code = 9) ∧
    (checked (fromModule 1 .response 1 []) ∧ Kind.response.code = 1 ∧ checked (fromModule 16 .sample 1 []) ∧
      Kind.sample.code = 3 ∧ checked (fromModule 16 .enumReply 1 []) ∧ Kind.enumReply.code = 6) ∧
    (checked (fromModule 0 .response 1 []) ∧ checked (fromModule 17 .sample 1 []) ∧ checked (fromModule 0 .enumReply 1 [])) ∧
    ([Kind.trigger, .sync, .enum, .wake, .sleep, .mgmtRsp, .report].all (fun k => checked (fromModule 1 k 1 []))) ∧
    checkReception .overrun = none := by and_intros <;> decide +kernel

theorem witness_SouthFramesOfNoUseAreCounted :
    sortSouth (.frame ({ fromModule 1 .response 1 [] with dest := 1 } : Frame).bytes) = .discard ∧
    (linked .off ready).south.link = .off ∧ (linked .down ready).south.link = .down ∧
    ((linkUp 3 62).south.link = .up ∧ (linkUp 3 62).south.goodRun + 1 < 64) ∧ 64 ≤ (linkUp 3 63).south.goodRun + 1 := by
  decide +kernel

theorem witness_ResponseIsReturnedOrLate :
    (routing 0 .up).south.link ≠ .off ∧
    sortSouth (.frame (fromModule 3 .response 41 [0x12]).bytes) = .response 3 (fromModule 3 .response 41 [0x12]) ∧
    (routing 0 .up).router.tracker = [] ++ sentRecord :: [] ∧ sentRecord.state = .sent 12356 ∧ sentRecord.position = 3 ∧
    sentRecord.seq = (fromModule 3 .response 41 [0x12]).seq ∧
    (∀ x ∈ (routing 0 .up).router.tracker, x.seq = 41 → x.position = 2 → x.state = .queued) := by decide +kernel

/-- A tracked command of 10 bytes that started at pack time 0 and ends at 48. -/
def commanding (t : Time) : Part :=
  atTime t { routing 0 .up with
    south := { link := .up, bringDue := none, wire := some (startedAtZero (.tracked 41) false (command 3 41 0x12)) } }

theorem witness_TransactionTimesAreKept :
    (∃ w, (commanding 48).south.wire = some w ∧ w.tag = .tracked 41 ∧ w.endTaken = false ∧
      atOrAfter (commanding 48).sched.packTime (w.start + BitVec.ofNat 32 (4 * (8 + w.frame.payload.length) + 8)) = true ∧
      atOrAfter (commanding 47).sched.packTime (w.start + BitVec.ofNat 32 (4 * (8 + w.frame.payload.length) + 8)) = false) ∧
    ((routing 0 .up).router.tracker = [] ++ sentRecord :: [] ∧ sentRecord.state = .sent 12356 ∧
      atOrAfter (atTime 12356 (routing 0 .up)).sched.packTime 12356 = true ∧
      atOrAfter (atTime 12355 (routing 0 .up)).sched.packTime 12356 = false) :=
  ⟨⟨_, rfl, by decide +kernel⟩, by decide +kernel⟩

/-- The sweep 7 open, its target set and replied set as given. -/
def sweeping (target replied : PosSet) : Part :=
  { configured with
    south := { link := .up, bringDue := none },
    sched := { packTime := 2000, sweeps := [{ sweepSeven with target := target, replied := replied }] } }

theorem witness_SampleIsStoredOrCounted :
    (sweeping 5 0).south.link ≠ .off ∧
    sortSouth (.frame (fromModule 1 .sample 1 emptySample).bytes) = .sample 1 (fromModule 1 .sample 1 emptySample) ∧
    parseSample [] = none ∧ parseSample emptySample = some { sweep := 7, taken := 2000, channels := [] } ∧
    (∀ w ∈ ready.sched.sweeps, w.number ≠ 7) ∧
    ((sweeping 4 0).sched.sweep 7 = some { sweepSeven with target := 4 } ∧ hasPos 4 1 = false) ∧
    (hasPos 5 1 = true ∧ hasPos 1 1 = true) ∧
    (hasPos 5 1 = true ∧ hasPos 0 1 = false ∧ addPos 0 1 ≠ 5) := by decide +kernel

/-- An ENUM_REPLY of a CELL module with 12 cells and 4 temperatures, and one with 13 cells. -/
theorem witness_EnumReplyIsStoredOnce :
    (linked .enumerating ready).south.link = .enumerating ∧
    sortSouth (.frame (fromModule 16 .enumReply 1 [0, 0, 0, 0, 0, 1, 0, 12, 4]).bytes) =
      .enumReply 16 (fromModule 16 .enumReply 1 [0, 0, 0, 0, 0, 1, 0, 12, 4]) ∧
    parseEnumReply [0, 0, 0, 0, 0, 1, 0, 12, 4] = some { identity := 1, kind := .cell, cells := 12, temps := 4 } ∧
    atPos (linked .enumerating ready).south.replies none 16 = none ∧
    parseEnumReply [0, 0, 0, 0, 0, 1, 0, 13, 4] = none ∧ (linked .down ready).south.link ≠ .enumerating := by decide +kernel

theorem witness_SpoofAndSilenceRaiseTheirClasses :
    ready.power.state ≠ .patrol ∧ (linked .up ready).south.link ≠ .off ∧
    sortSouth (.frame (request [6]).bytes) = .spoof ∧
    (ready.interlock.supervision = some 2550000#32 ∧ atOrAfter 2550000#32 2550000#32 = true) := by decide +kernel

/-- The interlock unit's laws in a state whose next step keeps them; an active class with and without an interlock table;
and a new action of each height against each connection state that answers it. -/
theorem witness_SpoofAndSilenceRaiseTheirClasses_actions :
    (fresh.interlockLaws = true ∧ ∃ s', step ⟨fresh, [.chainSpoof (request [6]).bytes]⟩ = .next s') ∧
    ((spoofed ready).store.tables.interlock = none ∧ (spoofed ready).classActive .chainSpoof = true) ∧
    (let c := spoofed (acting .lockout configured)
     c.classActive .chainSpoof = true ∧ c.effectiveAction = .lockout ∧ c.effectiveAction ≠ c.interlock.effective ∧
      2 ≤ c.effectiveAction.code ∧ c.seq.conn = .opened) ∧
    ((spoofed (acting .report configured)).effectiveAction.code < 2 ∧
      (spoofed (acting .blockClose closedPack)).effectiveAction = .blockClose) ∧
    (let c := spoofed (acting .openNow (precharging 0))
     c.effectiveAction = .openNow ∧ c.seq.conn = .precharging ∧ c.interlock.effective = .none) ∧
    (let c := spoofed (acting .openNow closedPack)
     c.seq.conn = .closed ∧ 4 ≤ c.effectiveAction.code ∧ c.lines.feedback.kPos = true ∧ c.seq.kNeg.drive = true) ∧
    ((spoofed (acting .openSoft closedPack)).seq.conn = .closed ∧
      (spoofed (acting .openSoft closedPack)).effectiveAction = .openSoft) ∧
    (let c : Part := spoofed (acting .lockout { configured with seq := { conn := .opening, pendingLockout := some .cellOv } })
     c.seq.conn = .opening ∧ c.effectiveAction = .lockout ∧ c.seq.pendingLockout = some .cellOv) :=
  ⟨⟨by decide +kernel, _, rfl⟩, by decide, by decide, by decide, by decide, by decide, by decide, by decide⟩

/-! ### Witnesses: south transmissions and bring-up -/

/-- A SYNC and a TRIGGER that wait in UP, and a run that waits for them when `waits` holds. -/
def samplingPart (n : Nat) (waits : Bool) : Part :=
  { configured with
    south := { link := .up, bringDue := none, sampling := List.replicate n (.sync 0) },
    sched := { run := some { runOne with begun := !waits } } }

theorem witness_SouthTransmitterTakesByTier :
    ((samplingPart 2 true).south.link ≠ .off ∧ linkFree 0 (samplingPart 2 true).south.wire = true ∧
      (samplingPart 2 true).south.link = .up ∧ (samplingPart 2 true).south.sampling = [.sync 0, .sync 0]) ∧
    ((samplingPart 1 true).south.sampling = [.sync 0] ∧ (samplingPart 1 true).sched.run = some { runOne with begun := false }) ∧
    ((∀ r, (samplingPart 1 false).sched.run = some r → r.begun = true) ∧
      (samplingPart 1 false).south.sampling = [.sync 0]) ∧
    (fresh.south.link ≠ .up ∧ fresh.south.bringDue = some 0 ∧ fresh.south.sleepDue = none ∧ fresh.south.wakesSent < 3) ∧
    3 ≤ ({ wakesSent := 3 } : South).wakesSent ∧
    (isAfter 10 10 = false ∧ isAfter 11 10 = true) ∧
    ((routing 1 .up).south.sampling = [] ∧ (routing 1 .up).south.bringDue = none ∧ (routing 1 .up).south.sleepDue = none ∧
      (routing 1 .up).router.southQueue = { frame := command 31 0 0x12, tracked := false } :: []) ∧
    ((routing 0 .up).router.southQueue = [] ∧ (routing 1 .waking).south.link ≠ .up) := by
  refine ⟨by decide, by decide, ⟨fun r h => ?_, by decide⟩, by decide, by decide, by decide, by decide, by decide⟩
  cases h; rfl

/-- A part in a south link state of our own. -/
def south (x : South) (t : Time) : Part := atTime t { configured with south := x }

/-- The moments 1,000 and 999 for a WAKE due at 1,000; the end of an ENUM at 40; the retry timer at its expiry, before it,
and in WAKING. -/
theorem witness_BringUpGoesOn :
    (({ bringAt := some 1000 } : South).link = .waking ∧
      atOrAfter (south { bringAt := some 1000 } 1000).sched.packTime 1000 = true ∧
      atOrAfter (south { bringAt := some 1000 } 999).sched.packTime 1000 = false) ∧
    (∃ w, (south { enumSent := true, wire := some (startedAtZero .enum false (enumFrame 0)) } 40).south.wire = some w ∧
      w.tag = .enum ∧ w.endTaken = false ∧
      atOrAfter 40 (w.start + BitVec.ofNat 32 (4 * (8 + w.frame.payload.length) + 8)) = true ∧
      (south { enumSent := true } 40).south.link = .waking ∧ (south { enumSent := true } 40).south.enumSent = true) ∧
    ((south { link := .down, retry := some 100000 } 100000).south.link = .down ∧
      atOrAfter (south { link := .down, retry := some 100000 } 100000).sched.packTime 100000 = true ∧
      (south { link := .down, retry := some 100000 } 100000).south.sampling = [] ∧
      (south { link := .down, retry := some 100000 } 100000).sched.run = none) ∧
    (atOrAfter (south { link := .down, retry := some 100000 } 99999).sched.packTime 100000 = false ∧
      (south { retry := some 100000 } 100000).south.link ≠ .down ∧ (south { link := .down } 9).south.retry = none) ∧
    ((south { link := .up, bringAt := some 1000 } 1000).south.link ≠ .waking ∧ (south {} 9).south.bringAt = none) ∧
    (∃ w, (south { wire := some (startedAtZero .enum false (enumFrame 0)) } 40).south.wire = some w ∧
      w.tag = .enum ∧ w.endTaken = false ∧
      atOrAfter 40 (w.start + BitVec.ofNat 32 (4 * (8 + w.frame.payload.length) + 8)) = true ∧
      atOrAfter 39 (w.start + BitVec.ofNat 32 (4 * (8 + w.frame.payload.length) + 8)) = false ∧
      (south {} 40).south.enumSent = false ∧ (south { link := .up } 40).south.link ≠ .waking) ∧
    (south {} 40).south.wire = none :=
  ⟨by decide, ⟨_, rfl, by decide⟩, by decide, by decide, by decide, ⟨_, rfl, by decide⟩, by decide⟩

/-- An open window that closes at 8,040, with the replies given. -/
def windowPart (reply : Option EnumReply) (s : SchedState) : Part :=
  { configured with
    south := { link := .enumerating, bringDue := none, window := some 8040, replies := setPos (Vector.replicate 16 none) 3 reply },
    sched := { packTime := 8040, state := s } }

theorem witness_WindowCloseChecksIdentities :
    ((windowPart none .running).power.state = .active ∧ (windowPart none .running).south.window = some 8040 ∧
      atOrAfter (windowPart none .running).sched.packTime 8040 = true) ∧
    (∀ p, atPos (windowPart none .running).south.replies none p = none) ∧
    (∃ p, (atPos (windowPart (some { identity := 9, kind := .cell, cells := 1, temps := 0 }) .running).south.replies none p).isSome
      = true) ∧
    ((windowPart none .stopped).sched.state = .stopped ∧ (windowPart none .running).sched.state = .running ∧
      (windowPart none .running).south.sampling = []) := by
  refine ⟨by decide, fun p => ?_, ⟨3, by decide⟩, by decide⟩
  by_cases h : p ≤ 16
  · revert p; decide
  · have : (windowPart none .running).south.replies = Vector.replicate 16 none := by decide
    simp only [atPos, this]
    rw [if_neg (by omega)]
    simp [Vector.getD, Array.getD]

/-- The close of a window in SLEEP_ENTRY and in PATROL, with a reply and without, with the link-lost condition clear and
set, and with the wake flags set and clear. -/
theorem witness_WindowCloseChecksIdentities_asleep :
    let reply : EnumReply := { identity := 9, kind := .cell, cells := 1, temps := 0 }
    let c (reply : Option EnumReply) : Part := inPower .patrol .running (windowPart reply .running)
    ((inPower .sleepEntry .step5 (windowPart none .running)).power.state = .sleepEntry) ∧
    ((c none).power.state = .patrol ∧ (c none).power.step = .running ∧ (c none).south.window = some 8040 ∧
      (c none).sched.state = .running ∧ (c none).store.tables.wakes .linkDown = false ∧
      ({ linkLost := true } : South).linkLost = true) ∧
    ((acting .report (c none)).south.linkLost = false ∧ (acting .report (c none)).store.tables.wakes .linkDown = true ∧
      (acting .report (c none)).classActive .linkDown = false) ∧
    ((atPos (c (some reply)).south.replies none 3).isSome = true ∧ (c (some reply)).south.sampling = [] ∧
      (c (some reply)).store.tables.wakes .moduleForeign = false ∧
      (c (some reply)).store.tables.wakes .moduleLost = false) := by decide

/-- R58, R153: with a reply the patrol run begins, its SYNC waiting; without one the patrol escalates by LINK_FAILED, or by
a LINK_DOWN class that wakes. -/
theorem test_patrol_bringup :
    let reply : EnumReply := { identity := 9, kind := .cell, cells := 1, temps := 0 }
    let c (reply : Option EnumReply) : Part := inPower .patrol .running (windowPart reply .running)
    let told (c : Part) : Option (List Byte) := c.reports.queue.getLast?.map (fun q => q.frame.payload)
    ((c (some reply)).closeWindow.power.state = .patrol ∧ (c (some reply)).closeWindow.south.sampling = [.sync 8040] ∧
      ((c (some reply)).closeWindow.sched.run.map (fun r => (r.kind, r.cycleStart, r.cycles))) = some (.patrol, 8040, 2)) ∧
    ((c none).closeWindow.power.state = .active ∧ (c none).closeWindow.south.link = .down ∧
      told (c none).closeWindow = some [4, 3, 64, 0, 0, 0x1F, 0x68, 0, 0, 0]) ∧
    told (acting .report (c none)).closeWindow = some [4, 3, 32, 0, 0, 0x1F, 0x68, 0, 0, 8] := by decide +kernel

/-! ### Witnesses: the schedule -/

/-- A part with a run, at pack time `t`, with the commit hold given. -/
def running (r : Run) (t : Time) (hold : Bool) : Part :=
  { linked .up configured with sched := { packTime := t, run := some r, hold := hold } }

/-- A patrol run about to reach its last cycle start, with the sweeps given. -/
def patrolling (ws : List Sweep) : Part :=
  { inPower .patrol .running (linked .up configured) with
    sched := { packTime := 10000, run := some { runOne with kind := .patrol, cycle := 1 }, sweeps := ws } }

/-- C_1 = 10,000 for the empty header's cycle length, and the moment before it; the supercycle start after cycle 7, with
and without the hold; and C_2 of a patrol run of two cycles. -/
theorem witness_CycleStartAdvancesTheRun :
    ((running runOne 10000 false).sched.run = some runOne ∧ runOne.begun = true ∧ runOne.launchEnded = false ∧
      runOne.kind = .normal ∧ (runOne.cycle + 1) % 8 ≠ 0 ∧
      atOrAfter (running runOne 10000 false).sched.packTime
        (runOne.cycleStart + BitVec.ofNat 32 (running runOne 10000 false).store.tables.header.cycleLength) = true ∧
      atOrAfter (running runOne 9999 false).sched.packTime
        (runOne.cycleStart + BitVec.ofNat 32 (running runOne 9999 false).store.tables.header.cycleLength) = false) ∧
    ((running { runOne with cycle := 7 } 10000 true).sched.run = some { runOne with cycle := 7 } ∧ (7 + 1) % 8 = 0 ∧
      (running { runOne with cycle := 7 } 10000 true).sched.hold = true ∧
      (running { runOne with cycle := 7 } 10000 false).sched.hold = false) ∧
    ((patrolling []).sched.run = some { runOne with kind := .patrol, cycle := 1 } ∧ runOne.cycles ≤ 1 + 1 ∧
      (patrolling []).power.state = .patrol ∧ (patrolling []).power.step = .running ∧
      (∀ w ∈ (patrolling []).sched.sweeps, w.runKind = .normal) ∧
      (∃ w ∈ (patrolling [{ sweepSeven with runKind := .patrol }]).sched.sweeps, w.runKind = .patrol)) := by decide

/-- The slot launch time 1,000 and the moment before it, the fifth sweep, the throttled slot, and a launch with three
sweeps open. -/
theorem witness_SlotIsMissedShedOrLaunched :
    ((running runOne 1000 false).sched.run = some runOne ∧ someTables.slots[0]? = some slotOne ∧
      (runOne.begun = true ∧ (running runOne 1000 false).sched.holdInEffect = false ∧ 0 ∉ runOne.launched ∧
        atOrAfter (running runOne 1000 false).sched.packTime (runOne.cycleStart + BitVec.ofNat 32 slotOne.offset) = true ∧
        (runOne.kind = .normal ∧ slotOne.mask.getLsbD (runOne.cycle % 8) = true)) ∧
      (running runOne 1000 false).south.link = .up ∧ (running runOne 1000 false).sched.sweeps.length < 4) ∧
    ¬ atOrAfter (running runOne 999 false).sched.packTime (runOne.cycleStart + BitVec.ofNat 32 slotOne.offset) = true ∧
    (4 ≤ ({ sweeps := List.replicate 4 sweepSeven } : Scheduler).sweeps.length ∧
      (linked .down configured).south.link ≠ .up ∧ ({ sweeps := List.replicate 3 sweepSeven } : Scheduler).sweeps.length < 4) ∧
    (runOne.kind = .normal ∧ slotOne.sheddable = true ∧ ({ throttled := true } : Scheduler).throttled = true) ∧
    ¬ (runOne.kind = .normal ∧ slotOne.sheddable = true ∧ (running runOne 1000 false).sched.throttled = true) := by decide

/-- The sweep 7 with one of two replies, with no reply after a silent sweep and after none, at its close time 2,800 and
before it; and the last reply of its target. -/
theorem witness_SweepClosesInOrder :
    ((sweeping 5 1).power.state ≠ .patrol ∧ (sweeping 5 1).sched.sweep 7 = some { sweepSeven with target := 5, replied := 1 } ∧
      (1 : PosSet) ≠ 0 ∧ atOrAfter (atTime 2800 (sweeping 5 1)).sched.packTime sweepSeven.closeTime = true ∧
      atOrAfter (atTime 2799 (sweeping 5 1)).sched.packTime sweepSeven.closeTime = false) ∧
    ((sweeping 5 0).sched.sweep 7 = some { sweepSeven with target := 5, replied := 0 } ∧ (sweeping 5 0).south.silentRun = 0 ∧
      1 ≤ ({ sweeping 5 0 with south := { link := .up, silentRun := 1 } } : Part).south.silentRun) ∧
    (sortSouth (.frame (fromModule 1 .sample 1 emptySample).bytes) = .sample 1 (fromModule 1 .sample 1 emptySample) ∧
      parseSample emptySample = some { sweep := 7, taken := 2000, channels := [] } ∧
      (sweeping 1 0).sched.sweep 7 = some { sweepSeven with target := 1, replied := 0 } ∧ hasPos 1 1 = true ∧
      hasPos 0 1 = false ∧ addPos 0 1 = 1) ∧
    (sweepSeven.runKind = .normal ∧ sweepSeven.slot.detail = false ∧ sweepSeven.slot.summary ≠ .all ∧
      sweepSeven.slot.summary ≠ .exceptions ∧ ({ sweepSeven with runKind := .patrol } : Sweep).runKind = .patrol) ∧
    (let w : Sweep := { sweepSeven with slot := { slotOne with detail := true, summary := .exceptions } }
     w.runKind = .normal ∧ w.slot.detail = true ∧ w.slot.summary = .exceptions ∧ w.replied ≠ w.target ∧
      ¬ ({ w with replied := 1 } : Sweep).replied ≠ w.target ∧ w.skewed = 0) := by decide +kernel

/-! ### Witnesses: the contactors -/

theorem witness_FeedbackChangesMoveCheckAndWatch :
    closedPack.power.state ≠ .deep ∧ closedPack.seq.conn ≠ .negClosing ∧ closedPack.seq.conn ≠ .mainClosing ∧
    closedPack.seq.conn ≠ .opening := by decide

/-- A part in a connection state with its three contactors, its feedbacks and lockout pending. -/
def sequencing (s : ConnState) (pos neg pre : ContactorState) (fb : ContactorFlags) (l : Option FaultClass) : Part :=
  { configured with
    lines := { feedback := fb }, seq := { conn := s, kPos := pos, kNeg := neg, kPre := pre, pendingLockout := l } }

theorem witness_FeedbacksMoveTheSequence :
    (let c := sequencing .negClosing {} (checking true 9) {} {} none
     c.power.state ≠ .deep ∧ c.seq.conn = .negClosing ∧ c.seq.kNeg = checking true 9 ∧ c.seq.kPre.drive = false ∧
      c.lines.feedback.kPre = false) ∧
    (let c := sequencing .negClosing {} shut (checking true 9) { kNeg := true } none
     c.seq.conn = .negClosing ∧ c.seq.kNeg.timer = none ∧ c.seq.kPre = checking true 9) ∧
    (let c := sequencing .mainClosing (checking true 9) shut shut { kNeg := true, kPre := true } none
     c.seq.conn = .mainClosing ∧ c.seq.kPos = checking true 9 ∧ c.seq.kPre.drive = true ∧ c.lines.feedback.kPre = true) ∧
    (let c := sequencing .mainClosing shut shut (checking false 9) { kPos := true, kNeg := true, kPre := true } none
     c.seq.conn = .mainClosing ∧ c.seq.kPos.timer = none ∧ c.seq.kPre = checking false 9) ∧
    (let c := sequencing .opening (checking false 9) shut {} { kPos := true, kNeg := true } none
     c.seq.conn = .opening ∧ c.seq.kPos = checking false 9 ∧ c.seq.kNeg.drive = true ∧ c.lines.feedback.kNeg = true) ∧
    (let c := sequencing .opening {} (checking false 9) {} { kNeg := true } none
     c.seq.conn = .opening ∧ c.seq.kNeg = checking false 9 ∧ c.seq.kPos.drive = false ∧ c.seq.kPre.drive = false ∧
      c.lines.feedback.kPos = false ∧ c.seq.pendingLockout = none ∧ c.seq.underLoad = none) ∧
    (let d := sequencing .opening {} (checking false 9) {} { kNeg := true } none
     let c : Part := { d with seq := { d.seq with underLoad := some (61000, 18150) } }
     c.seq.conn = .opening ∧ c.seq.kNeg = checking false 9 ∧ c.seq.kPos.drive = false ∧ c.seq.kPre.drive = false ∧
      c.lines.feedback.kPos = false ∧ c.seq.pendingLockout = none ∧ c.seq.underLoad = some (61000, 18150)) ∧
    (let c := sequencing .opening {} (checking false 9) {} { kNeg := true } (some .contactorFault)
     c.seq.conn = .opening ∧ c.seq.kNeg = checking false 9 ∧ c.lines.feedback.kPos = false ∧
      c.seq.pendingLockout = some .contactorFault) := by decide

/-- A FAIL_CLOSE in NEG_CLOSING, and a watch that expires in OPEN and in CLOSED. -/
theorem witness_ContactorFaultsOpenThePack :
    (let c := atTime 9 (sequencing .negClosing {} (checking true 9) {} {} none)
     c.contactorLaws = true ∧ c.power.state ≠ .deep ∧ (c.seq.contactor .kNeg).timer = some { expiry := 9, target := true } ∧
      atOrAfter c.sched.packTime 9 = true ∧ atOrAfter (atTime 8 c).sched.packTime 9 = false) ∧
    (let c := atTime 9 (sequencing .opened { watch := .timing 9 } {} {} { kPos := true } none)
     c.contactorLaws = true ∧ (c.seq.contactor .kPos).watch = .timing 9 ∧ atOrAfter c.sched.packTime 9 = true ∧
      c.seq.conn = .opened ∧ atOrAfter (atTime 8 c).sched.packTime 9 = false) ∧
    (let c := atTime 9 (sequencing .closed { shut with watch := .timing 9 } shut {} { kNeg := true } none)
     c.contactorLaws = true ∧ (c.seq.contactor .kPos).watch = .timing 9) ∧
    (let c := overtakenPart
     c.contactorLaws = true ∧ c.power.state = .deep ∧ (c.seq.contactor .kPos).watch = .timing 0 ∧
      (c.seq.contactor .kNeg).timer = some { expiry := 0, target := false } ∧ atOrAfter c.sched.packTime 0 = true ∧
      c.lines.feedback.get .kPos ≠ (c.seq.contactor .kPos).drive ∧ c.lines.feedback.get .kNeg ≠ false ∧
      c.power.closedFeedback.any = false ∧ (∀ j ∈ [Instr.recordWriteComplete], j.wakes = false)) ∧
    (let c : Part := { overtakenPart with lines := {} }
     c.power.state = .deep ∧ c.lines.feedback.get .kPos = (c.seq.contactor .kPos).drive ∧
      c.lines.feedback.get .kNeg = false) := by decide

/-- A pack in SOFT_OPENING whose wait ends at pack time 9. -/
def softOpening (fb : ContactorFlags) : Part :=
  { sequencing .softOpening shut shut {} fb none with
    seq := { conn := .softOpening, kPos := shut, kNeg := shut, softEnd := some 9, openingCause := some .request } }

theorem witness_PrechargeAndSoftOpenLimitsOpen :
    ((precharging 0).seq.conn = .precharging ∧ (precharging 0).seq.prechargeEnd = some 2001000 ∧
      atOrAfter (atTime 2001000 (precharging 0)).sched.packTime 2001000 = true ∧
      atOrAfter (atTime 2000999 (precharging 0)).sched.packTime 2001000 = false) ∧
    ((softOpening { kPos := true, kNeg := true }).seq.conn = .softOpening ∧
      (softOpening { kPos := true, kNeg := true }).seq.softEnd = some 9 ∧
      (softOpening { kPos := true, kNeg := true }).seq.kPos.drive = true ∧
      (softOpening { kPos := true, kNeg := true }).seq.kNeg.drive = true ∧
      (softOpening { kPos := true, kNeg := true }).seq.kPre.drive = false ∧
      (softOpening { kPos := true, kNeg := true }).lines.feedback.kPos = true ∧
      atOrAfter (atTime 9 (softOpening {})).sched.packTime 9 = true ∧
      atOrAfter (atTime 8 (softOpening {})).sched.packTime 9 = false) ∧
    ((softOpening { kNeg := true }).lines.feedback.kPos = false ∧ (softOpening { kNeg := true }).lines.feedback.kNeg = true ∧
      (softOpening {}).lines.feedback.kNeg = false) := by decide

/-- The reading of the SHUNT with a current `i` and a link voltage `v`. -/
def shuntValues (i v : Int) : PositionValues :=
  { position := 1, channels := [{ channel := 1, status := .ok, value := some i }, { channel := 2, status := .ok, value := some 18251 },
                                { channel := 3, status := .ok, value := some v }] }

/-- Section 6.9's readings against T_pc = 1,000 at the sample time 2,000, and at T_pc itself; the limit current and one more;
and the break current of section 6.10. -/
theorem witness_PrechargeAndSoftOpenLimitsOpen_readings :
    (shuntEntry.kind = .shunt ∧ hasPos sweepSeven.skewed (shuntValues 1050 17410).position = false ∧
      (shuntValues 1050 17410).valueAt 1 = some 1050 ∧ (shuntValues 1050 17410).valueAt 2 = some 18251 ∧
      (shuntValues 1050 17410).valueAt 3 = some 17410 ∧ hasPos ({ sweepSeven with skewed := 1 } : Sweep).skewed 1 = true) ∧
    (let c := precharging 0
     c.seq.conn = .precharging ∧ c.seq.tPc = some 1000 ∧ isAfter sweepSeven.sampleTime 1000 = true ∧
      isAfter sweepSeven.sampleTime 2000 = false ∧
      (c.sched.packTime - sweepSeven.sampleTime).toNat ≤ c.store.tables.header.maxAge * 1000 ∧
      c.store.tables.params.prechargeCurrent < (20001 : Int).natAbs ∧
      (-20000 : Int).natAbs ≤ c.store.tables.params.prechargeCurrent ∧
      (c.store.tables.params.minPackVoltage ≤ (18251 : Int) ∧ c.store.tables.params.prechargeRatio * (18251 : Int) ≤ 17410 * 1000) ∧
      ¬ c.store.tables.params.prechargeRatio * (18251 : Int) ≤ 17338 * 1000 ∧ c.seq.kPos.drive = false ∧
      c.lines.feedback.kPos = false ∧ c.seq.kPre.drive = true) ∧
    (let d := softOpening { kPos := true, kNeg := true }
     let c : Part := { d with seq := { d.seq with tSo := some 1000 }, sched := { packTime := 2800 } }
     c.seq.conn = .softOpening ∧ c.seq.tSo = some 1000 ∧ (5000 : Int).natAbs ≤ c.store.tables.params.breakCurrent ∧
      c.store.tables.params.breakCurrent < (5001 : Int).natAbs ∧ c.seq.kPos.drive = true ∧ c.seq.kPre.drive = false ∧
      c.lines.feedback.kPos = true ∧ c.seq.kNeg.drive = true) := by decide +kernel

/-! ### Witnesses: the tamper and service lines -/

/-- A part in service with an update state, its TAMPER_IN level, and the commit hold not in effect. -/
def serviced (u : UpdateState) (cover : Bool) : Part :=
  { configured with
    lines := { serviceIn := true, tamperIn := cover }, store := { configured.store with update := u } }

/-- The part in programming with the lid open, and with the service tool still fitted or just removed. -/
def openedPart (tool : Bool) : Part :=
  let c : Part := { programmingPart with lines := { serviceIn := true, tamperIn := true } }
  if tool then c else c.serviceIn [] false

/-- R169, R177: SERVICE_IN deasserted with TAMPER_IN asserted during a programming sets the latch at its end, with the
abort; until then the latch is clear and the update READY. -/
theorem test_tamper_after_programming :
    let c := openedPart false
    let t := c.programmed [] { seq := 5, offset := 4095, data := [0x34] }
    c.store.copy.tamper = false ∧ c.store.update = .ready ∧ c.store.tamperPending = true ∧
    t.store.copy.tamper = true ∧ t.store.update = .idle ∧ packObject .tamper ∈ t.interlock.tripped := by decide +kernel

theorem witness_TamperAndServiceLinesAct :
    (ready.lines.tamperIn = false ∧ ready.lines.serviceIn = false ∧ ready.store.recordRead = true ∧
      ready.store.copy.tamper = false) ∧
    (({ tamperedPart with lines := {} } : Part).lines.serviceIn = false ∧ tamperedPart.store.copy.tamper = true) ∧
    (serviced .idle false).lines.serviceIn = true ∧
    ((serviced .ready true).lines.serviceIn = true ∧ (serviced .ready true).lines.tamperIn = true ∧
      (serviced .ready true).store.recordRead = true ∧ (serviced .ready true).mgmt.programming = none ∧
      (serviced .ready true).store.update ≠ .erasing ∧ (serviced .ready true).store.update ≠ .switching) ∧
    ((serviced .switching false).lines.tamperIn = false ∧ (serviced .switching false).store.update = .switching) ∧
    (({ programmingPart with lines := { serviceIn := true } } : Part).mgmt.programming ≠ none ∧
      programmingPart.store.update = .ready ∧ (serviced .erasing false).store.update = .erasing) ∧
    ((serviced .checking false).mgmt.programming = none ∧ (serviced .checking false).store.update = .checking) ∧
    ((serviced .commitPending false).mgmt.programming = none ∧ (serviced .commitPending false).store.update = .commitPending ∧
      (serviced .commitPending false).sched.holdInEffect = false) ∧
    (fresh.lines.serviceIn = false ∧ fresh.lines.tamperIn = false ∧ fresh.store.recordRead = false) ∧
    (let c : Part := { serviced .commitPending false with sched := { state := .running, hold := true, holdInEffect := true } }
     c.mgmt.programming = none ∧ c.store.update = .commitPending ∧ c.sched.holdInEffect = true ∧ c.sched.state = .running ∧
      c.south.sampling = [] ∧ ({ state := .stopped, holdInEffect := true } : Scheduler).state = .stopped) ∧
    (ready.store.write = .idle ∧ (({ write := .inProgress {} 9 } : Store).write = .inProgress {} 9)) ∧
    ((openedPart true).mgmt.programming ≠ none ∧ (openedPart true).lines.serviceIn = true ∧
      (openedPart true).lines.tamperIn = true ∧ (openedPart true).store.update = .ready) ∧
    (programmingPart.mgmt.programming ≠ none ∧ programmingPart.lines.tamperIn = false ∧
      programmingPart.lines.serviceIn = false) ∧
    (let c := acting .lockout deepPart
     c.power.state = .deep ∧ c.store.write = .idle ∧ c.seq.conn = .opened ∧ c.power.closedFeedback.any = false ∧
      c.store.tables.actionOf .tamper = some .lockout ∧ packObject .tamper ∉ c.interlock.tripped ∧
      c.interlock.effective ≠ .lockout ∧ (∀ j ∈ [Instr.recordWriteComplete], j.wakes = false)) := by decide

/-! ### Witnesses: sleep -/

/-- A part whose SLEEP broadcast of 8 bytes started at pack time 0 and ends at 40. -/
def broadcasting (p : PowerState) (step : EntryStep) : Part :=
  { inPower p step configured with
    power := { state := p, step := step, sleepSent := true },
    south := { link := .up, bringDue := none, wire := some (startedAtZero .sleep false (sleepFrame 0)) },
    sched := { packTime := 40 } }

theorem witness_SleepEntryPatrolAndReturn :
    (let c := inPower .sleepEntry .step3 (routing 0 .up)
     c.power.state = .sleepEntry ∧ c.power.step = .step3 ∧ c.sched.sweeps = [] ∧ c.router.southQueue = [] ∧
      c.south.sleepDue = none ∧ c.power.sleepSent = false) ∧
    (let c := inPower .sleepEntry .step4 (routing 1 .up)
     c.power.step = .step4 ∧ c.sched.sweeps = [] ∧ c.router.southQueue ≠ [] ∧ c.south.link = .up) ∧
    (sweeping 1 0).sched.sweeps ≠ [] ∧
    (∃ w, (broadcasting .sleepEntry .step4).south.wire = some w ∧ w.tag = .sleep ∧ w.endTaken = false ∧
      (broadcasting .sleepEntry .step4).power.sleepSent = true ∧
      atOrAfter 40 (w.start + BitVec.ofNat 32 (4 * (8 + w.frame.payload.length) + 8)) = true) ∧
    ((broadcasting .sleepEntry .step4).power.state = .sleepEntry ∧ (broadcasting .sleepEntry .step4).power.step = .step4) ∧
    ((broadcasting .patrol .returning).power.state = .patrol ∧ (broadcasting .patrol .returning).power.step = .returning) ∧
    (let c := inPower .sleepEntry .step5 ready
     c.power.step = .step5 ∧ c.mgmt.requests = [] ∧ c.mgmt.programming = none ∧ c.mgmt.responses = [] ∧
      c.mgmt.restart = .notTaken ∧ c.router.forward = [] ∧ c.store.write = .idle ∧ c.north.wire = none) ∧
    ((inPower .sleepEntry .step5 (asked [1] ready)).mgmt.requests ≠ []) ∧
    (let c : Part := { ready with power := { state := .deep, patrolTimer := some 0 } }
     c.power.state = .deep ∧ c.power.patrolTimer = some 0) ∧
    (let c : Part := { ready with power := { state := .deep, patrolTimer := some 1 } }
     c.power.patrolTimer = some 1 ∧ 0 < 1) ∧
    ((inPower .sleepEntry .step5 ready).power.step ≠ .step3 ∧ (inPower .sleepEntry .step5 ready).power.step ≠ .step4) ∧
    (∃ w, (atTime 39 (broadcasting .sleepEntry .step4)).south.wire = some w ∧ w.tag = .sleep ∧ w.endTaken = false ∧
      atOrAfter (atTime 39 (broadcasting .sleepEntry .step4)).sched.packTime
        (w.start + BitVec.ofNat 32 (4 * (8 + w.frame.payload.length) + 8)) = false) ∧
    ((broadcasting .active .none).power.state ≠ .sleepEntry ∧ (broadcasting .active .none).power.state ≠ .patrol ∧
      ready.south.wire = none) ∧
    ((inPower .sleepEntry .step4 ready).power.step ≠ .step5 ∧
      (inPower .sleepEntry .step5 answering).mgmt.restart ≠ .notTaken ∧
      ∃ w, (atTime 39 answering).north.wire = some w ∧ atOrAfter (atTime 39 answering).sched.packTime
        (w.start + BitVec.ofNat 32 (4 * (8 + w.frame.payload.length) + 8)) = false) :=
  ⟨by decide, by decide, by decide, ⟨_, rfl, by decide⟩, by decide, by decide, by decide, by decide, by decide, by decide,
    by decide, ⟨_, rfl, by decide⟩, by decide, by decide, by decide, _, rfl, by decide⟩

/-! ### Witnesses: the table store -/

/-- A part that erases bank A until pack time 40,000. -/
def erasingPart (pending : Bool) : Part :=
  { ready with store := { ready.store with update := .erasing, eraseEnd := some 40000, abortPending := pending } }

theorem witness_EraseCheckAndProgrammingEnd :
    ((erasingPart false).store.update = .erasing ∧ (erasingPart false).store.eraseEnd = some 40000 ∧
      atOrAfter (atTime 40000 (erasingPart false)).sched.packTime 40000 = true ∧
      atOrAfter (atTime 39999 (erasingPart false)).sched.packTime 40000 = false ∧ (erasingPart true).store.abortPending = true) ∧
    (checkImage imageBank (fun v => decide (0 < v)) = .staged ∧
      checkImage [] (fun v => decide (0 < v)) = .format ∧
      checkImage [(0, 0x4A), (1, 0x43), (2, 0x31), (3, 0x36)] (fun v => decide (0 < v)) = .length) ∧
    ((serviced .checking false).store.update = .checking ∧ (serviced .ready false).store.update ≠ .checking) ∧
    (programmingPart.mgmt.programming = some { seq := 5, offset := 4095, data := [0x34] } ∧ 4095 + 1 ≤ bankSize ∧
      programmingPart.store.abortPending = false ∧ programmingPart.bankLaws = true ∧ programmingPart.store.update = .ready) ∧
    (bankSize < 4095 + 2 ∧ ready.mgmt.programming = none) ∧
    ((serviced .ready false).store.update ≠ .erasing ∧ (serviced .erasing false).store.eraseEnd = none) ∧
    ((openedPart false).store.tamperPending = true ∧ (openedPart false).store.recordRead = true ∧
      (openedPart false).store.copy.tamper = false ∧ (openedPart false).store.abortPending = true ∧
      (openedPart false).store.update = .ready ∧ (openedPart false).bankLaws = true ∧
      programmingPart.store.tamperPending = false) := by
  simp only [test_imageBank_version]
  decide +kernel

/-- The same image with a feedback time of 4 ms, parameter 3, and the CRC-32 of that. -/
def shortFeedback : Memory := (List.range 365).zip ((imageBody.set 33 4) ++ be 4 0x0DD54008)

set_option maxRecDepth 100000 in
/-- R165: a feedback time of 4 ms is the parameters table's failing parameter 3. -/
theorem test_parameter_out_of_range : checkImage shortFeedback (fun v => decide (0 < v)) = .table 0 3 := by decide +kernel

set_option maxRecDepth 100000 in
/-- Images that fail first by their tag, their extents, their CRC-32 and their third parameter, one that passes, and the
counts at which each table is read. -/
theorem witness_EraseCheckAndProgrammingEnd_image :
    (Memory.readAll [] 0 4 ≠ [0x4A#8, 0x43#8, 0x31#8, 0x36#8] ∧
      (imageBank.write 9 62).readAll 0 4 = [0x4A#8, 0x43#8, 0x31#8, 0x36#8] ∧ (imageBank.write 9 62).field 8 2 = 318) ∧
    (shortFeedback.readAll 0 4 = [0x4A#8, 0x43#8, 0x31#8, 0x36#8] ∧ shortFeedback.field 8 2 = 365 ∧
      (∀ id < 6, 28 ≤ shortFeedback.field (10 + 3 * id) 2 ∧
        shortFeedback.field (10 + 3 * id) 2 + ([0, 0, 1, 13, 0, 0].getD id 0 +
          shortFeedback.field (12 + 3 * id) 1 * [26, 45, 9, 12, 18, 2].getD id 0) ≤ 365 - 4) ∧
      (∀ i < 6, ∀ j < 6, i < j → shortFeedback.field (10 + 3 * i) 2 + ([0, 0, 1, 13, 0, 0].getD i 0 +
        shortFeedback.field (12 + 3 * i) 1 * [26, 45, 9, 12, 18, 2].getD i 0) ≤ shortFeedback.field (10 + 3 * j) 2)) ∧
    (be 4 (crc32 (shortFeedback.readAll 0 361)).toNat = shortFeedback.readAll 361 4 ∧
      be 4 (crc32 ((imageBank.write 4 1).readAll 0 361)).toNat ≠ (imageBank.write 4 1).readAll 361 4) ∧
    (validateParams shortFeedback = some 3 ∧ shortFeedback.field 4 4 = 1) ∧
    ((imageBank.write 12 2).field 12 1 ≠ 1 ∧ shortFeedback.field 12 1 = 1 ∧ shortFeedback.field 33 1 = 4 ∧
      (imageBank.write 15 0).field 15 1 = 0 ∧ (imageBank.write 18 13).field 18 1 = 13 ∧ imageBank.field 18 1 ≤ 12 ∧
      imageBank.field 99 1 ≤ 3 ∧ (imageBank.write 21 25).field 21 1 = 25 ∧ (imageBank.write 24 11).field 24 1 ≠ 12 ∧
      imageBank.field 24 1 = 12 ∧ (imageBank.write 27 15).field 27 1 ≠ 16 ∧ imageBank.field 27 1 = 16 ∧
      validateInterlock (imageBank.write 355 4) = some 13) := by and_intros <;> decide +kernel

/-- The same image with two schedule slots of the SHUNT, the first at 320 µs and the second `d` µs after it. -/
def twoSlots (d : Nat) : Memory :=
  let slot (t : Nat) : List Byte := be 4 t ++ [1] ++ be 2 1 ++ [1] ++ be 2 200 ++ [0, 0]
  (imageBank.write 21 2).writeAll 113 (slot 320 ++ slot (320 + d))

set_option maxRecDepth 100000 in
/-- R165, R43: the map with its SHUNT passes, one with a position 17 fails at entry 0, and one without a SHUNT fails; a
skew limit of 501 µs and a high mark of 57 fail with FF hex; slots 320 µs apart pass, and 319 µs apart fail at the lower.
-/
theorem witness_EraseCheckAndProgrammingEnd_tables :
    (imageBank.field 15 1 = 1 ∧ imageBank.field 54 1 = 1 ∧ imageBank.field 55 1 = 1 ∧ imageBank.field 56 1 = 1 ∧
      validateMap imageBank = none) ∧
    ((imageBank.write 56 0).field 56 1 = 0 ∧ (validateMap (imageBank.write 56 0)).isSome = true) ∧
    ((imageBank.write 55 17).field 55 1 = 17 ∧ validateMap (imageBank.write 55 17) = some 0) ∧
    (((imageBank.write 106 1).write 107 245).field 106 2 = 501 ∧
      validateSchedule ((imageBank.write 106 1).write 107 245) = some 255 ∧
      validateSchedule (imageBank.write 111 57) = some 255) ∧
    (validateMap (twoSlots 320) = none ∧ validateSchedule (twoSlots 320) = none ∧
      validateSchedule (twoSlots 319) = some 0) := by and_intros <;> decide +kernel

/-- A part in COMMIT_PENDING with bank A STAGED, and a record write. -/
def committing (w : RecordWrite) : Part :=
  { ready with
    store := { ready.store with
      update := .commitPending, bankA := { bytes := [], state := .staged }, staged := some 1, write := w } }

theorem witness_SwitchStartsAndWritesTheRecord :
    ((committing .idle).store.update = .commitPending ∧ (committing .idle).sched.sweeps = [] ∧
      (committing .idle).sched.run = none ∧ (committing .idle).store.write = .idle) ∧
    (committing (.inProgress {} 9)).store.write = .inProgress {} 9 ∧
    (committing (.inProgressWaiting {} 9)).store.write = .inProgressWaiting {} 9 ∧
    (ready.store.update ≠ .commitPending ∧ (sweeping 1 0).sched.sweeps ≠ []) ∧
    (atOrAfter 6000 6000 = true ∧ switchingPart.store.write = .inProgress { active := some .a, floor := 4 } 6000 ∧
      switchingPart.store.switch = .writing ∧ switchingPart.store.copy.active = some .a) ∧
    (({ switchingPart.store with copy := { active := some .b } } : Store).copy.active = some .b ∧
      ready.store.switch = .none ∧ ({ ready.store with switch := .waiting } : Store).switch = .waiting) ∧
    atOrAfter (atTime 5999 switchingPart).sched.packTime 6000 = false := by decide

/-- An image of 14 bytes whose CRC-32 is sound, as far as the load of a switch looks. -/
def shortImage : Memory :=
  Memory.writeAll [] 0
    ([0x4A, 0x43, 0x31, 0x36, 0, 0, 0, 4, 0, 14] ++ be 4 (crc32 [0x4A, 0x43, 0x31, 0x36, 0, 0, 0, 4, 0, 14]).toNat)

/-- A part whose switch loads the image in bank A until pack time 2,000. -/
def loadingPart (m : Memory) : Part :=
  { switchingPart with
    store := { switchingPart.store with switch := .loading 2000, bankA := { bytes := m, state := .active } },
    sched := { packTime := 2000 } }

theorem witness_LoadEndsTheSwitch :
    (loadingPart shortImage).store.switch = .loading 2000 ∧ (loadingPart shortImage).store.copy.active = some .a ∧
    atOrAfter (loadingPart shortImage).sched.packTime 2000 = true ∧ crcOk shortImage = true ∧
    crcOk (shortImage.write 4 0x77) = false ∧ (loadingPart shortImage).power.state = .active ∧
    (loadingPart shortImage).sched.state = .stopped ∧ (loadingPart shortImage).seq.conn = .opened ∧
    (let c : Part := { loadingPart shortImage with sched := { packTime := 2000, state := .running } }
     c.sched.state = .running ∧ c.south.sampling = [] ∧ c.power.state = .active) ∧
    atOrAfter (atTime 1999 (loadingPart shortImage)).sched.packTime 2000 = false := by decide +kernel

/-! ### Witnesses: management requests -/

/-- The part with one request waiting is ready to execute it, as `executes` asks. -/
def asks (payload : List Byte) (c : Part) (r : Request) : Bool :=
  let c := asked payload c
  decide (c.mgmt.requests = [request payload]) && decide (c.mgmt.programming = none) &&
  decide (c.mgmt.restart = .notTaken) && decide ((request payload).request = some r) &&
  (request payload).argumentsOk r && (!decide (c.store.state = .loading) || decide (r = .status))

/-- The test is the premise of the statements about requests. -/
theorem executes_of_asks {payload : List Byte} {c : Part} {r : Request} (h : asks payload c r = true) :
    (asked payload c).executes (request payload) [] r := by
  simp only [asks, Bool.and_eq_true, decide_eq_true_eq, Bool.or_eq_true, Bool.not_eq_true', decide_eq_false_iff_not] at h
  obtain ⟨⟨⟨⟨⟨h1, h2⟩, h3⟩, h4⟩, h5⟩, h6⟩ := h
  exact ⟨h1, h2, h3, h4, h5, fun l => h6.resolve_left (fun n => n l)⟩

theorem witness_RequestsAreCheckedFirst :
    ((asked [6] fresh).mgmt.requests = [request [6]] ∧ fresh.mgmt.programming = none ∧ fresh.mgmt.restart = .notTaken ∧
      (request [6]).request = some .connect ∧ fresh.store.state = .loading ∧ Request.connect ≠ .status) ∧
    (ready.store.state ≠ .loading ∧ (request [6, 0]).request = some .connect ∧ (request [6, 0]).argumentsOk .connect = false) ∧
    ((request []).request = none ∧ (request [26]).request = none ∧ (request [0]).request = none) ∧
    (programmingPart.mgmt.programming ≠ none ∧ answering.mgmt.restart ≠ .notTaken ∧ (request [1]).request ≠ some .connect) := by
  decide

theorem witness_ReadRequestsReturnWhatStands :
    asks [1] fresh .status ∧ (asks [2, 0] ready .readCounters ∧ (request [2, 0]).byte 1 = 0) ∧
    (asks [2, 1] ready .readCounters ∧ (request [2, 1]).byte 1 = 1) ∧ asks [2] ready .readCounters ∧
    asks [14] ready .keepalive ∧ asks [21] ready .updStatus ∧
    (asks [22, 0x0F, 0xFF, 1] ready .readImage ∧ ready.store.copy.active = none) ∧
    (asks [22, 0x0F, 0xFF, 1] switchingPart .readImage ∧ switchingPart.store.copy.active = some .a) := by
  and_intros <;> decide

theorem witness_FaultAndEventListsAreRead :
    asks [3, 31] ready .readFaults ∧ asks [5] ready .readEvents ∧
    (asks [4, 0xFF, 0xFF] ready .ackFaults ∧ FaultClass.cellOv ∈ FaultClass.all ∧ FaultClass.cellOv.isEvent = false ∧
      FaultClass.chainSpoof ∈ FaultClass.all ∧ FaultClass.chainSpoof.isEvent = true) := by
  and_intros <;> decide

/-- A full list of 32 records, and a list of one that is ACTIVE. -/
theorem witness_FaultAndEventListsAreRead_records :
    let k := packKey .chainSpoof
    let r := FaultRecord.create k 0 none
    (ready.reports.held = none ∧ (∀ x ∈ ready.eval.records, x.key ≠ k) ∧ ready.eval.records.length < 32) ∧
    ([r] = [] ++ r :: [] ∧ r.key = k ∧ r.active = true) ∧
    ((∀ x ∈ List.replicate 32 r, x.key ≠ packKey .linkDown) ∧ 32 ≤ (List.replicate 32 r).length) ∧
    (∀ x ∈ [{ r with active := false }], x.key ≠ k ∨ x.active = false) := by decide

/-- A CONNECT at each condition of R107, and at each way that FB_NEG and FB_PRE may stand. -/
theorem witness_ConnectIsAnsweredInOrder :
    (asks [6] closedPack .connect ∧ ¬ closedPack.seq.conn = .opened) ∧
    (asks [6] (inPower .sleepEntry .step3 ready) .connect ∧ ready.seq.conn = .opened ∧
      ¬ (inPower .sleepEntry .step3 ready).power.state = .active) ∧
    (let c : Part := { fresh with store := { fresh.store with state := .unconfigured, recordRead := true } }
     asks [6] c .connect ∧ c.seq.conn = .opened ∧ c.power.state = .active ∧ c.store.state = .unconfigured) ∧
    (asks [6] (serviced .ready false) .connect ∧ (serviced .ready false).seq.conn = .opened ∧
      (serviced .ready false).store.state ≠ .unconfigured ∧ ¬ (serviced .ready false).store.update = .idle) ∧
    (let c : Part := { ready with interlock := { effective := .blockClose } }
     asks [6] c .connect ∧ c.store.update = .idle ∧ 2 ≤ c.interlock.effective.code) ∧
    (let c : Part := { ready with interlock := { effective := .report } }
     asks [6] c .connect ∧ c.seq.conn = .opened ∧ c.power.state = .active ∧ c.store.state ≠ .unconfigured ∧
      c.store.update = .idle ∧ ¬ (2 ≤ c.interlock.effective.code ∨ c.store.copy.tamper = true) ∧ c.seq.kNeg.drive = false ∧
      c.lines.feedback.kNeg = false) ∧
    (let c : Part := { ready with lines := { feedback := { kNeg := true } } }
     asks [6] c .connect ∧ c.lines.feedback.kNeg = true ∧ c.lines.feedback.kPre = false ∧ c.seq.kPre.drive = false) ∧
    (let c : Part := { ready with lines := { feedback := { kNeg := true, kPre := true } } }
     asks [6] c .connect ∧ c.lines.feedback.kNeg = true ∧ c.lines.feedback.kPre = true ∧ c.seq.kPre.drive = false) := by
  and_intros <;> decide

theorem witness_DisconnectsOpenThePack :
    (asks [7] ready .disconnect ∧ ready.seq.conn = .opened) ∧
    (asks [7] (softOpening {}) .disconnect ∧ (softOpening {}).seq.conn = .softOpening) ∧
    (asks [8] (precharging 0) .disconnectNow ∧ (precharging 0).seq.conn = .precharging) ∧
    (asks [8] closedPack .disconnectNow ∧ closedPack.seq.conn = .closed ∧ closedPack.lines.feedback.kPos = true) ∧
    (let c := sequencing .mainClosing (checking true 9) shut shut { kPos := true } none
     asks [7] c .disconnect ∧ c.seq.conn = .mainClosing ∧ c.lines.feedback.kPos = true) ∧
    (closedPack.seq.kNeg.drive = true ∧ (sequencing .mainClosing (checking true 9) shut shut {} none).seq.kNeg.drive = true) ∧
    (let c := sequencing .mainClosing (checking true 9) shut shut { kNeg := true } none
     asks [7] c .disconnect ∧ c.seq.conn = .mainClosing ∧ c.lines.feedback.kPos = false ∧ c.lines.feedback.kNeg = true ∧
      c.seq.pendingLockout = none) ∧
    (asks [7] closedPack .disconnect ∧ closedPack.seq.conn = .closed) := by
  and_intros <;> decide

/-- CLEAR_LOCKOUT at each condition of R119, and CLEAR_TAMPER at each of R178. -/
theorem witness_LockoutAndTamperAreCleared :
    (asks [9] ready .clearLockout ∧ ¬ ready.seq.conn = .lockedOut) ∧
    (asks [9] (inPower .sleepEntry .step3 lockedPart) .clearLockout ∧ lockedPart.seq.conn = .lockedOut ∧
      ¬ (inPower .sleepEntry .step3 lockedPart).power.state = .active) ∧
    (asks [9] { lockedPart with lines := {} } .clearLockout ∧ ¬ ({ lockedPart with lines := {} } : Part).lines.serviceIn = true) ∧
    (let c : Part := { lockedPart with lines := { serviceIn := true, feedback := { kPre := true } } }
     asks [9] c .clearLockout ∧ ¬ c.lines.feedback = { kPos := false, kNeg := false, kPre := false }) ∧
    (let c : Part :=
       { lockedPart with
         store := { lockedPart.store with
           tables := { someTables with interlock := some (Vector.replicate 16 { action := .lockout, latching := false, wake := false }) } },
         interlock := { events := FaultClass.contactorFault.bit } }
     asks [9] c .clearLockout ∧ ∃ k ∈ FaultClass.all, c.classActive k = true ∧ c.store.tables.actionOf k = some .lockout) ∧
    (asks [9] lockedPart .clearLockout ∧ lockedPart.power.state = .active ∧ lockedPart.lines.serviceIn = true ∧
      lockedPart.lines.feedback = { kPos := false, kNeg := false, kPre := false } ∧ lockedPart.store.write = .idle ∧
      ¬ ∃ k ∈ FaultClass.all, lockedPart.classActive k = true ∧ lockedPart.store.tables.actionOf k = some .lockout) ∧
    (let c : Part := { lockedPart with store := { lockedPart.store with write := .inProgress {} 9 } }
     asks [9] c .clearLockout ∧ c.store.write = .inProgress {} 9) ∧
    (asks [23] ready .clearTamper ∧ ready.lines.serviceIn = false) ∧
    (asks [23] { tamperedPart with lines := { serviceIn := true, tamperIn := true } } .clearTamper) ∧
    (asks [23] (serviced .idle false) .clearTamper ∧ (serviced .idle false).store.copy.tamper = false) ∧
    (asks [23] tamperedPart .clearTamper ∧ tamperedPart.lines.serviceIn = true ∧ tamperedPart.lines.tamperIn = false ∧
      tamperedPart.store.copy.tamper = true) := by
  and_intros <;> decide

/-- SCHEDULE_START at each condition of R44, SCHEDULE_STOP and SET_TIME in each of their cases. -/
theorem witness_ScheduleIsStartedStoppedAndTimed :
    (asks [10] { fresh with store := { fresh.store with state := .unconfigured } } .scheduleStart) ∧
    (asks [10] (inPower .sleepEntry .step3 ready) .scheduleStart ∧
      ¬ (inPower .sleepEntry .step3 ready).power.state = .active) ∧
    (asks [10] (committing .idle) .scheduleStart ∧ (committing .idle).store.state ≠ .unconfigured ∧
      (committing .idle).power.state = .active ∧ (committing .idle).store.update = .commitPending) ∧
    (let c : Part := { ready with sched := { state := .running } }
     asks [10] c .scheduleStart ∧ c.sched.state = .running) ∧
    (asks [10] ready .scheduleStart ∧ ¬ (ready.store.update = .commitPending ∨ ready.store.update = .switching) ∧
      ready.sched.state = .stopped ∧ ready.south.sampling = [] ∧ (samplingPart 1 false).south.sampling ≠ []) ∧
    (asks [11] ready .scheduleStop ∧ ready.sched.state = .stopped) ∧
    (let c : Part := { ready with sched := { state := .running, run := some { runOne with kind := .patrol } } }
     asks [11] c .scheduleStop ∧ c.sched.state = .running ∧ c.sched.run = some { runOne with kind := .patrol }) ∧
    (let c : Part := { ready with sched := { state := .running, run := some runOne } }
     asks [11] c .scheduleStop ∧ ∃ r, c.sched.run = some r ∧ r.kind = .normal) ∧
    (let c : Part := { ready with sched := { state := .running } }
     asks [12, 0xFF, 0xFF, 0xFF, 0xFF] c .setTime ∧ c.sched.state = .running) ∧
    (asks [12, 0xFF, 0xFF, 0xFF, 0xFF] (sweeping 1 0) .setTime ∧ (sweeping 1 0).sched.sweeps ≠ []) ∧
    (asks [12, 0xFF, 0xFF, 0xFF, 0xFF] ready .setTime ∧ ready.sched.state = .stopped ∧ ready.sched.sweeps = []) ∧
    (({ watch := .timing 9 } : ContactorState).watch = .timing 9 ∧ (commanding 0).south.wire ≠ none ∧
      switchingPart.store.write = .inProgress { active := some .a, floor := 4 } 6000 ∧
      (committing (.inProgressWaiting {} 9)).store.write = .inProgressWaiting {} 9 ∧
      ({ switch := .loading 9 } : Store).switch = .loading 9 ∧ answering.north.wire ≠ none) := by
  exact ⟨by decide, by decide, by decide, by decide, by decide, by decide, by decide, ⟨by decide, runOne, by decide⟩,
    by decide, by decide, by decide, by decide⟩

theorem witness_SleepRestartAndResetSouth :
    (asks [13] closedPack .sleep ∧ ¬ (closedPack.power.state = .active ∧
      (closedPack.seq.conn = .opened ∨ closedPack.seq.conn = .lockedOut))) ∧
    (asks [13] (serviced .ready false) .sleep ∧ (serviced .ready false).store.update ≠ .idle) ∧
    (asks [13] (routing 0 .up) .sleep ∧ (routing 0 .up).store.update = .idle ∧ (routing 0 .up).router.tracker ≠ []) ∧
    (asks [13] (running runOne 5 false) .sleep ∧ (running runOne 5 false).router.tracker = [] ∧
      (running runOne 5 false).sched.run = some runOne ∧ runOne.kind = .normal) ∧
    (asks [13] ready .sleep ∧ (ready.power.state = .active ∧ (ready.seq.conn = .opened ∨ ready.seq.conn = .lockedOut)) ∧
      ready.sched.run = none) ∧
    (asks [25] closedPack .restart ∧ ¬ (closedPack.seq.conn = .opened ∨ closedPack.seq.conn = .lockedOut)) ∧
    (asks [25] (serviced .ready false) .restart ∧ (serviced .ready false).store.update ≠ .idle) ∧
    (asks [25] lockedPart .restart ∧ (lockedPart.seq.conn = .opened ∨ lockedPart.seq.conn = .lockedOut) ∧
      lockedPart.store.update = .idle) ∧
    (asks [24] (linked .off ready) .resetSouth ∧ (linked .off ready).south.link = .off) ∧
    (asks [24] (routing 1 .up) .resetSouth ∧ (routing 1 .up).south.link ≠ .off ∧ (routing 1 .up).power.state ≠ .patrol) := by
  and_intros <;> decide

/-- A part in READY whose target bank A holds 00 hex at address 4094, in a bank state. -/
def readyToWrite (s : BankState) : Part :=
  { serviced .ready false with
    store := { (serviced .ready false).store with bankA := { bytes := [(4094, 0)], state := s } } }

theorem witness_UpdateRequestsFollowTheUpdateState :
    (asks [15] (inPower .sleepEntry .step3 ready) .updOpen ∧ ¬ (inPower .sleepEntry .step3 ready).power.state = .active) ∧
    (asks [15] (serviced .ready false) .updOpen ∧ ¬ (serviced .ready false).store.update = .idle) ∧
    (asks [15] closedPack .updOpen ∧ ¬ (closedPack.seq.conn = .opened ∨ closedPack.seq.conn = .lockedOut)) ∧
    (asks [15] ready .updOpen ∧ ¬ ready.lines.serviceIn = true) ∧
    (asks [15] tamperedPart .updOpen ∧ tamperedPart.lines.serviceIn = true ∧ tamperedPart.store.copy.tamper = true) ∧
    (asks [15] (serviced .idle false) .updOpen ∧ (serviced .idle false).power.state = .active ∧
      (serviced .idle false).store.update = .idle ∧ (serviced .idle false).seq.conn = .opened ∧
      (serviced .idle false).lines.serviceIn = true ∧ (serviced .idle false).store.copy.tamper = false) ∧
    (asks [16] (serviced .idle false) .updErase ∧ asks [17, 0, 0, 1, 7] (serviced .commitPending false) .updWrite ∧
      asks [18] (serviced .erasing false) .updCheck ∧ asks [19] (serviced .switching false) .updCommit ∧
      asks [19] (serviced .checking false) .updCommit) ∧
    (asks [16] (readyToWrite .written) .updErase ∧ (readyToWrite .written).store.update = .ready) ∧
    (asks [17, 0x0F, 0xFF, 1, 7] (readyToWrite .written) .updWrite ∧
      (∀ i < 1, ((readyToWrite .written).store.bank .a).bytes.read (4095 + i) = 0xFF)) ∧
    (asks [17, 0x0F, 0xFE, 2, 7, 7] (readyToWrite .written) .updWrite ∧
      (∃ i < 2, ((readyToWrite .written).store.bank .a).bytes.read (4094 + i) ≠ 0xFF)) ∧
    (asks [18] (readyToWrite .written) .updCheck ∧ ((readyToWrite .written).store.bank .a).state = .written ∧
      ((readyToWrite .erased).store.bank .a).state ≠ .written) ∧
    (asks [19] (readyToWrite .staged) .updCommit ∧ ((readyToWrite .staged).store.bank .a).state = .staged ∧
      (readyToWrite .staged).sched.run = none ∧ (running runOne 5 false).sched.run = some runOne ∧
      ((readyToWrite .written).store.bank .a).state ≠ .staged) ∧
    (asks [20] ready .updAbort ∧ ready.store.update = .idle) ∧
    (asks [20] (serviced .checking false) .updAbort ∧ (serviced .checking false).store.update = .checking) ∧
    (asks [20] (serviced .commitPending false) .updAbort ∧ (serviced .commitPending false).sched.holdInEffect = false) ∧
    (let c : Part := { serviced .commitPending false with sched := { state := .running, hold := true, holdInEffect := true } }
     asks [20] c .updAbort ∧ c.store.update = .commitPending ∧ c.sched.holdInEffect = true ∧ c.sched.state = .running ∧
      c.south.sampling = []) ∧
    (asks [20] (serviced .switching false) .updAbort ∧ (serviced .switching false).store.update = .switching) := by
  and_intros <;> decide

end Sys2Proof.Tests
end

section
/-! # Passing and forwarding: the pass table decides (R22, R23)

The frame key is four bytes side by side, so it is read here as a concatenation; the match of an entry is one equality
of masked words, so it is read here bit by bit. -/
namespace Sys2Proof.Machine

/-! ### The frame key (R22) -/

/-- The bytes of a big-endian number, one more low byte at a time. -/
theorem ofBe_concat (bs : List Byte) (b : Byte) : ofBe (bs ++ [b]) = 256 * ofBe bs + b.toNat := by
  simp [ofBe]

/-- One low byte more is a concatenation on the right. -/
theorem ofNat_add_byte (w n : Nat) (b : Byte) :
    BitVec.ofNat (w + 8) (256 * n + b.toNat) = BitVec.ofNat w n ++ b := by
  have hb : b.toNat < 2 ^ 8 := b.isLt
  have low : (256 * n + b.toNat) % 2 ^ 8 = b.toNat := by omega
  have high : (256 * n + b.toNat) / 2 ^ 8 = n := by omega
  apply BitVec.eq_of_toNat_eq
  calc (BitVec.ofNat (w + 8) (256 * n + b.toNat)).toNat
      = (256 * n + b.toNat) % (2 ^ 8 * 2 ^ w) := by rw [BitVec.toNat_ofNat, pow_add, mul_comm (2 ^ w)]
    _ = n % 2 ^ w * 2 ^ 8 + b.toNat := by rw [Nat.mod_mul, low, high, add_comm, mul_comm]
    _ = (BitVec.ofNat w n ++ b).toNat := by
      rw [BitVec.toNat_append, ← Nat.shiftLeft_add_eq_or_of_lt hb, Nat.shiftLeft_eq, BitVec.toNat_ofNat]

theorem ofNat_ofBe_four (a b c d : Byte) : BitVec.ofNat 32 (ofBe [a, b, c, d]) = a ++ b ++ c ++ d := by
  have low_one : BitVec.ofNat 8 (ofBe [a]) = a := by simp [ofBe]
  have low_two : BitVec.ofNat 16 (ofBe [a, b]) = a ++ b := by
    rw [show [a, b] = [a] ++ [b] from rfl, ofBe_concat, ofNat_add_byte 8, low_one]
  have low_three : BitVec.ofNat 24 (ofBe [a, b, c]) = a ++ b ++ c := by
    rw [show [a, b, c] = [a, b] ++ [c] from rfl, ofBe_concat, ofNat_add_byte 16, low_two]
  rw [show [a, b, c, d] = [a, b, c] ++ [d] from rfl, ofBe_concat, ofNat_add_byte 24, low_three]

theorem Frame.byte_eq_getElem?_getD (f : Frame) (i : Nat) : f.byte i = (f.payload[i]?).getD 0#8 :=
  List.getD_eq_getElem?_getD

theorem Frame.passKey_eq_append (f : Frame) : f.passKey =
    f.dest ++ BitVec.ofNat 8 f.kind.code ++ (f.payload[0]?).getD 0#8 ++ (f.payload[1]?).getD 0#8 := by
  rw [Frame.passKey, ofNat_ofBe_four, f.byte_eq_getElem?_getD, f.byte_eq_getElem?_getD]

/-! ### The match of an entry and the decision (R23) -/

/-- The masked words agree exactly when every bit the mask selects agrees. -/
theorem PassEntry.matchesKey_iff (e : PassEntry) (key : BitVec 32) : e.matchesKey key = true ↔
    ∀ b < 32, e.mask.getLsbD b = true → key.getLsbD b = e.key.getLsbD b := by
  rw [PassEntry.matchesKey, decide_eq_true_iff]
  constructor
  · intro same b _ selected
    simpa [selected] using congrArg (·.getLsbD b) same
  · intro agree
    apply BitVec.eq_of_getLsbD_eq
    intro b hb
    cases selected : e.mask.getLsbD b with
    | false => simp [selected]
    | true => simp [selected, agree b hb selected]

theorem PassEntry.matchesKey_eq_false_iff (e : PassEntry) (key : BitVec 32) : e.matchesKey key = false ↔
    ∃ b < 32, e.mask.getLsbD b = true ∧ key.getLsbD b ≠ e.key.getLsbD b := by
  rw [← Bool.not_eq_true, e.matchesKey_iff]
  push Not
  rfl

theorem Tables.decide_of_first_match {t : Tables} {key : BitVec 32} {n : Nat} {e : PassEntry}
    (at_n : t.pass[n]? = some e) (agrees : e.matchesKey key = true)
    (earlier : ∀ (m : Nat) (x : PassEntry), m < n → t.pass[m]? = some x → x.matchesKey key = false) :
    t.decide key = (e.action, n) := by
  obtain ⟨hn, get_n⟩ := List.getElem?_eq_some_iff.mp at_n
  have found : t.pass.findIdx? (fun x => x.matchesKey key) = some n := by
    refine List.findIdx?_eq_some_iff_getElem.mpr ⟨hn, get_n ▸ agrees, fun m hm => ?_⟩
    simp [earlier m _ hm (List.getElem?_eq_getElem (hm.trans hn))]
  simp [Tables.decide, found, at_n]

theorem Tables.decide_of_no_match {t : Tables} {key : BitVec 32}
    (none_agrees : ∀ e ∈ t.pass, e.matchesKey key = false) : t.decide key = (t.passDefault, 255) := by
  have found : t.pass.findIdx? (fun x => x.matchesKey key) = none := List.findIdx?_eq_none_iff.mpr none_agrees
  simp [Tables.decide, found]

/-! ### The action (R23) -/

theorem ConnState.atRest_iff (s : ConnState) : s.atRest = true ↔ s = .opened ∨ s = .lockedOut := by
  cases s <;> simp [ConnState.atRest]

/-- Settles O20: the key as a concatenation, the match bit by bit, the first entry that matches or none, and the four
actions. -/
theorem passTableDecides : Obligations.PassTableDecides := by
  refine ⟨Frame.passKey_eq_append, fun t key => ⟨?first, ?default⟩,
    fun c => ⟨rfl, rfl, c.seq.conn.atRest_iff, rfl⟩⟩
  case first =>
    intro n e at_n agrees earlier
    exact Tables.decide_of_first_match at_n ((e.matchesKey_iff key).mpr agrees)
      fun m x hm at_m => (x.matchesKey_eq_false_iff key).mpr (earlier m x hm at_m)
  case default =>
    intro differs
    exact Tables.decide_of_no_match fun e he => (e.matchesKey_eq_false_iff key).mpr (differs e he)

end Sys2Proof.Machine
end

section
/-! # The corrections of the five value classes (R64, R65)

Rounding a product half away from zero acts on its magnitude and keeps its sign. Each property of R64 is read off the
quotient `(|P| + 32,768) / 65,536`, once for each sign of `P`. -/
namespace Sys2Proof.Machine

/-! ### The rounded quotient of a product (R64) -/

theorem roundTrim_of_nonneg {p : Int} (hp : 0 ≤ p) : roundTrim p = (p + 32768) / 65536 := by
  rw [roundTrim, if_neg (not_lt.mpr hp), Int.natAbs_of_nonneg hp]

/-- Half away from zero treats both signs alike. -/
theorem roundTrim_neg (p : Int) : roundTrim (-p) = -roundTrim p := by
  simp only [roundTrim, Int.natAbs_neg]
  split <;> split <;> omega

@[simp] theorem roundTrim_zero : roundTrim 0 = 0 := rfl

theorem natAbs_roundTrim (p : Int) : (roundTrim p).natAbs = (p.natAbs + 32768) / 65536 := by
  obtain hp | hp := le_total 0 p
  · rw [roundTrim_of_nonneg hp]
    omega
  · have positive := roundTrim_of_nonneg (neg_nonneg.mpr hp)
    rw [roundTrim_neg] at positive
    omega

theorem roundTrim_nonneg {p : Int} (hp : 0 ≤ p) : 0 ≤ roundTrim p := by
  rw [roundTrim_of_nonneg hp]
  omega

theorem roundTrim_nonpos {p : Int} (hp : p ≤ 0) : roundTrim p ≤ 0 := by
  have positive := roundTrim_nonneg (neg_nonneg.mpr hp)
  rwa [roundTrim_neg, neg_nonneg] at positive

/-- The quotient takes the sign of the product. -/
theorem roundTrim_mul_nonneg (p : Int) : 0 ≤ roundTrim p * p := by
  obtain hp | hp := le_total 0 p
  · exact mul_nonneg (roundTrim_nonneg hp) hp
  · exact mul_nonneg_of_nonpos_of_nonpos (roundTrim_nonpos hp) hp

/-- With equal signs the distance of the quotient from the product is the distance of the magnitudes. -/
theorem natAbs_mul_roundTrim_sub (p : Int) :
    (65536 * roundTrim p - p).natAbs = (65536 * ((p.natAbs + 32768) / 65536 : Nat) - (p.natAbs : Int)).natAbs := by
  rw [← natAbs_roundTrim]
  obtain hp | hp := le_total 0 p
  · have := roundTrim_nonneg hp
    omega
  · have := roundTrim_nonpos hp
    omega

/-- No integer lies nearer to the exact quotient. -/
theorem natAbs_mul_roundTrim_sub_le (p : Int) : (65536 * roundTrim p - p).natAbs ≤ 32768 := by
  rw [natAbs_mul_roundTrim_sub]
  omega

/-- Halfway between two integers, the one farther from zero is taken. -/
theorem natAbs_lt_natAbs_mul_roundTrim_of_tie {p : Int} (tie : (65536 * roundTrim p - p).natAbs = 32768) :
    p.natAbs < (65536 * roundTrim p).natAbs := by
  have magnitude := natAbs_roundTrim p
  rw [natAbs_mul_roundTrim_sub] at tie
  omega

/-! ### The corrected value of each class (R63 to R65) -/

theorem correct_cellVoltage (code gain offset : Int) : correct .cellVoltage code gain offset =
    max 0 (min 65535 (code + roundTrim (code * gain) + offset)) := rfl

theorem correct_packCurrent (code gain offset : Int) : correct .packCurrent code gain offset =
    max (-8388608) (min 8388607 (code + roundTrim (code * gain) + offset)) := rfl

theorem correct_temperature (code gain offset : Int) :
    correct .temperature code gain offset = max (-550) (min 1550 (code + offset)) := rfl

theorem correct_packVoltage (code gain offset : Int) :
    correct .packVoltage code gain offset = max 0 (min 65535 (code + offset)) := rfl

theorem correct_linkVoltage (code gain offset : Int) :
    correct .linkVoltage code gain offset = max 0 (min 65535 (code + offset)) := rfl

/-- No offset trim in its range is large enough to lift the lowest raw temperature into the range. -/
theorem correct_temperature_lowest {offset : Int} (gain : Int) (high : offset ≤ 127) :
    correct .temperature (-32768) gain offset = -550 := by
  rw [correct_temperature]
  omega

theorem correct_packVoltage_zero_of_neg {offset : Int} (gain : Int) (negative : offset < 0) :
    correct .packVoltage 0 gain offset = 0 := by
  rw [correct_packVoltage]
  omega

/-- Settles O17: the quotient is `roundTrim` of the product, and the offset-only classes do not use it. -/
theorem correctionsAreExact : Obligations.CorrectionsAreExact := by
  intro code gain offset
  refine ⟨⟨roundTrim (code * gain), natAbs_roundTrim _, roundTrim_mul_nonneg _, natAbs_mul_roundTrim_sub_le _,
      natAbs_lt_natAbs_mul_roundTrim_of_tie, ?zero, correct_cellVoltage .., correct_packCurrent ..⟩,
    correct_temperature .., correct_packVoltage .., correct_linkVoltage ..,
    fun _ high => correct_temperature_lowest gain high, correct_packVoltage_zero_of_neg gain⟩
  case zero =>
    rintro (rfl | rfl) <;> simp

end Sys2Proof.Machine
end

section
/-! # Admission of a report (R126, R127, R129)

Both classes are admitted by one test, the fill against the class's limit. What an offer makes of the queue is then two
cases, and an admission keeps the queue's bounds because a sweep report joins only below 56 reports of either class. -/
namespace Sys2Proof.Machine

/-- The fill from which reports of a class are discarded (R127). -/
def ReportClass.limit : ReportClass → Nat
  | .sweep => 56
  | .priority => 64

/-- The reports of the sweep class in a queue. -/
def sweepReports (queue : List QueuedReport) : List QueuedReport :=
  queue.filter (fun r => decide (r.cls = .sweep))

/-- At most 64 reports, at most 56 of them sweep reports. -/
def QueueBounded (queue : List QueuedReport) : Prop :=
  queue.length ≤ 64 ∧ (sweepReports queue).length ≤ 56

/-! ### What an offer does (R126, R127) -/

/-- An admission in one update: the fill handed on is the old one and one more (R129). -/
theorem Part.admitReport_eq (cls : ReportClass) (f : Frame) (c : Part) : c.admitReport cls f =
    { c with
      reports.queue := c.reports.queue ++ [{ cls := cls, frame := f }],
      sched.throttled := throttleFor c.store.tables.header (c.reports.queue.length + 1) c.sched.throttled } := by
  simp only [Part.admitReport, Part.handFill, Part.tables, List.length_append, List.length_singleton]

/-- Below its class's limit a report is admitted with the sequence number it takes. -/
theorem Part.offerReport_of_lt_limit {cls : ReportClass} {c : Part} (payload : List Byte)
    (below : c.reports.queue.length < cls.limit) : c.offerReport cls payload =
    Part.admitReport cls (reportFrame c.reports.nextSeq payload)
      { c with reports.nextSeq := c.reports.nextSeq + 1 } := by
  cases cls with
  | sweep => exact if_pos below
  | priority => exact if_pos below

theorem Part.offerReport_sweep_of_full {c : Part} (payload : List Byte) (full : 56 ≤ c.reports.queue.length) :
    c.offerReport .sweep payload =
    { c with
      reports.nextSeq := c.reports.nextSeq + 1, reports.sweepDiscarded := bump16 c.reports.sweepDiscarded } :=
  if_neg (Nat.not_lt.mpr full)

theorem Part.offerReport_priority_of_full {c : Part} (payload : List Byte) (full : 64 ≤ c.reports.queue.length) :
    c.offerReport .priority payload =
    { c with
      reports.nextSeq := c.reports.nextSeq + 1, reports.priorityDiscarded := bump16 c.reports.priorityDiscarded,
      reports.priorityLoss := true } :=
  if_neg (Nat.not_lt.mpr full)

/-! ### What an offer makes of the queue -/

theorem Part.offerReport_queue_of_lt_limit {cls : ReportClass} {c : Part} (payload : List Byte)
    (below : c.reports.queue.length < cls.limit) : (c.offerReport cls payload).reports.queue =
    c.reports.queue ++ [{ cls := cls, frame := reportFrame c.reports.nextSeq payload }] := by
  rw [Part.offerReport_of_lt_limit payload below, Part.admitReport_eq]

theorem Part.offerReport_queue_of_full {cls : ReportClass} {c : Part} (payload : List Byte)
    (full : cls.limit ≤ c.reports.queue.length) : (c.offerReport cls payload).reports.queue = c.reports.queue := by
  cases cls with
  | sweep => rw [Part.offerReport_sweep_of_full payload full]
  | priority => rw [Part.offerReport_priority_of_full payload full]

theorem length_sweepReports_le (queue : List QueuedReport) : (sweepReports queue).length ≤ queue.length :=
  List.length_filter_le ..

theorem length_sweepReports_append (queue : List QueuedReport) (cls : ReportClass) (f : Frame) :
    (sweepReports (queue ++ [{ cls := cls, frame := f }])).length =
    (sweepReports queue).length + if cls = .sweep then 1 else 0 := by
  cases cls <;> simp [sweepReports]

/-- One more report below its class's limit keeps the bounds: there are never more sweep reports than reports. -/
theorem QueueBounded.append_of_lt_limit {queue : List QueuedReport} {cls : ReportClass} (f : Frame)
    (bounded : QueueBounded queue) (below : queue.length < cls.limit) :
    QueueBounded (queue ++ [{ cls := cls, frame := f }]) := by
  obtain ⟨-, sweeps⟩ := bounded
  have sweeps_le := length_sweepReports_le queue
  unfold QueueBounded
  rw [List.length_append, List.length_singleton, length_sweepReports_append]
  cases cls with
  | sweep =>
    have : queue.length < 56 := below
    simp only [if_true]
    omega
  | priority =>
    have : queue.length < 64 := below
    simp only [reduceCtorEq, if_false]
    omega

/-- The bounds of the queue survive every offer. -/
theorem Part.offerReport_queueBounded {c : Part} (cls : ReportClass) (payload : List Byte)
    (bounded : QueueBounded c.reports.queue) : QueueBounded (c.offerReport cls payload).reports.queue := by
  obtain below | full := lt_or_ge c.reports.queue.length cls.limit
  · rw [Part.offerReport_queue_of_lt_limit payload below]
    exact bounded.append_of_lt_limit _ below
  · rwa [Part.offerReport_queue_of_full payload full]

/-- Settles O21: an admission is one update, a discard is another, and either keeps the bounds of the queue. -/
theorem reportIsAdmittedByFill : Obligations.ReportIsAdmittedByFill := by
  intro c payload
  refine ⟨fun below => ?_, Part.offerReport_sweep_of_full payload, fun below => ?_,
    Part.offerReport_priority_of_full payload,
    fun fill sweeps cls => Part.offerReport_queueBounded cls payload ⟨fill, sweeps⟩⟩
  · exact (Part.offerReport_of_lt_limit (cls := .sweep) payload below).trans (Part.admitReport_eq ..)
  · exact (Part.offerReport_of_lt_limit (cls := .priority) payload below).trans (Part.admitReport_eq ..)

end Sys2Proof.Machine
end

section
/-! # Steps: the front of the queue, the clocks, and the answers of the commands (R40, R151, R183) -/
namespace Sys2Proof.Machine

/-- Settles O1: `step` on a queue with a front is `exec` of that front. -/
theorem stepRunsTheFrontCommand : Obligations.StepRunsTheFrontCommand := fun _ _ _ => rfl

/-- The one command that need not answer is the end of a programming. -/
theorem exec_writeProgrammingEnd (c : Part) (q : List Instr) : exec .writeProgrammingEnd ⟨c, q⟩ =
    match c.mgmt.programming with
    | none => .next ⟨c, q⟩
    | some p =>
      if p.offset + p.data.length ≤ bankSize then .next ⟨c.programmed q p, q⟩
      else .fault (.noSuchBankByte (p.offset + p.data.length - 1)) := rfl

/-- Settles O3: every command but the end of a programming is an effect on the part. -/
theorem everyCommandAnswers : Obligations.EveryCommandAnswers := by
  intro i c q
  cases i
  case writeProgrammingEnd =>
    rw [exec_writeProgrammingEnd]
    cases programming : c.mgmt.programming with
    | none => exact .inl ⟨c, rfl⟩
    | some p =>
      by_cases fits : p.offset + p.data.length ≤ bankSize
      · exact .inl ⟨c.programmed q p, by simp [fits]⟩
      · exact .inr ⟨rfl, p, rfl, not_le.mp fits, by simp [fits]⟩
  all_goals exact .inl ⟨_, rfl⟩

/-- Settles O4: the fresh part is evaluated. -/
theorem resetKeepsTheLaws : Obligations.ResetKeepsTheLaws := by
  unfold Obligations.ResetKeepsTheLaws
  decide

end Sys2Proof.Machine
end

section
/-! # What no operation breaks

Most operations of the part move nothing that its laws speak of, or move it inside the laws. `Calm c d` says so of `d`
against `c`: it holds of a chain of operations when it holds of each, so each law of the whole part is read off it at
the end. What an operation writes besides the fields of `Part.view` needs no argument. -/
namespace Sys2Proof.Machine

/-- What the laws of the contactors, the interlock unit and the floors read of a part. -/
structure ControlView where
  conn : ConnState
  drives : Bool × Bool × Bool
  power : PowerState
  tripped : List FaultObject
  latches : ClassSet
  eventClasses : ClassSet
  effective : Action
  faultOut : Bool
  record : Option ServiceRecord
  copy : ServiceRecord
  recordRead : Bool
  storeState : StoreState
  tables : Tables
  write : RecordWrite
  update : UpdateState
  staged : Option Nat
  switch : SwitchPhase
  versionInUse : Option Nat
  programming : Option Programming

def Part.control (c : Part) : ControlView :=
  { conn := c.seq.conn, drives := (c.seq.kPos.drive, c.seq.kNeg.drive, c.seq.kPre.drive), power := c.power.state,
    tripped := c.interlock.tripped, latches := c.interlock.latches, eventClasses := c.interlock.events,
    effective := c.interlock.effective, faultOut := c.interlock.faultOut, record := c.store.record,
    copy := c.store.copy, recordRead := c.store.recordRead, storeState := c.store.state, tables := c.store.tables,
    write := c.store.write, update := c.store.update, staged := c.store.staged, switch := c.store.switch,
    versionInUse := c.store.versionInUse, programming := c.mgmt.programming }

/-- What the bounds read of a part. -/
structure LoadView where
  places : Nat
  tracker : List TxRecord
  southQueue : List SouthEntry
  forward : List ForwardEntry
  sweeps : Nat
  queue : List QueuedReport
  events : Nat
  records : List FaultRecord
  counters : List Nat
  overwritten : Nat
  slotMiss : Vector Nat 24

def Part.load (c : Part) : LoadView :=
  { places := c.mgmt.places, tracker := c.router.tracker, southQueue := c.router.southQueue,
    forward := c.router.forward, sweeps := c.sched.sweeps.length, queue := c.reports.queue,
    events := c.seq.events.length, records := c.eval.records, counters := c.counters,
    overwritten := c.seq.overwritten, slotMiss := c.sched.slotMiss }

/-- K+ is driven open, and no precharge waits for it to close. -/
def Part.mainOpen (c : Part) : Prop := c.seq.kPos.drive = false ∧ c.seq.conn ≠ .precharging

/-- The service record has been read and the tamper latch is set. -/
def Part.latched (c : Part) : Prop := c.store.recordRead = true ∧ c.store.copy.tamper = true

/-- The effective action is the one that the active classes ask for. -/
def Part.formed (c : Part) : Prop := c.interlock.effective = c.effectiveAction

/-- FAULT_OUT follows the effective action and LOCKED_OUT. -/
def Part.levelled (c : Part) : Prop := c.interlock.faultOut = c.faultLevel

/-- What the ordinary operations keep: the laws, the states that are left only by their own commands, and the floor of the
record in memory. The effective action is kept formed where it is formed at once. -/
structure Calm (f : Forming) (c d : Part) : Prop where
  contactors : c.contactorLaws = true → d.contactorLaws = true
  atRest : c.seq.conn.atRest = true → d.seq.conn.atRest = true
  lockedOut : c.seq.conn = .lockedOut → d.seq.conn = .lockedOut
  mainOpen : c.mainOpen → d.mainOpen
  active : c.power.state = .active → d.power.state = .active
  latched : c.latched → d.latched
  floors : c.floorLaws = true → d.floorLaws = true
  record : c.floorLaws = true → c.store.recordAsRead.floor ≤ d.store.recordAsRead.floor
  bounds : c.boundLaws = true → d.boundLaws = true
  formed : f = .now → c.formed → d.formed
  levelled : c.levelled → d.levelled

/-- The record in memory stays. -/
theorem Part.floor_le_of_record {c d : Part} (same : d.store.record = c.store.record) (_ : c.floorLaws = true) :
    c.store.recordAsRead.floor ≤ d.store.recordAsRead.floor := by simp [Store.recordAsRead, same]

theorem Calm.refl (f : Forming) (c : Part) : Calm f c c := 
  ⟨id, id, id, id, id, id, id, fun _ => le_rfl, id, fun _ => id, id⟩

theorem Calm.trans {f : Forming} {a b c : Part} (h : Calm f a b) (h' : Calm f b c) : Calm f a c where
  contactors := h'.contactors ∘ h.contactors
  atRest := h'.atRest ∘ h.atRest
  lockedOut := h'.lockedOut ∘ h.lockedOut
  mainOpen := h'.mainOpen ∘ h.mainOpen
  active := h'.active ∘ h.active
  latched := h'.latched ∘ h.latched
  floors := h'.floors ∘ h.floors
  record := fun laws => (h.record laws).trans (h'.record (h.floors laws))
  bounds := h'.bounds ∘ h.bounds
  formed := fun now => h'.formed now ∘ h.formed now
  levelled := h'.levelled ∘ h.levelled

/-! ### The laws as propositions -/

theorem Part.contactorLaws_iff (c : Part) : c.contactorLaws = true ↔
    c.drivesFit = true ∧ (c.power.state = .active ∨ c.seq.conn.atRest = true) ∧
      (c.store.update = .idle ∨ c.seq.conn.atRest = true) := by
  simp [Part.contactorLaws, and_assoc]

theorem Part.interlockLaws_iff (c : Part) : c.interlockLaws = true ↔ c.formed ∧ c.levelled := by
  simp [Part.interlockLaws, Part.formed, Part.levelled]

theorem Calm.interlock {c d : Part} (h : Calm .now c d) (laws : c.interlockLaws = true) : d.interlockLaws = true := by
  rw [Part.interlockLaws_iff] at laws ⊢
  exact ⟨h.formed rfl laws.1, h.levelled laws.2⟩

/-- The laws of the floors, one by one. -/
structure FloorLaws (c : Part) : Prop where
  copied : c.store.recordRead = true → c.store.recordAsRead.floor ≤ c.store.copy.floor
  written : c.store.recordRead = true → ∀ f done, c.store.write.current = some (f, done) →
    c.store.recordAsRead.floor ≤ f.floor ∧ f.floor ≤ c.store.copy.floor
  staged : c.store.recordRead = true → ∀ v, c.store.staged = some v → c.store.copy.floor ≤ v
  unread : c.store.recordRead = false → c.store.state = .loading ∧ c.seq.conn = .opened ∧
    c.store.tables.interlock = none ∧ c.store.write = .idle ∧ c.store.update = .idle ∧ c.store.staged = none
  configured : c.store.state = .configured → c.store.update = .switching ∨ c.store.versionInUse = some c.store.copy.floor
  unconfigured : c.store.state ≠ .configured → c.store.versionInUse = none
  switching : c.store.switch ≠ .none → c.store.update = .switching
  programming : c.mgmt.programming ≠ none → c.store.update = .ready

theorem RecordWrite.floorWithin_iff (lo hi : Nat) (w : RecordWrite) : w.floorWithin lo hi = true ↔
    ∀ f done, w.current = some (f, done) → lo ≤ f.floor ∧ f.floor ≤ hi := by
  cases w <;> simp [RecordWrite.floorWithin, RecordWrite.current]

theorem Part.floorLaws_iff (c : Part) : c.floorLaws = true ↔ FloorLaws c := by
  have staged : c.store.copy.floor ≤ c.store.staged.getD c.store.copy.floor ↔
      ∀ v, c.store.staged = some v → c.store.copy.floor ≤ v := by
    cases c.store.staged <;> simp
  have unfolded : c.floorLaws = true ↔ c.floorOrder = true ∧
      (if c.store.state = .configured then c.store.update = .switching ∨ c.store.versionInUse = some c.store.copy.floor
        else c.store.versionInUse = none) ∧
      (c.store.switch = .none ∨ c.store.update = .switching) ∧
      (c.mgmt.programming = none ∨ c.store.update = .ready) := by
    by_cases configured : c.store.state = .configured <;> simp [Part.floorLaws, configured, and_assoc]
  have order : c.floorOrder = true ↔
      if c.store.recordRead = true then c.store.recordAsRead.floor ≤ c.store.copy.floor ∧
        c.store.write.floorWithin c.store.recordAsRead.floor c.store.copy.floor = true ∧
        ∀ v, c.store.staged = some v → c.store.copy.floor ≤ v
      else c.store.state = .loading ∧ c.seq.conn = .opened ∧ c.store.tables.interlock = none ∧
        c.store.write = .idle ∧ c.store.update = .idle ∧ c.store.staged = none := by
    cases read : c.store.recordRead <;> simp [Part.floorOrder, read, and_assoc, staged]
  rw [unfolded, order, RecordWrite.floorWithin_iff]
  constructor
  · rintro ⟨order, version, switch, programming⟩
    constructor <;> intros <;> simp_all
  · rintro ⟨copied, written, staged, unread, configured, unconfigured, switching, programming⟩
    refine ⟨?_, ?_, or_iff_not_imp_left.mpr switching, or_iff_not_imp_left.mpr programming⟩
    · split
      next read => exact ⟨copied read, written read, staged read⟩
      next read => exact unread (Bool.eq_false_iff.mpr read)
    · split
      next state => exact configured state
      next state => exact unconfigured state

/-- The bounds, one by one. -/
structure BoundLaws (c : Part) : Prop where
  places : c.mgmt.places ≤ 4
  load : c.router.trackedLoad ≤ 8
  refusals : c.router.refusals ≤ 4
  southQueue : c.router.southQueue.length ≤ 8
  sequences : c.router.tracker.Pairwise (fun a b => a.seq ≠ b.seq)
  sweeps : c.sched.sweeps.length ≤ 4
  queue : QueueBounded c.reports.queue
  events : c.seq.events.length ≤ 32
  records : c.eval.records.length ≤ 32
  keys : c.eval.records.Pairwise (fun a b => a.key ≠ b.key)
  counters : ∀ n ∈ c.counters, n ≤ 65535
  overwritten : c.seq.overwritten ≤ 255
  slotMiss : ∀ n ∈ c.sched.slotMiss, n ≤ 255

theorem Part.boundLaws_iff (c : Part) : c.boundLaws = true ↔ BoundLaws c := by
  simp only [Part.boundLaws, Bool.and_eq_true, decide_eq_true_eq, List.all_eq_true]
  constructor
  · rintro ⟨⟨⟨⟨⟨⟨⟨⟨⟨⟨⟨⟨⟨places, load⟩, refusals⟩, southQueue⟩, sequences⟩, sweeps⟩, fill⟩, sweepFill⟩, events⟩, records⟩, keys⟩,
      counters⟩, overwritten⟩, slotMiss⟩
    exact ⟨places, load, refusals, southQueue, sequences, sweeps, ⟨fill, sweepFill⟩, events, records, keys, counters,
      overwritten, by simpa using slotMiss⟩
  · intro h
    exact ⟨⟨⟨⟨⟨⟨⟨⟨⟨⟨⟨⟨⟨h.places, h.load⟩, h.refusals⟩, h.southQueue⟩, h.sequences⟩, h.sweeps⟩, h.queue.1⟩, h.queue.2⟩, h.events⟩,
      h.records⟩, h.keys⟩, h.counters⟩, h.overwritten⟩, by simpa using h.slotMiss⟩

/-! ### The laws read no more than the two views -/

theorem Part.contactorLaws_of_control {c d : Part} (h : d.control = c.control) (laws : c.contactorLaws = true) :
    d.contactorLaws = true := by
  simp only [Part.control, ControlView.mk.injEq, Prod.mk.injEq] at h
  simpa only [Part.contactorLaws_iff, Part.drivesFit, h] using laws

/-- The effective action is formed of the class activity and the tables. -/
theorem Part.effectiveAction_congr {c d : Part} (tripped : d.interlock.tripped = c.interlock.tripped)
    (latches : d.interlock.latches = c.interlock.latches) (events : d.interlock.events = c.interlock.events)
    (deep : d.power.state = .deep ↔ c.power.state = .deep) (tables : d.store.tables = c.store.tables) :
    d.effectiveAction = c.effectiveAction := by
  have active : d.classActive = c.classActive := by
    funext k
    simp only [Part.classActive, Part.hasObject, tripped, latches, events, deep]
  simp only [Part.effectiveAction, Part.activeClasses, active, tables]
  rfl

theorem Part.formed_of_control {c d : Part} (h : d.control = c.control) : c.formed → d.formed := by
  simp only [Part.control, ControlView.mk.injEq, Prod.mk.injEq] at h
  have action : d.effectiveAction = c.effectiveAction := by apply Part.effectiveAction_congr <;> simp only [h]
  simp only [Part.formed, action, h, imp_self]

theorem Part.levelled_of_control {c d : Part} (h : d.control = c.control) : c.levelled → d.levelled := by
  simp only [Part.control, ControlView.mk.injEq, Prod.mk.injEq] at h
  simp only [Part.levelled, Part.faultLevel, h, imp_self]

theorem Part.floorLaws_of_control {c d : Part} (h : d.control = c.control) (laws : c.floorLaws = true) : d.floorLaws = true := by
  simp only [Part.control, ControlView.mk.injEq, Prod.mk.injEq] at h
  rw [Part.floorLaws_iff] at laws ⊢
  obtain ⟨copied, written, staged, unread, configured, unconfigured, switching, programming⟩ := laws
  constructor <;> simpa only [Store.recordAsRead, h]

theorem Part.boundLaws_of_load {c d : Part} (h : d.load = c.load) (laws : c.boundLaws = true) : d.boundLaws = true := by
  simp only [Part.load, LoadView.mk.injEq] at h
  rw [Part.boundLaws_iff] at laws ⊢
  obtain ⟨places, load, refusals, southQueue, sequences, sweeps, queue, events, records, keys, counters, overwritten,
    slotMiss⟩ := laws
  constructor <;> simpa only [Router.trackedLoad, Router.refusals, h]

/-- An operation that moves no more than the bounds speak of keeps all laws when it keeps those. -/
theorem Calm.of_control {f : Forming} {c d : Part} (h : d.control = c.control)
    (bounds : c.boundLaws = true → d.boundLaws = true) : Calm f c d := by
  have contactors := Part.contactorLaws_of_control h
  have formed := Part.formed_of_control h
  have levelled := Part.levelled_of_control h
  have floors := Part.floorLaws_of_control h
  simp only [Part.control, ControlView.mk.injEq, Prod.mk.injEq] at h
  exact
    { contactors, floors, bounds, levelled, formed := fun _ => formed
      atRest := by simp only [h, imp_self]
      lockedOut := by simp only [h, imp_self]
      mainOpen := by simp only [Part.mainOpen, h, imp_self]
      active := by simp only [h, imp_self]
      latched := by simp only [Part.latched, h, imp_self]
      record := Part.floor_le_of_record (by simp only [h]) }

theorem Calm.quiet {f : Forming} {a c d : Part} (h : Calm f a c) (control : d.control = c.control)
    (load : d.load = c.load) : Calm f a d := h.trans (.of_control control (Part.boundLaws_of_load load))

/-! ### The shared operations -/

theorem bump16_le (n : Nat) : bump16 n ≤ 65535 := Nat.min_le_right ..

theorem bump8_le (n : Nat) : bump8 n ≤ 255 := Nat.min_le_right ..

variable {f : Forming} {a c : Part}

theorem Calm.useFree (h : Calm f a c) : Calm f a c.useFree := h.quiet rfl rfl

theorem Calm.handFill (h : Calm f a c) : Calm f a c.handFill := h.quiet rfl rfl

theorem Part.offerReport_control (cls : ReportClass) (payload : List Byte) (c : Part) :
    (c.offerReport cls payload).control = c.control := by
  cases cls <;> unfold Part.offerReport <;> dsimp only <;> split <;> rfl

theorem Part.offerReport_boundLaws (cls : ReportClass) (payload : List Byte) {c : Part} (h : c.boundLaws = true) :
    (c.offerReport cls payload).boundLaws = true := by
  rw [Part.boundLaws_iff] at h ⊢
  have queue := Part.offerReport_queueBounded cls payload h.queue
  have counters : ∀ n ∈ (c.offerReport cls payload).counters, n ≤ 65535 := by
    have old := h.counters
    obtain below | full := lt_or_ge c.reports.queue.length cls.limit
    · rw [Part.offerReport_of_lt_limit payload below]
      exact old
    · cases cls with
      | sweep =>
        rw [Part.offerReport_sweep_of_full payload full]
        simp only [Part.counters, List.mem_cons] at old ⊢
        grind [bump16_le]
      | priority =>
        rw [Part.offerReport_priority_of_full payload full]
        simp only [Part.counters, List.mem_cons] at old ⊢
        grind [bump16_le]
  obtain ⟨places, load, refusals, southQueue, sequences, sweeps, -, events, records, keys, -, overwritten,
    slotMiss⟩ := h
  constructor <;> simpa

theorem Calm.offerReport (h : Calm f a c) (cls : ReportClass) (payload : List Byte) :
    Calm f a (c.offerReport cls payload) :=
  h.trans (.of_control (c.offerReport_control cls payload) (Part.offerReport_boundLaws cls payload))

theorem Calm.offerAnswer (h : Calm f a c) (payload : List Byte) : Calm f a (c.offerAnswer payload) := by
  unfold Part.offerAnswer
  split
  · exact h.offerReport _ _
  · exact h.quiet rfl rfl

/-- A fold of calm steps is calm. -/
theorem Calm.foldl {α : Type} {op : Part → α → Part} (step : ∀ c x, Calm f c (op c x)) (h : Calm f a c) (l : List α) :
    Calm f a (l.foldl op c) := by
  induction l generalizing c with
  | nil => exact h
  | cons x l ih => exact ih (h.trans (step c x))

/-- The same for a fold that carries a tally beside the part. -/
theorem Calm.foldl_fst {α β : Type} {op : Part × β → α → Part × β} (step : ∀ c x, Calm f c.1 (op c x).1)
    {c : Part × β} (h : Calm f a c.1) (l : List α) : Calm f a (l.foldl op c).1 := by
  induction l generalizing c with
  | nil => exact h
  | cons x l ih => exact ih (h.trans (step c x))

theorem Calm.holdAnswers (h : Calm f a c) : Calm f a c.holdAnswers := h.quiet rfl rfl

theorem Calm.releaseAnswers (h : Calm f a c) : Calm f a c.releaseAnswers :=
  Calm.foldl (fun c payload => (Calm.refl f c).offerReport .priority payload)
    (h.quiet (d := { c with reports.held := none }) rfl rfl) _

theorem Calm.offerFault (h : Calm f a c) (k : FaultClass) (payload : List Byte) :
    Calm f a (c.offerFault k payload) := by
  unfold Part.offerFault
  split
  · exact h.offerAnswer payload
  · exact h.offerReport _ payload

/-! ### The fault record list -/

/-- A change of the record list alone that keeps its bound and its keys apart. -/
theorem Calm.setRecords (h : Calm f a c) {rs : List FaultRecord} (length : rs.length ≤ c.eval.records.length ∨ rs.length ≤ 32)
    (keys : c.eval.records.Pairwise (fun a b => a.key ≠ b.key) → rs.Pairwise (fun a b => a.key ≠ b.key)) :
    Calm f a { c with eval.records := rs } := by
  refine h.trans (.of_control rfl fun laws => ?_)
  rw [Part.boundLaws_iff] at laws ⊢
  have records := laws.records
  exact { laws with records := by simp only; omega, keys := keys laws.keys }

/-- Changes that leave every record its key keep the keys apart. -/
theorem pairwise_key_of_map_key {rs rs' : List FaultRecord} (same : rs'.map (·.key) = rs.map (·.key))
    (h : rs.Pairwise (fun a b => a.key ≠ b.key)) : rs'.Pairwise (fun a b => a.key ≠ b.key) := by
  have keys : (rs.map (·.key)).Pairwise (· ≠ ·) := List.pairwise_map.mpr h
  exact List.pairwise_map.mp (same ▸ keys)

theorem map_key_set {rs : List FaultRecord} {i : Nat} {r r' : FaultRecord} (at_i : rs[i]? = some r)
    (same : r'.key = r.key) : (rs.set i r').map (·.key) = rs.map (·.key) := by
  obtain ⟨hi, rfl⟩ := List.getElem?_eq_some_iff.mp at_i
  apply List.ext_getElem <;> simp only [List.length_map, List.length_set, List.getElem_map, List.getElem_set]
  intro j _ _
  split
  · simp only [same, ‹i = j›]
  · rfl

theorem Calm.setRecord (h : Calm f a c) {i : Nat} {r r' : FaultRecord} (at_i : c.eval.records[i]? = some r)
    (same : r'.key = r.key) : Calm f a { c with eval.records := c.eval.records.set i r' } :=
  h.setRecords (.inl (by simp)) (pairwise_key_of_map_key (map_key_set at_i same))

theorem Calm.recordTrip (h : Calm f a c) (k : FaultKey) (t : Time) (v : Option Int) :
    Calm f a (c.recordTrip k t v) := by
  unfold Part.recordTrip
  split
  next i _ =>
    split
    next r at_i => exact (h.setRecord (r' := r.retrip t v) at_i rfl).offerFault _ _
    next => exact h
  next absent =>
    split
    next room =>
      refine (h.setRecords (rs := c.eval.records ++ [FaultRecord.create k t v]) (.inr ?_) fun keys => ?_).offerFault _ _
      · simp only [List.length_append, List.length_singleton]
        omega
      · refine List.pairwise_append.mpr ⟨keys, List.pairwise_singleton .., fun x hx y hy => ?_⟩
        obtain rfl := List.mem_singleton.mp hy
        simpa [FaultRecord.create] using List.findIdx?_eq_none_iff.mp absent x hx
    next =>
      refine h.trans (.of_control rfl fun laws => ?_)
      rw [Part.boundLaws_iff] at laws ⊢
      have old := laws.counters
      refine { laws with counters := ?_ }
      simp only [Part.counters, List.mem_cons] at old ⊢
      grind [bump16_le]

theorem Calm.recordClear (h : Calm f a c) (k : FaultKey) (t : Time) : Calm f a (c.recordClear k t) := by
  unfold Part.recordClear
  split
  next i _ =>
    split
    next r at_i =>
      split
      · exact (h.setRecord (r' := { r with active := false, last := t }) at_i rfl).offerFault _ _
      · exact h
    next => exact h
  next => exact h

theorem Calm.recordOffer (h : Calm f a c) (k : FaultKey) (v : Int) : Calm f a (c.recordOffer k v) := by
  refine h.setRecords (.inl (by simp)) (pairwise_key_of_map_key ?_)
  rw [List.map_map]
  congr 1
  funext r
  simp only [Function.comp_apply]
  split <;> rfl

theorem Calm.removeRecords (h : Calm f a c) : Calm f a c.removeRecords :=
  h.setRecords (.inl (List.length_filter_le ..)) fun keys => keys.filter _

/-! ### The contactor event queue, FAULT_OUT and the record write -/

theorem Part.appendEvent_bounds (kind : EventKind) (k : Option Contactor) (cause : Cause) (before after : ConnState)
    (current linkVoltage : Option Int) (laws : c.boundLaws = true) :
    (c.appendEvent kind k cause before after current linkVoltage).boundLaws = true := by
  unfold Part.appendEvent
  refine ((Calm.refl .now _).offerAnswer _).bounds ?_
  rw [Part.boundLaws_iff] at laws ⊢
  have events := laws.events
  have overwritten := laws.overwritten
  refine { laws with events := ?_, overwritten := ?_ }
  · by_cases full : 32 ≤ c.seq.events.length <;> simp [full] <;> omega
  · by_cases full : 32 ≤ c.seq.events.length <;> simp [full, overwritten, bump8_le]

theorem Part.offerAnswer_control (payload : List Byte) (c : Part) : (c.offerAnswer payload).control = c.control := by
  unfold Part.offerAnswer
  split
  · exact c.offerReport_control _ _
  · rfl

theorem Part.appendEvent_control (kind : EventKind) (k : Option Contactor) (cause : Cause) (before after : ConnState)
    (current linkVoltage : Option Int) (c : Part) :
    (c.appendEvent kind k cause before after current linkVoltage).control = c.control := by
  unfold Part.appendEvent
  exact Part.offerAnswer_control ..

theorem Part.logEvent_control (kind : EventKind) (k : Option Contactor) (cause : Cause) (before after : ConnState)
    (c : Part) : (c.logEvent kind k cause before after).control = c.control := Part.appendEvent_control ..

theorem Calm.appendEvent (h : Calm f a c) (kind : EventKind) (k : Option Contactor) (cause : Cause)
    (before after : ConnState) (current linkVoltage : Option Int) :
    Calm f a (c.appendEvent kind k cause before after current linkVoltage) :=
  h.trans (.of_control (Part.appendEvent_control ..) fun laws => Part.appendEvent_bounds _ _ _ _ _ _ _ laws)

theorem Calm.logEvent (h : Calm f a c) (kind : EventKind) (k : Option Contactor) (cause : Cause)
    (before after : ConnState) : Calm f a (c.logEvent kind k cause before after) := h.appendEvent ..

theorem Calm.driveFaultOut (h : Calm f a c) : Calm f a c.driveFaultOut :=
  h.trans ⟨id, id, id, id, id, id, id, fun _ => le_rfl, id, fun _ => id, fun _ => rfl⟩

/-- With the service record read, the laws of the floors do not speak of the connection state or the tables. -/
theorem FloorLaws.of_read {c d : Part} (laws : FloorLaws c) (read : c.store.recordRead = true)
    (read' : d.store.recordRead = true) (record : d.store.record = c.store.record)
    (floor : d.store.copy.floor = c.store.copy.floor)
    (write : ∀ f done, d.store.write.current = some (f, done) →
      f.floor = c.store.copy.floor ∨ ∃ done, c.store.write.current = some (f, done))
    (staged : d.store.staged = c.store.staged) (state : d.store.state = c.store.state)
    (update : d.store.update = c.store.update) (version : d.store.versionInUse = c.store.versionInUse)
    (switch : d.store.switch = c.store.switch) (programming : d.mgmt.programming = c.mgmt.programming) : FloorLaws d where
  copied _ := by simpa only [Store.recordAsRead, record, floor] using laws.copied read
  written _ f done writing := by
    simp only [Store.recordAsRead, record, floor]
    obtain same | ⟨done, old⟩ := write f done writing
    · exact ⟨same ▸ laws.copied read, same.le⟩
    · exact laws.written read f done old
  staged _ := by simpa only [staged, floor] using laws.staged read
  unread unread := by simp [read'] at unread
  configured := by simpa only [state, update, version, floor] using laws.configured
  unconfigured := by simpa only [state, version] using laws.unconfigured
  switching := by simpa only [switch, update] using laws.switching
  programming := by simpa only [programming, update] using laws.programming

/-- What is written after a write is asked for: the record copy, or what was being written. -/
theorem Part.requestWrite_current {r : ServiceRecord} {done : Time}
    (h : c.requestWrite.store.write.current = some (r, done)) :
    r = c.store.copy ∨ ∃ done, c.store.write.current = some (r, done) := by
  unfold Part.requestWrite at h
  cases write : c.store.write with
  | idle => simp_all [RecordWrite.current]
  | inProgress f d => exact .inr ⟨done, by simpa [write, RecordWrite.current] using h⟩
  | inProgressWaiting f d => exact .inr ⟨done, by simpa [write, RecordWrite.current] using h⟩

theorem FloorLaws.requestWrite (laws : FloorLaws c) (read : c.store.recordRead = true) : FloorLaws c.requestWrite := by
  refine laws.of_read read (by simpa) (by simp) (by simp) (fun r done writing => ?_) (by simp) (by simp) (by simp)
    (by simp) (by simp) (by simp)
  exact (Part.requestWrite_current writing).imp_left (congrArg _)

theorem Calm.requestWrite (h : Calm f a c) (read : a.floorLaws = true → c.store.recordRead = true) :
    Calm f a c.requestWrite where
  contactors laws := by
    have := h.contactors laws
    simpa [Part.contactorLaws_iff, Part.drivesFit] using this
  atRest rest := by simpa using h.atRest rest
  lockedOut locked := by simpa using h.lockedOut locked
  mainOpen main := by simpa [Part.mainOpen] using h.mainOpen main
  active active := by simpa using h.active active
  latched latched := by simpa [Part.latched] using h.latched latched
  floors laws := by
    rw [Part.floorLaws_iff]
    exact ((Part.floorLaws_iff c).mp (h.floors laws)).requestWrite (read laws)
  record laws := by simpa [Store.recordAsRead] using h.record laws
  bounds laws := Part.boundLaws_of_load (by unfold Part.requestWrite; split <;> rfl) (h.bounds laws)
  formed now laws := by
    have laws := h.formed now laws
    have same : c.requestWrite.effectiveAction = c.effectiveAction := by apply Part.effectiveAction_congr <;> simp
    simpa [Part.formed, same] using laws
  levelled laws := by simpa [Part.levelled, Part.faultLevel] using h.levelled laws

/-! ### Drives -/

theorem Part.withContactor_control_pos (x : ContactorState) : (c.withContactor .kPos x).control =
    { c.control with drives := (x.drive, c.seq.kNeg.drive, c.seq.kPre.drive) } := rfl

theorem Part.drive_control (k : Contactor) (v : Bool) (c : Part) : (c.drive k v).control =
    { c.control with drives := match k with
      | .kPos => (v, c.seq.kNeg.drive, c.seq.kPre.drive)
      | .kNeg => (c.seq.kPos.drive, v, c.seq.kPre.drive)
      | .kPre => (c.seq.kPos.drive, c.seq.kNeg.drive, v) } := by
  unfold Part.drive
  split
  next same =>
    subst same
    cases k <;> rfl
  next => cases k <;> rfl

theorem Part.drive_load (k : Contactor) (v : Bool) (c : Part) : (c.drive k v).load = c.load := by
  unfold Part.drive
  split
  · rfl
  · cases k <;> rfl

theorem Part.openDrives_control (c : Part) : c.openDrives.control = { c.control with drives := (false, false, false) } := by
  simp only [Part.openDrives, Part.drive_control]
  have pre := congrArg ControlView.drives (Part.drive_control .kPre false (c.drive .kPos false))
  have pos := congrArg ControlView.drives (Part.drive_control .kPos false c)
  simp only [Part.control, Prod.mk.injEq] at pre pos
  simp only [pre, pos]

theorem Part.openDrives_load (c : Part) : c.openDrives.load = c.load := by simp only [Part.openDrives, Part.drive_load]

/-- A move of the sequencer that leaves neither OPEN nor LOCKED_OUT, and does not lead to LOCKED_OUT. -/
theorem Calm.move {c d : Part} {k : ConnState} {v : Bool × Bool × Bool} (moving : c.seq.conn.atRest = false)
    (unlocked : k ≠ .lockedOut) (shape : d.control = { c.control with conn := k, drives := v })
    (fits : c.drivesFit = true → d.drivesFit = true) (main : c.mainOpen → v.1 = false ∧ k ≠ .precharging)
    (bounds : c.boundLaws = true → d.boundLaws = true) : Calm f c d := by
  have opened : c.seq.conn ≠ .opened := by rintro h; simp [h, ConnState.atRest] at moving
  have locked : c.seq.conn ≠ .lockedOut := by rintro h; simp [h, ConnState.atRest] at moving
  simp only [Part.control, ControlView.mk.injEq] at shape
  obtain ⟨rfl, rfl, power, tripped, latches, events, effective, faultOut, record, copy, read, state, tables, write, update,
    staged, switch, version, programming⟩ := shape
  refine ⟨fun laws => ?_, by simp [moving], (absurd · locked), main, by simp [power], by simp [Part.latched, read, copy],
    fun laws => ?_, Part.floor_le_of_record record, bounds, fun _ laws => ?_, fun laws => ?_⟩
  · rw [Part.contactorLaws_iff] at laws ⊢
    simp only [moving, power, update] at laws ⊢
    exact ⟨fits laws.1, .inl (by simpa using laws.2.1), .inl (by simpa using laws.2.2)⟩
  · rw [Part.floorLaws_iff] at laws ⊢
    have isRead : c.store.recordRead = true := Bool.not_eq_false _ ▸ fun unread => opened (laws.unread unread).2.1
    exact laws.of_read isRead (read ▸ isRead) record (by rw [copy]) (fun f done h => .inr ⟨done, write ▸ h⟩) staged state
      update version switch programming
  · rw [Part.formed, Part.effectiveAction_congr tripped latches events (by rw [power]) tables]
    exact effective.trans laws
  · simpa [Part.levelled, Part.faultLevel, effective, faultOut, locked, unlocked] using laws

/-! ### The moves of the sequencer -/

/-- The drives that a connection state allows, read off the view. -/
def ControlView.fit (x : ControlView) : Bool :=
  match x.conn with
  | .opened | .lockedOut => !x.drives.2.1 && !x.drives.2.2 && !x.drives.1
  | .negClosing => x.drives.2.1 && !x.drives.1
  | .precharging => x.drives.2.1 && x.drives.2.2 && !x.drives.1
  | .mainClosing => x.drives.2.1 && x.drives.1
  | .closed | .softOpening => x.drives.2.1 && !x.drives.2.2 && x.drives.1
  | .opening => !x.drives.2.2 && !x.drives.1

theorem Part.drivesFit_eq (c : Part) : c.drivesFit = c.control.fit := rfl

theorem Part.requestWrite_control (c : Part) :
    c.requestWrite.control = { c.control with write := c.requestWrite.store.write } := by
  unfold Part.requestWrite
  split <;> rfl

theorem Part.requestWrite_load (c : Part) : c.requestWrite.load = c.load := by
  unfold Part.requestWrite
  split <;> rfl

/-- What LOCKED_OUT is entered with: the drives open, FAULT_OUT asserted, the lockout flag set, and a write of it begun
or waiting. -/
theorem Part.enterLockedOut_control (before : ConnState) (c : Part) : ∃ w, (c.enterLockedOut before).control =
    { c.control with conn := .lockedOut, drives := (false, false, false), faultOut := true,
                     copy := { c.store.copy with lockout := true }, write := w } ∧
    ∀ r done, w.current = some (r, done) →
      r = { c.store.copy with lockout := true } ∨ ∃ done, c.store.write.current = some (r, done) := by
  let c2 : Part := { c.openDrives with seq.conn := .lockedOut, seq.pendingLockout := none }
  let c3 : Part := c2.logEvent .lockoutEnter none (.cls (c.seq.pendingLockout.getD .contactorFault)) before .lockedOut
  let c4 : Part := { c3 with store.copy.lockout := true }
  have control2 : c2.control = { c.control with conn := .lockedOut, drives := (false, false, false) } := by
    calc c2.control = { c.openDrives.control with conn := .lockedOut } := rfl
      _ = _ := by rw [Part.openDrives_control]
  have control3 : c3.control = c2.control := Part.logEvent_control ..
  have copy3 : c3.store.copy = c.store.copy := congrArg ControlView.copy (control3.trans control2)
  have control4 : c4.control = { c.control with
      conn := .lockedOut, drives := (false, false, false), copy := { c.store.copy with lockout := true } } := by
    calc c4.control = { c3.control with copy := { c3.store.copy with lockout := true } } := rfl
      _ = _ := by rw [control3, control2, copy3]
  have level : c4.requestWrite.faultLevel = true := by
    have conn : c4.seq.conn = .lockedOut := congrArg ControlView.conn control4
    simp [Part.faultLevel, conn]
  refine ⟨c4.requestWrite.store.write, ?_, fun r done writing => ?_⟩
  · calc (c.enterLockedOut before).control = { c4.requestWrite.control with faultOut := c4.requestWrite.faultLevel } := rfl
      _ = _ := by rw [Part.requestWrite_control, control4, level]
  · have copy4 : c4.store.copy = { c.store.copy with lockout := true } := congrArg ControlView.copy control4
    have write4 : c4.store.write = c.store.write := congrArg ControlView.write control4
    rw [← copy4, ← write4]
    exact Part.requestWrite_current writing

theorem Part.enterLockedOut_bounds (before : ConnState) (laws : c.boundLaws = true) :
    (c.enterLockedOut before).boundLaws = true := by
  let c2 : Part := { c.openDrives with seq.conn := .lockedOut, seq.pendingLockout := none }
  let c3 : Part := c2.logEvent .lockoutEnter none (.cls (c.seq.pendingLockout.getD .contactorFault)) before .lockedOut
  let c4 : Part := { c3 with store.copy.lockout := true }
  have bounds2 : c2.boundLaws = true :=
    Part.boundLaws_of_load (c := c.openDrives) rfl (Part.boundLaws_of_load c.openDrives_load laws)
  have bounds3 : c3.boundLaws = true := Part.appendEvent_bounds _ _ _ _ _ _ _ bounds2
  have bounds4 : c4.boundLaws = true := Part.boundLaws_of_load (c := c3) rfl bounds3
  exact Part.boundLaws_of_load (c := c4.requestWrite) rfl (Part.boundLaws_of_load c4.requestWrite_load bounds4)

/-- LOCKED_OUT is entered from a part that differs from `c` in its connection state and drives alone. -/
theorem Calm.enterLockedOut {c d : Part} {k : ConnState} {v : Bool × Bool × Bool} (before : ConnState)
    (shape : d.control = { c.control with conn := k, drives := v })
    (read : c.floorLaws = true → c.store.recordRead = true) (bounds : c.boundLaws = true → d.boundLaws = true) :
    Calm f c (d.enterLockedOut before) := by
  obtain ⟨w, control, current⟩ := d.enterLockedOut_control before
  have copy : d.store.copy = c.store.copy := congrArg ControlView.copy shape
  have write : d.store.write = c.store.write := congrArg ControlView.write shape
  rw [shape, copy] at control
  rw [copy, write] at current
  generalize locked : d.enterLockedOut before = e at control
  have bounds : c.boundLaws = true → e.boundLaws = true := fun laws => locked ▸ Part.enterLockedOut_bounds _ (bounds laws)
  clear locked shape copy write
  simp only [Part.control, ControlView.mk.injEq, Prod.mk.injEq] at control
  obtain ⟨conn, ⟨pos, neg, pre⟩, power, tripped, latches, events, effective, faultOut, record, copy, isRead, state, tables,
    rfl, update, staged, switch, version, programming⟩ := control
  refine ⟨fun _ => ?_, fun _ => ?_, fun _ => conn, fun _ => ?_, by simp [power], by simp [Part.latched, isRead, copy],
    fun laws => ?_, Part.floor_le_of_record record, bounds, fun _ laws => ?_, fun laws => ?_⟩
  · simp [Part.contactorLaws_iff, Part.drivesFit, conn, pos, neg, pre, ConnState.atRest]
  · simp [conn, ConnState.atRest]
  · simp [Part.mainOpen, pos, conn]
  · have read := read laws
    rw [Part.floorLaws_iff] at laws ⊢
    refine laws.of_read read (isRead ▸ read) record (by rw [copy]) (fun r done h => ?_) staged state update version switch
      programming
    exact (current r done h).imp_left fun same => by rw [same]
  · rw [Part.formed, Part.effectiveAction_congr tripped latches events (by rw [power]) tables]
    exact effective.trans laws
  · simp [Part.levelled, Part.faultLevel, faultOut, conn]

/-- Outside OPEN the service record has been read. -/
theorem Part.read_of_floorLaws (conn : c.seq.conn ≠ .opened) (laws : c.floorLaws = true) : c.store.recordRead = true := by
  rw [Part.floorLaws_iff] at laws
  exact Bool.not_eq_false _ ▸ fun unread => conn (laws.unread unread).2.1

theorem ConnState.atRest_eq_false_iff (k : ConnState) : k.atRest = false ↔ k ≠ .opened ∧ k ≠ .lockedOut := by
  cases k <;> simp [ConnState.atRest]

theorem Part.endOpening_calm (moving : c.seq.conn = .opening) : Calm f c c.endOpening := by
  have rest : c.seq.conn.atRest = false := by rw [moving]; rfl
  let after : ConnState := if c.seq.pendingLockout.isSome then .lockedOut else .opened
  let cause := c.seq.openingCause.getD .request
  let c2 : Part := { c.openDrives with seq.conn := after, seq.tSo := none }
  let c3 : Part :=
    match c.seq.underLoad with
    | some u => c2.appendEvent .openedUnderLoad none cause .opening after (some u.1) (some u.2)
    | none => c2.logEvent .openDone none cause .opening after
  let c4 : Part := { c3 with seq.underLoad := none, seq.openingCause := none }
  have shape : c4.control = { c.control with conn := after, drives := (false, false, false) } := by
    have control3 : c3.control = c2.control := by
      simp only [c3]
      split
      · exact Part.appendEvent_control ..
      · exact Part.logEvent_control ..
    calc c4.control = c3.control := rfl
      _ = { c.openDrives.control with conn := after } := control3
      _ = _ := by rw [Part.openDrives_control]
  have bounds (laws : c.boundLaws = true) : c4.boundLaws = true := by
    have bounds2 : c2.boundLaws = true :=
      Part.boundLaws_of_load (c := c.openDrives) rfl (Part.boundLaws_of_load c.openDrives_load laws)
    have bounds3 : c3.boundLaws = true := by
      simp only [c3]
      split
      · exact Part.appendEvent_bounds _ _ _ _ _ _ _ bounds2
      · exact Part.appendEvent_bounds _ _ _ _ _ _ _ bounds2
    exact Part.boundLaws_of_load (c := c3) rfl bounds3
  have read : c.floorLaws = true → c.store.recordRead = true := Part.read_of_floorLaws (by simp [moving])
  have ends : c.endOpening = if c.seq.pendingLockout.isSome then c4.enterLockedOut .opening else c4 := rfl
  rw [ends]
  split
  next => exact Calm.enterLockedOut .opening shape read bounds
  next pending =>
    have after_eq : after = .opened := if_neg pending
    rw [after_eq] at shape
    refine Calm.move rest (by simp) shape (fun _ => ?_) (fun _ => by simp) bounds
    rw [Part.drivesFit_eq, shape]
    rfl

/-- DRV_NEG opens in OPENING (R116). -/
theorem Part.negOpens_calm (opening : c.seq.conn = .opening) : Calm f c (c.drive .kNeg false) := by
  refine Calm.move (k := c.seq.conn) (by rw [opening]; rfl) (by simp [opening]) (Part.drive_control ..) ?_ ?_
    (Part.boundLaws_of_load (Part.drive_load ..))
  · simp only [Part.drivesFit_eq, Part.drive_control]
    simp [ControlView.fit, Part.control, opening]
  · simp [Part.mainOpen, opening]

theorem Part.advanceOpening_calm (c : Part) : Calm f c c.advanceOpening := by
  unfold Part.advanceOpening
  have goes : Calm f c (if c.seq.conn = .opening ∧ c.feedback .kPos = false then c.drive .kNeg false else c) := by
    split
    next h => exact Part.negOpens_calm h.1
    next => exact .refl f c
  revert goes
  generalize (if c.seq.conn = .opening ∧ c.feedback .kPos = false then c.drive .kNeg false else c) = c1
  intro goes
  dsimp only
  split
  next ends => exact goes.trans (Part.endOpening_calm ends.1)
  next => exact goes

theorem Part.enterOpening_control (cause : Cause) (c : Part) : (c.enterOpening cause).control =
    { c.control with conn := .opening, drives := (false, c.seq.kNeg.drive, false) } := by
  have pre := Part.drive_control .kPre false (c.drive .kPos false)
  have pos := Part.drive_control .kPos false c
  have kPos : (c.drive .kPos false).seq.kPos.drive = false := congrArg (·.drives.1) pos
  have kNeg : (c.drive .kPos false).seq.kNeg.drive = c.seq.kNeg.drive := congrArg (·.drives.2.1) pos
  calc (c.enterOpening cause).control = { ((c.drive .kPos false).drive .kPre false).control with conn := .opening } := rfl
    _ = _ := by simp only [pre, pos, kPos, kNeg]

theorem Part.enterOpening_load (cause : Cause) (c : Part) : (c.enterOpening cause).load = c.load :=
  ((Part.drive_load ..).trans (Part.drive_load ..) : ((c.drive .kPos false).drive .kPre false).load = c.load)

theorem Part.enterOpening_calm (cause : Cause) (moving : c.seq.conn.atRest = false) : Calm f c (c.enterOpening cause) := by
  refine Calm.move moving (by simp) (c.enterOpening_control cause) (fun _ => ?_) (by simp)
    (Part.boundLaws_of_load (c.enterOpening_load cause))
  rw [Part.drivesFit_eq, c.enterOpening_control]
  rfl

theorem Part.startOpening_calm (cause : Cause) (moving : c.seq.conn.atRest = false) : Calm f c (c.startOpening cause) :=
  (Part.enterOpening_calm cause moving).trans (Part.advanceOpening_calm _)

theorem Part.enterSoftOpening_calm (cause : Cause) (closed : c.seq.conn = .closed) :
    Calm f c (c.enterSoftOpening cause) := by
  refine Calm.move (k := .softOpening) (v := c.control.drives) (by rw [closed]; rfl) (by simp) rfl ?_ ?_
    (Part.boundLaws_of_load rfl)
  · simp [Part.drivesFit, closed, Part.enterSoftOpening]
  · simp +contextual [Part.mainOpen, Part.control]

theorem Part.enterClosed_calm (main : c.seq.conn = .mainClosing) (pre : c.seq.kPre.drive = false) :
    Calm f c c.enterClosed := by
  have shape : c.enterClosed.control = { c.control with conn := .closed } := Part.logEvent_control ..
  refine Calm.move (k := .closed) (v := c.control.drives) (by rw [main]; rfl) (by simp) shape ?_ ?_ fun laws =>
    Part.appendEvent_bounds _ _ _ _ _ _ _ (Part.boundLaws_of_load rfl laws)
  · rw [Part.drivesFit_eq, Part.drivesFit_eq, shape]
    simp [ControlView.fit, Part.control, main, pre]
  · simp +contextual [Part.mainOpen, Part.control]

theorem Part.advanceMain_calm (c : Part) : Calm f c c.advanceMain := by
  have preOpens (main : c.seq.conn = .mainClosing) : Calm f c (c.drive .kPre false) := by
    refine Calm.move (k := c.seq.conn) (by rw [main]; rfl) (by simp [main]) (Part.drive_control ..) ?_ ?_
      (Part.boundLaws_of_load (Part.drive_load ..))
    · simp only [Part.drivesFit_eq, Part.drive_control]
      simp [ControlView.fit, Part.control, main]
    · simp [Part.mainOpen, main]
  unfold Part.advanceMain
  have goes : Calm f c (if c.seq.conn = .mainClosing ∧ c.settled .kPos then c.drive .kPre false else c) := by
    split
    next h => exact preOpens h.1
    next => exact .refl f c
  revert goes
  generalize (if c.seq.conn = .mainClosing ∧ c.settled .kPos then c.drive .kPre false else c) = c1
  intro goes
  dsimp only
  split
  next closes => exact goes.trans (Part.enterClosed_calm closes.1 closes.2.2.1)
  next => exact goes

theorem Part.enterMain_calm (precharging : c.seq.conn = .precharging) : Calm f c c.enterMain := by
  refine Calm.trans ?_ (Part.advanceMain_calm _)
  let c1 : Part := { c with seq.conn := .mainClosing, seq.prechargeEnd := none }
  have shape : (c1.drive .kPos true).control =
      { c.control with conn := .mainClosing, drives := (true, c.seq.kNeg.drive, c.seq.kPre.drive) } :=
    Part.drive_control .kPos true c1
  refine Calm.move (by rw [precharging]; rfl) (by simp) shape ?_ (by simp [Part.mainOpen, precharging])
    fun laws => Part.boundLaws_of_load (Part.drive_load ..) (Part.boundLaws_of_load (c := c) rfl laws)
  rw [Part.drivesFit_eq, Part.drivesFit_eq, shape]
  simp +contextual [ControlView.fit, Part.control, precharging]

theorem Part.abortToOpen_control (cause : Cause) (c : Part) : (c.abortToOpen cause).control =
    { c.control with conn := .opened, drives := (false, false, false) } := by
  let c2 : Part := { c.openDrives with seq.conn := .opened, seq.prechargeEnd := none, seq.tPc := none }
  calc (c.abortToOpen cause).control = c2.control := Part.logEvent_control ..
    _ = { c.openDrives.control with conn := .opened } := rfl
    _ = _ := by rw [Part.openDrives_control]

theorem Part.abortToOpen_bounds (cause : Cause) (laws : c.boundLaws = true) : (c.abortToOpen cause).boundLaws = true :=
  Part.appendEvent_bounds _ _ _ _ _ _ _
    (Part.boundLaws_of_load (c := c.openDrives) rfl (Part.boundLaws_of_load c.openDrives_load laws))

theorem Part.abortToOpen_calm (cause : Cause) (moving : c.seq.conn.atRest = false) : Calm f c (c.abortToOpen cause) := by
  refine Calm.move moving (by simp) (c.abortToOpen_control cause) (fun _ => ?_) (by simp) (Part.abortToOpen_bounds cause)
  rw [Part.drivesFit_eq, c.abortToOpen_control]
  rfl

theorem Calm.setPending (h : Calm f a c) (k : FaultClass) : Calm f a (c.setPending k) := h.quiet rfl rfl

/-- The sequencer's answer to an action. Only LOCKOUT leads out of OPEN, and only with the record read. -/
theorem Part.takeAction_calm (x : Action)
    (read : Action.blockClose.code ≤ x.code → c.floorLaws = true → c.store.recordRead = true) :
    Calm f c (c.takeAction x) := by
  unfold Part.takeAction
  dsimp only
  split
  · exact .refl f c
  next calls =>
    have read := read (not_lt.mp calls)
    generalize (c.dueClass x).getD .contactorFault = due
    generalize pending : (if x = .lockout ∧ c.seq.conn ≠ .lockedOut then { c with seq.pendingLockout := some due } else c : Part) = c1
    have control : c1.control = c.control := by subst pending; split <;> rfl
    have load : c1.load = c.load := by subst pending; split <;> rfl
    have conn : c1.seq.conn = c.seq.conn := congrArg ControlView.conn control
    have kept : Calm f c c1 := (Calm.refl f c).quiet control load
    have opens (moving : c.seq.conn.atRest = false) : Calm f c (c1.startOpening (.cls due)) :=
      kept.trans (Part.startOpening_calm _ (conn ▸ moving))
    have aborts (moving : c.seq.conn.atRest = false) :
        Calm f c (if x = .lockout then (c1.abortToOpen (.cls due)).enterLockedOut .opened else c1.abortToOpen (.cls due)) := by
      split
      · refine Calm.enterLockedOut .opened (k := .opened) (v := (false, false, false)) ?_ read
          fun laws => Part.abortToOpen_bounds _ (Part.boundLaws_of_load load laws)
        rw [Part.abortToOpen_control, control]
      · exact kept.trans (Part.abortToOpen_calm _ (conn ▸ moving))
    cases state : c.seq.conn
    case opened =>
      dsimp only
      split
      · exact Calm.enterLockedOut .opened (k := c.seq.conn) (v := c.control.drives) control read (Part.boundLaws_of_load load)
      · exact kept
    case negClosing => exact aborts (by rw [state]; rfl)
    case precharging => exact aborts (by rw [state]; rfl)
    case mainClosing => exact opens (by rw [state]; rfl)
    case closed =>
      cases x
      case openSoft => exact kept.trans (Part.enterSoftOpening_calm _ (conn.trans state))
      case openNow => exact opens (by rw [state]; rfl)
      case lockout => exact opens (by rw [state]; rfl)
      all_goals exact kept
    case softOpening =>
      cases x
      case openNow => exact opens (by rw [state]; rfl)
      case lockout => exact opens (by rw [state]; rfl)
      all_goals exact kept
    case opening => exact kept
    case lockedOut => exact kept

theorem Calm.softDisconnect (h : Calm f a c) : Calm f a c.softDisconnect := by
  refine h.trans ?_
  unfold Part.softDisconnect
  split
  next conn => exact Part.abortToOpen_calm _ (by rw [conn]; rfl)
  next conn => exact Part.abortToOpen_calm _ (by rw [conn]; rfl)
  next conn => exact Part.startOpening_calm _ (by rw [conn]; rfl)
  next conn => exact Part.enterSoftOpening_calm _ conn
  all_goals exact .refl f c

theorem Calm.hardDisconnect (h : Calm f a c) : Calm f a c.hardDisconnect := by
  refine h.trans ?_
  unfold Part.hardDisconnect
  split
  next conn => exact Part.abortToOpen_calm _ (by rw [conn]; rfl)
  next conn => exact Part.abortToOpen_calm _ (by rw [conn]; rfl)
  next conn => exact Part.startOpening_calm _ (by rw [conn]; rfl)
  next conn => exact Part.startOpening_calm _ (by rw [conn]; rfl)
  next conn => exact Part.startOpening_calm _ (by rw [conn]; rfl)
  all_goals exact .refl f c

/-! ### Runs, aborted sweeps and the returns to ACTIVE -/

theorem Calm.syncDue (h : Calm f a c) (t : Time) : Calm f a (c.syncDue t) := by
  unfold Part.syncDue
  split
  · exact h.quiet rfl rfl
  · exact h

theorem Calm.supercycle (h : Calm f a c) (t : Time) : Calm f a (c.supercycle t) := by
  unfold Part.supercycle
  split
  · exact h.quiet rfl rfl
  · exact h.syncDue t

theorem Calm.beginRun (h : Calm f a c) (r : Run) : Calm f a (c.beginRun r) :=
  (h.quiet (d := { c with sched.run := some { r with begun := true, cycle := 0, cycleStart := c.now, launched := [] } })
    rfl rfl).supercycle c.now

theorem Calm.startRun (h : Calm f a c) (kind : RunKind) (hold : Bool) : Calm f a (c.startRun kind hold) := by
  unfold Part.startRun
  dsimp only
  split
  · refine Calm.beginRun ?_ _
    exact h.quiet rfl rfl
  · exact h.quiet rfl rfl

theorem Calm.startNormalRun (h : Calm f a c) (hold : Bool) : Calm f a (c.startNormalRun hold) := by
  unfold Part.startNormalRun
  split
  · exact h.startRun .normal hold
  · exact h

theorem Calm.settleRun (h : Calm f a c) : Calm f a c.settleRun := by
  unfold Part.settleRun
  split
  · exact h
  · split
    · exact h.beginRun _
    · exact h

theorem Calm.endRun (h : Calm f a c) : Calm f a c.endRun := h.quiet rfl rfl

theorem Calm.endNormalRun (h : Calm f a c) : Calm f a c.endNormalRun := by
  unfold Part.endNormalRun
  split
  · exact h
  · split
    · exact h.endRun
    · exact h

theorem Calm.releaseHold (h : Calm f a c) : Calm f a c.releaseHold := by
  have cleared : Calm f a { c with sched.hold := false, sched.holdInEffect := false } := h.quiet rfl rfl
  unfold Part.releaseHold
  dsimp only
  split
  · exact cleared.startNormalRun false
  · exact cleared

/-- Fewer sweeps stay open. -/
theorem Calm.dropSweeps (h : Calm f a c) {d : Part} (control : d.control = c.control)
    (same : d.load = { c.load with sweeps := d.sched.sweeps.length })
    (fewer : d.sched.sweeps.length ≤ c.sched.sweeps.length) : Calm f a d := by
  refine h.trans (.of_control control fun laws => ?_)
  rw [Part.boundLaws_iff] at laws ⊢
  have sweeps := laws.sweeps
  simp only [Part.load, LoadView.mk.injEq] at same
  obtain ⟨places, load, refusals, southQueue, sequences, -, queue, events, records, keys, counters, overwritten,
    slotMiss⟩ := laws
  constructor <;> first | omega | simpa only [Router.trackedLoad, Router.refusals, same]

theorem Calm.abortSweeps (h : Calm f a c) (p : Sweep → Bool) : Calm f a (c.abortSweeps p) :=
  Calm.settleRun (h.dropSweeps rfl rfl (List.length_filter_le ..))

theorem Calm.dropSampling (h : Calm f a c) : Calm f a c.dropSampling :=
  Calm.settleRun ((h.abortSweeps _).quiet rfl rfl)

theorem Calm.enterWaking (h : Calm f a c) : Calm f a c.enterWaking := Calm.dropSampling (h.quiet rfl rfl)

theorem Calm.restartSupervision (h : Calm f a c) : Calm f a c.restartSupervision := h.quiet rfl rfl

theorem Calm.addCause (h : Calm f a c) (w : WakeCause) : Calm f a (c.addCause w) := h.quiet rfl rfl

theorem Calm.powerReport (h : Calm f a c) (left : PowerState) (escalated : Bool) :
    Calm f a (c.powerReport left escalated) := (h.offerReport .priority _).quiet rfl rfl

/-- A return to ACTIVE, from DEEP with the effective action still to be formed (LINK_DOWN counts again, R89). -/
theorem Calm.wake (h : Calm f a c) {d : Part} (shape : d.control = { c.control with power := .active })
    (load : d.load = c.load) (awake : f = .now → c.power.state ≠ .deep) : Calm f a d := by
  refine h.trans ?_
  have bounds := Part.boundLaws_of_load load
  have fit : d.drivesFit = c.drivesFit := by rw [Part.drivesFit_eq, shape, Part.drivesFit_eq]; rfl
  simp only [Part.control, ControlView.mk.injEq, Prod.mk.injEq] at shape
  obtain ⟨conn, ⟨pos, neg, pre⟩, power, tripped, latches, events, effective, faultOut, record, copy, isRead, state, tables,
    write, update, staged, switch, version, programming⟩ := shape
  refine ⟨fun laws => ?_, by simp [conn], by simp [conn], by simp [Part.mainOpen, conn, pos], fun _ => power,
    by simp [Part.latched, isRead, copy], fun laws => ?_, Part.floor_le_of_record record, bounds, fun now laws => ?_,
    by simp [Part.levelled, Part.faultLevel, effective, faultOut, conn]⟩
  · simp only [Part.contactorLaws_iff, fit, power, update, conn] at laws ⊢
    exact ⟨laws.1, .inl trivial, laws.2.2⟩
  · rw [Part.floorLaws_iff] at laws ⊢
    obtain ⟨copied, written, staged', unread, configured, unconfigured, switching, programming'⟩ := laws
    constructor <;>
      simpa only [Store.recordAsRead, conn, record, copy, isRead, state, tables, write, update, staged, switch, version,
        programming]
  · rw [Part.formed, Part.effectiveAction_congr tripped latches events (by simp [power, awake now]) tables]
    exact effective.trans laws

theorem Calm.abandonEntry (h : Calm f a c) (w : WakeCause) (entry : c.power.state = .sleepEntry) :
    Calm f a (c.abandonEntry w) := by
  have awake : Calm f a { c.addCause w with
      power.state := .active, power.step := .none, power.sleepSent := false, south.sleepDue := none } :=
    (h.addCause w).wake rfl rfl fun _ => by simp [Part.addCause, entry]
  exact awake.restartSupervision.enterWaking.powerReport _ _

theorem Calm.escalate (h : Calm f a c) (w : WakeCause) (cls : Option FaultClass) (patrol : c.power.state = .patrol) :
    Calm f a (c.escalate w cls) := by
  let c2 : Part := { c.addCause w with power.escalating := cls, sched.run := none }
  let c3 := c2.abortSweeps (fun s => decide (s.runKind = .patrol))
  have aborted : Calm f a c3 := ((h.addCause w).quiet (d := c2) rfl rfl).abortSweeps _
  have awake : Calm f a { c3 with power.state := .active, power.step := .none, power.sleepSent := false } :=
    aborted.wake rfl rfl fun _ => by simp [c3, c2, Part.addCause, patrol]
  unfold Part.escalate
  dsimp only
  split
  · exact (awake.restartSupervision.enterWaking.powerReport _ _).startNormalRun _
  · refine Calm.startNormalRun (Calm.powerReport ?_ _ _) _
    exact awake.restartSupervision.quiet rfl rfl

/-! ### The interlock unit -/

theorem Calm.later (h : Calm f a c) : Calm .later a c := { h with formed := nofun }

theorem Part.enterLockedOut_effective (before : ConnState) (c : Part) :
    (c.enterLockedOut before).interlock.effective = c.interlock.effective := by
  obtain ⟨w, control, -⟩ := c.enterLockedOut_control before
  exact congrArg ControlView.effective control

theorem Part.endOpening_effective (c : Part) : c.endOpening.interlock.effective = c.interlock.effective := by
  unfold Part.endOpening
  dsimp only
  (repeat' split) <;> simp [Part.enterLockedOut_effective]

theorem Part.advanceOpening_effective (c : Part) : c.advanceOpening.interlock.effective = c.interlock.effective := by
  unfold Part.advanceOpening
  dsimp only
  (repeat' split) <;> simp [Part.endOpening_effective]

theorem Part.startOpening_effective (cause : Cause) (c : Part) :
    (c.startOpening cause).interlock.effective = c.interlock.effective := by
  simp [Part.startOpening, Part.advanceOpening_effective]

/-- The sequencer's answer leaves the action that it answers. -/
theorem Part.takeAction_effective (x : Action) (c : Part) : (c.takeAction x).interlock.effective = c.interlock.effective := by
  unfold Part.takeAction
  dsimp only
  (repeat' split) <;> simp [Part.startOpening_effective, Part.enterLockedOut_effective]

/-- Without an interlock table no class calls for more than REPORT (R96). -/
theorem Part.interlock_of_blockClose_le (h : Action.blockClose.code ≤ c.effectiveAction.code) :
    c.store.tables.interlock ≠ none := by
  intro none
  unfold Part.effectiveAction at h
  rw [none] at h
  dsimp only at h
  split at h <;> simp [Action.code] at h

/-- The effective action, formed, is the one that the classes ask for. -/
theorem Part.refreshAction_formed (c : Part) : c.refreshAction.formed := by
  unfold Part.formed
  have action : c.refreshAction.effectiveAction = c.effectiveAction := by apply Part.effectiveAction_congr <;> simp
  rw [action]
  unfold Part.refreshAction
  dsimp only
  split
  next same => exact same.symm
  next => exact Part.takeAction_effective ..

theorem Part.refreshAction_levelled (c : Part) : c.refreshAction.levelled := by
  unfold Part.refreshAction
  dsimp only
  split <;> rfl

theorem Calm.refreshAction (h : Calm .later a c) : Calm f a c.refreshAction := by
  suffices later : Calm .later c c.refreshAction from { h.trans later with formed := fun _ _ => c.refreshAction_formed }
  unfold Part.refreshAction
  dsimp only
  split
  · exact (Calm.refl _ c).driveFaultOut
  next =>
    have answer : Calm .later { c with interlock.effective := c.effectiveAction } _ :=
      Calm.driveFaultOut (Part.takeAction_calm c.effectiveAction fun calls laws => by
        rw [Part.floorLaws_iff] at laws
        exact Bool.not_eq_false _ ▸ fun unread => Part.interlock_of_blockClose_le calls (laws.unread unread).2.2.1)
    exact { answer with formed := nofun, levelled := fun _ => rfl }

theorem Calm.formAction (h : Calm .later a c) : Calm f a (c.formAction f) := by
  cases f with
  | now => exact h.refreshAction
  | later => exact h

theorem Calm.notice (h : Calm f a c) (k : FaultClass) : Calm f a (c.notice k) := by
  unfold Part.notice
  split
  next patrol => exact h.escalate _ _ patrol.1
  · exact h

/-- A change of the class activity, before the effective action is formed. -/
theorem Calm.activity (h : Calm f a c) {d : Part} {tripped : List FaultObject} {latches events : ClassSet}
    (shape : d.control = { c.control with tripped := tripped, latches := latches, eventClasses := events })
    (load : d.load = c.load) : Calm .later a d := by
  refine h.later.trans ?_
  have bounds := Part.boundLaws_of_load load
  have fit : d.drivesFit = c.drivesFit := by rw [Part.drivesFit_eq, shape, Part.drivesFit_eq]; rfl
  simp only [Part.control, ControlView.mk.injEq, Prod.mk.injEq] at shape
  obtain ⟨conn, ⟨pos, neg, pre⟩, power, -, -, -, effective, faultOut, record, copy, isRead, state, tables, write, update, staged, switch,
    version, programming⟩ := shape
  refine ⟨fun laws => ?_, by simp [conn], by simp [conn], by simp [Part.mainOpen, conn, pos], by simp [power],
    by simp [Part.latched, isRead, copy], fun laws => ?_, Part.floor_le_of_record record, bounds, nofun,
    by simp [Part.levelled, Part.faultLevel, effective, faultOut, conn]⟩
  · simpa only [Part.contactorLaws_iff, fit, power, update, conn] using laws
  · rw [Part.floorLaws_iff] at laws ⊢
    obtain ⟨copied, written, staged', unread, configured, unconfigured, switching, programming'⟩ := laws
    constructor <;>
      simpa only [Store.recordAsRead, conn, record, copy, isRead, state, tables, write, update, staged, switch, version,
        programming]

theorem Calm.countTrip (h : Calm f a c) (o : FaultObject) : Calm f a (c.countTrip o f) := by
  unfold Part.countTrip
  split
  · exact h
  · exact Calm.formAction (h.activity rfl rfl)

theorem Calm.tripObject (h : Calm f a c) (o : FaultObject) : Calm f a (c.tripObject o f) := by
  unfold Part.tripObject
  split
  · exact h.countTrip o
  · exact (h.countTrip o).notice _

theorem Calm.clearObject (h : Calm f a c) (o : FaultObject) : Calm f a (c.clearObject o f) := by
  unfold Part.clearObject
  split
  · exact Calm.formAction (h.activity rfl rfl)
  · exact h

theorem Calm.setCondition (h : Calm .now a c) (k : FaultClass) : Calm .now a (c.setCondition k) :=
  (h.recordTrip _ _ _).tripObject _

theorem Calm.clearCondition (h : Calm .now a c) (k : FaultClass) : Calm .now a (c.clearCondition k) :=
  (h.recordClear _ _).clearObject _

theorem Calm.eventClass (h : Calm f a c) (k : FaultClass) : Calm f a (c.eventClass k) := by
  have formed : Calm f a (Part.refreshAction { c.recordTrip (packKey k) c.now none with
      interlock.events := (c.recordTrip (packKey k) c.now none).interlock.events ||| k.bit }) :=
    Calm.refreshAction ((h.recordTrip _ _ _).activity rfl rfl)
  unfold Part.eventClass
  dsimp only
  split
  · exact formed
  · exact formed.notice k

theorem Calm.clearSilence (h : Calm .now a c) : Calm .now a c.clearSilence := by
  unfold Part.clearSilence
  split
  · refine Calm.clearCondition ?_ _
    exact h.quiet rfl rfl
  · exact h

theorem Calm.ackClass (h : Calm .later a c) (k : FaultClass) : Calm .later a (c.ackClass k) := by
  unfold Part.ackClass
  split
  · split
    · refine Calm.recordClear ?_ _ _
      exact h.activity rfl rfl
    · exact h
  · split
    · exact h
    · exact h.activity rfl rfl

theorem Calm.ackFaults (h : Calm f a c) (s : ClassSet) : Calm f a (c.ackFaults s) :=
  Calm.refreshAction (Calm.foldl (fun c k => (Calm.refl _ c).ackClass k) h.later _)

/-! ### The record as read, contactor faults and precharge failures -/

theorem FloorLaws.read_of_lt (laws : FloorLaws c) (h : c.store.update ≠ .idle) : c.store.recordRead = true :=
  Bool.not_eq_false _ ▸ fun unread => h (laws.unread unread).2.2.2.2.1

/-- Before boot step 1 nothing has been written and the connection is OPEN, so the laws of the floors hold of the copy as
read. -/
theorem FloorLaws.read {d : Part} (laws : FloorLaws c) (unread : c.store.recordRead = false)
    (record : d.store.record = c.store.record) (copy : d.store.copy = c.store.recordAsRead)
    (read : d.store.recordRead = true) (write : d.store.write = c.store.write)
    (staged : d.store.staged = c.store.staged) (state : d.store.state = c.store.state)
    (update : d.store.update = c.store.update) (version : d.store.versionInUse = c.store.versionInUse)
    (switch : d.store.switch = c.store.switch) (programming : d.mgmt.programming = c.mgmt.programming) : FloorLaws d := by
  obtain ⟨loading, -, -, idle, -, clear⟩ := laws.unread unread
  constructor
  · simp [Store.recordAsRead, record, copy]
  · simp [write, idle, RecordWrite.current]
  · simp [staged, clear]
  · simp [read]
  · simp [state, loading]
  · simpa only [state, version] using laws.unconfigured
  · simpa only [switch, update] using laws.switching
  · simpa only [programming, update] using laws.programming

/-- Boot step 1. -/
theorem Calm.readRecord (h : Calm .now a c) : Calm .now a c.readRecord := by
  refine h.trans ?_
  unfold Part.readRecord
  split
  · exact .refl ..
  next isRead =>
    have unread : c.store.recordRead = false := Bool.eq_false_iff.mpr isRead
    dsimp only
    generalize taken : (if c.store.recordAsRead.lockout = true then
        { Part.openDrives { c with store.copy := c.store.recordAsRead, store.recordRead := true } with seq.conn := .lockedOut }
      else { c with store.copy := c.store.recordAsRead, store.recordRead := true } : Part) = c2
    have shape : (c2.control = { c.control with copy := c.store.recordAsRead, recordRead := true }) ∨
        c2.control = { c.control with
          conn := .lockedOut, drives := (false, false, false), copy := c.store.recordAsRead, recordRead := true } := by
      subst taken
      split
      · right
        let c1 : Part := { c with store.copy := c.store.recordAsRead, store.recordRead := true }
        calc Part.control { c1.openDrives with seq.conn := .lockedOut } = { c1.openDrives.control with conn := .lockedOut } := rfl
          _ = _ := by rw [Part.openDrives_control]; rfl
      · exact .inl rfl
    have load : c2.load = c.load := by
      subst taken
      split
      · exact Part.openDrives_load { c with store.copy := c.store.recordAsRead, store.recordRead := true }
      · rfl
    have tripped : Calm .now c2 (if c.store.recordAsRead.tamper = true then c2.setCondition .tamper else c2) := by
      split
      · exact (Calm.refl .now c2).setCondition .tamper
      · exact .refl ..
    have control : c2.power.state = c.power.state ∧ c2.interlock.tripped = c.interlock.tripped ∧
        c2.interlock.latches = c.interlock.latches ∧ c2.interlock.events = c.interlock.events ∧
        c2.interlock.effective = c.interlock.effective ∧ c2.store.record = c.store.record ∧
        c2.store.copy = c.store.recordAsRead ∧ c2.store.recordRead = true ∧ c2.store.state = c.store.state ∧
        c2.store.tables = c.store.tables ∧ c2.store.write = c.store.write ∧ c2.store.update = c.store.update ∧
        c2.store.staged = c.store.staged ∧ c2.store.switch = c.store.switch ∧
        c2.store.versionInUse = c.store.versionInUse ∧ c2.mgmt.programming = c.mgmt.programming := by
      simp only [Part.control, ControlView.mk.injEq, Prod.mk.injEq] at shape
      tauto
    have seq : (c2.seq.conn = c.seq.conn ∧ c2.drivesFit = c.drivesFit ∧ c2.seq.kPos.drive = c.seq.kPos.drive) ∨
        (c2.seq.conn = .lockedOut ∧ c2.drivesFit = true ∧ c2.seq.kPos.drive = false) := by
      obtain shape | shape := shape
      · exact .inl ⟨congrArg (·.conn) shape, congrArg ControlView.fit shape, congrArg (·.drives.1) shape⟩
      · exact .inr ⟨congrArg (·.conn) shape, congrArg ControlView.fit shape, congrArg (·.drives.1) shape⟩
    obtain ⟨power, objects, latches, events, effective, record, copy, read, state, tables, write, update, staged, switch,
      version, programming⟩ := control
    exact
      { contactors := fun laws => tripped.contactors (by
          rw [Part.contactorLaws_iff] at laws ⊢
          obtain ⟨conn, fit, -⟩ | ⟨conn, fit, -⟩ := seq
          · simpa only [conn, fit, power, update] using laws
          · simp [conn, fit, ConnState.atRest])
        atRest := fun rest => tripped.atRest (by
          obtain ⟨conn, -⟩ | ⟨conn, -⟩ := seq
          · exact conn ▸ rest
          · rw [conn]; rfl)
        lockedOut := fun locked => tripped.lockedOut (by
          obtain ⟨conn, -⟩ | ⟨conn, -⟩ := seq <;> simp [conn, locked])
        mainOpen := fun main => tripped.mainOpen (by
          obtain ⟨conn, -, drive⟩ | ⟨conn, -, drive⟩ := seq
          · exact ⟨drive ▸ main.1, conn ▸ main.2⟩
          · exact ⟨drive, by simp [conn]⟩)
        active := fun active => tripped.active (power.trans active)
        latched := fun latched => absurd latched.1 isRead
        floors := fun laws => tripped.floors (by
          rw [Part.floorLaws_iff] at laws ⊢
          exact laws.read unread record copy read write staged state update version switch programming)
        record := fun laws => (Part.floor_le_of_record record laws).trans (tripped.record (by
          rw [Part.floorLaws_iff] at laws ⊢
          exact laws.read unread record copy read write staged state update version switch programming))
        bounds := fun laws => tripped.bounds (Part.boundLaws_of_load load laws)
        formed := fun now formed => tripped.formed now (by
          rw [Part.formed, Part.effectiveAction_congr objects latches events (by rw [power]) tables]
          exact effective.trans formed)
        levelled := fun _ => rfl }

theorem Part.readRecord_read (c : Part) : c.readRecord.store.recordRead = true := by
  unfold Part.readRecord
  split
  next read => exact read
  next =>
    dsimp only
    split <;> split <;> simp

/-- The sequencer's part of a contactor fault, with the record read. -/
theorem Part.faultTransition_calm (kind : EventKind) (k : Contactor) (cause : Cause)
    (read : c.store.recordRead = true) : Calm f c (c.faultTransition kind k cause) := by
  have pending : Calm f c (c.setPending .contactorFault) := (Calm.refl f c).setPending _
  have conn : (c.setPending .contactorFault).seq.conn = c.seq.conn := rfl
  have opens (moving : c.seq.conn.atRest = false) : Calm f c
      ((((c.setPending .contactorFault).enterOpening (.cls .contactorFault)).logEvent kind (some k) cause c.seq.conn
        .opening).advanceOpening) :=
    ((pending.trans (Part.enterOpening_calm _ (conn ▸ moving))).logEvent ..).trans (Part.advanceOpening_calm _)
  unfold Part.faultTransition
  dsimp only
  split
  next state => simpa only [state] using opens (by rw [state]; rfl)
  next state => simpa only [state] using opens (by rw [state]; rfl)
  next state => simpa only [state] using opens (by rw [state]; rfl)
  next state => simpa only [state] using opens (by rw [state]; rfl)
  next state => simpa only [state] using opens (by rw [state]; rfl)
  next state =>
    have logged := pending.logEvent kind (some k) cause .opening .opening
    generalize logs : (c.setPending .contactorFault).logEvent kind (some k) cause .opening .opening = c1 at logged
    have opening : c1.seq.conn = .opening := by rw [← logs]; simpa using state
    refine Calm.trans ?_ (Part.advanceOpening_calm _)
    split
    · exact logged.trans (Part.negOpens_calm opening)
    · split
      · exact logged.trans (Part.endOpening_calm opening)
      · exact logged
  next state =>
    refine Calm.enterLockedOut .opened (k := c.seq.conn) (v := c.control.drives) (Part.logEvent_control ..) (fun _ => read)
      fun laws => Part.appendEvent_bounds _ _ _ _ _ _ _ (Part.boundLaws_of_load rfl laws)
  next => exact pending.logEvent ..

theorem Calm.contactorFault (h : Calm .now a c) (kind : EventKind) (k : Contactor) (cause : Cause) :
    Calm .now a (c.contactorFault kind k cause) := by
  have moved := h.readRecord.trans (Part.faultTransition_calm (f := .now) kind k cause c.readRecord_read)
  unfold Part.contactorFault
  dsimp only
  refine Calm.eventClass ?_ _
  split
  next entry => exact moved.abandonEntry _ entry
  next patrol => exact moved.escalate _ _ patrol
  · exact moved
  · exact moved

theorem Part.prechargeFail_calm (moving : c.seq.conn.atRest = false) : Calm f c c.prechargeFail := by
  let c2 : Part := { c.openDrives with seq.conn := .opened, seq.prechargeEnd := none }
  have shape : c2.control = { c.control with conn := .opened, drives := (false, false, false) } := by
    calc c2.control = { c.openDrives.control with conn := .opened } := rfl
      _ = _ := by rw [Part.openDrives_control]
  have opens : Calm f c c2 := by
    refine Calm.move moving (by simp) shape (fun _ => ?_) (by simp) fun laws =>
      Part.boundLaws_of_load (c := c.openDrives) rfl (Part.boundLaws_of_load c.openDrives_load laws)
    rw [Part.drivesFit_eq, shape]
    rfl
  exact (opens.logEvent ..).eventClass _

theorem Calm.newReading (h : Calm f a c) (r : ShuntReading) : Calm f a (c.newReading r) := by
  refine h.trans ?_
  unfold Part.newReading
  split
  next precharging =>
    have moving : c.seq.conn.atRest = false := by rw [precharging]; rfl
    split
    · unfold Part.prechargeTest
      dsimp only
      split
      · exact Part.prechargeFail_calm moving
      · split
        · exact Part.enterMain_calm precharging
        · exact .refl f c
    · exact .refl f c
  next soft =>
    have moving : c.seq.conn.atRest = false := by rw [soft]; rfl
    split
    · unfold Part.softOpenTest
      split
      · exact ((Calm.refl f c).quiet (d := { c with seq.softEnd := none }) rfl rfl).trans
          (Part.startOpening_calm _ moving)
      · exact .refl f c
    · exact .refl f c
  all_goals exact .refl f c

/-! ### The sample evaluator -/

theorem Calm.handChange (h : Calm f a c) (ch : Change) (key : Direction → FaultKey) (t : Time) (v : Option Int) :
    Calm f a (c.handChange ch key t v f) := by
  unfold Part.handChange
  split
  · exact h
  · exact (h.recordTrip ..).tripObject _
  · exact (h.recordClear ..).clearObject _
  · split
    · exact h
    · exact h.recordOffer ..

theorem Part.feedChannel_calm (run : RunKind) (s : Time) (kind : ModuleKind) (p : Nat) (x : ChanValue)
    (ct : Part × Tally) : Calm .now ct.1 (Part.feedChannel run s kind p x ct).1 := by
  unfold Part.feedChannel
  dsimp only
  split
  · split
    · exact .refl ..
    · refine Calm.handChange ?_ ..
      exact (Calm.refl _ ct.1).quiet rfl rfl
  · exact .refl ..

theorem Part.feedSense_calm (run : RunKind) (s : Time) (p : Nat) (faulty : Bool) (ct : Part × Tally) :
    Calm .now ct.1 (Part.feedSense run s p faulty ct).1 := by
  unfold Part.feedSense
  dsimp only
  split
  · exact .refl ..
  · refine Calm.handChange ?_ ..
    exact (Calm.refl _ ct.1).quiet rfl rfl

theorem Part.feedSum_calm (run : RunKind) (s : Time) (v : Int) (ct : Part × Tally) :
    Calm .now ct.1 (Part.feedSum run s v ct).1 := by
  unfold Part.feedSum
  dsimp only
  split
  · exact .refl ..
  · refine Calm.handChange ?_ ..
    exact (Calm.refl _ ct.1).quiet rfl rfl

theorem Calm.feedLost (h : Calm f a c) (run : RunKind) (p : Nat) (missed : Bool) :
    Calm f a (c.feedLost run p missed f) := by
  unfold Part.feedLost
  refine Calm.handChange ?_ ..
  exact h.quiet rfl rfl

theorem Calm.writeShunt (h : Calm f a c) (w : Sweep) (v : PositionValues) : Calm f a (c.writeShunt w v) := by
  unfold Part.writeShunt
  split
  · refine Calm.newReading ?_ _
    exact h.quiet rfl rfl
  · exact h

theorem Part.evalPosition_calm (w : Sweep) (x : MapEntry × PositionValues) (ct : Part × Tally) :
    Calm .now ct.1 (Part.evalPosition w x ct).1 := by
  have sensed := (Calm.foldl_fst
    (fun ct v => Part.feedChannel_calm w.runKind w.sampleTime x.1.kind x.1.position v ct) (.refl .now ct.1)
    x.2.channels).trans (Part.feedSense_calm w.runKind w.sampleTime x.1.position x.2.faulty _)
  unfold Part.evalPosition
  dsimp only
  split
  · exact sensed
  · exact sensed.writeShunt w x.2

theorem Calm.evaluate (h : Calm .now a c) (w : Sweep) : Calm .now a (c.evaluate w).1 := by
  have stepOne := Calm.foldl_fst (fun ct x => Part.evalPosition_calm w x ct) (c := (c, ({} : Tally))) h
    (w.replies c.tables)
  unfold Part.evaluate
  dsimp only
  split
  · exact stepOne.trans (Part.feedSum_calm ..)
  · exact stepOne

theorem Calm.clearRecords (h : Calm f a c) : Calm f a c.clearRecords :=
  h.trans (Calm.foldl (fun d k => (Calm.refl f d).recordClear k d.now) (.refl f c) _)

theorem Calm.objectsToNormal (h : Calm f a c) : Calm f a (c.objectsToNormal f) :=
  Calm.formAction (h.clearRecords.activity rfl rfl)

/-! ### The router -/

/-- Counters that count one more, or go back, stay in their range. -/
theorem Calm.count (h : Calm f a c) {d : Part} (control : d.control = c.control)
    (same : d.load = { c.load with counters := d.counters, overwritten := d.seq.overwritten, slotMiss := d.sched.slotMiss })
    (counters : ∀ n ∈ d.counters, n ∈ c.counters ∨ n ≤ 65535)
    (overwritten : d.seq.overwritten = c.seq.overwritten ∨ d.seq.overwritten ≤ 255)
    (slotMiss : ∀ n ∈ d.sched.slotMiss, n ∈ c.sched.slotMiss ∨ n ≤ 255) : Calm f a d := by
  refine h.trans (.of_control control fun laws => ?_)
  rw [Part.boundLaws_iff] at laws ⊢
  simp only [Part.load, LoadView.mk.injEq] at same
  obtain ⟨places, load, refusals, southQueue, sequences, sweeps, queue, events, records, keys, counted, lost,
    missed⟩ := laws
  have counters' : ∀ n ∈ d.counters, n ≤ 65535 := fun n hn => (counters n hn).elim (counted n) id
  have slotMiss' : ∀ n ∈ d.sched.slotMiss, n ≤ 255 := fun n hn => (slotMiss n hn).elim (missed n) id
  constructor <;> first | assumption | omega | simpa only [Router.trackedLoad, Router.refusals, same]

/-- A change of the router's queues that keeps their bounds. -/
theorem Calm.route (h : Calm f a c) {d : Part} (control : d.control = c.control)
    (same : d.load = { c.load with
      tracker := d.router.tracker, southQueue := d.router.southQueue, forward := d.router.forward })
    (load : c.router.trackedLoad ≤ 8 → d.router.trackedLoad ≤ 8)
    (refusals : c.router.refusals ≤ 4 → d.router.refusals ≤ 4)
    (southQueue : c.router.southQueue.length ≤ 8 → d.router.southQueue.length ≤ 8)
    (sequences : c.router.tracker.Pairwise (fun a b => a.seq ≠ b.seq) →
      d.router.tracker.Pairwise (fun a b => a.seq ≠ b.seq)) : Calm f a d := by
  refine h.trans (.of_control control fun laws => ?_)
  rw [Part.boundLaws_iff] at laws ⊢
  simp only [Part.load, LoadView.mk.injEq] at same
  have load := load laws.load
  have refusals := refusals laws.refusals
  have southQueue := southQueue laws.southQueue
  have sequences := sequences laws.sequences
  obtain ⟨places, -, -, -, -, sweeps, queue, events, records, keys, counters, overwritten, slotMiss⟩ := laws
  constructor <;> first | assumption | simpa only [same]

theorem Calm.addRefusal (h : Calm f a c) (x : Frame) : Calm f a (c.addRefusal x) := by
  unfold Part.addRefusal
  split
  next room =>
    refine h.route rfl rfl ?_ ?_ id id
    · simp [Router.trackedLoad]
    · simp only [Router.refusals, List.filter_append, List.length_append] at room ⊢
      intro
      simp
      omega
  · exact h.count rfl rfl (by simp [Part.counters, bump16_le]) (.inl rfl) fun n hn => .inl hn

theorem Calm.forwardTracked (h : Calm f a c) (x : Frame) (p : Nat) (load : c.router.trackedLoad < 8)
    (queue : c.router.southQueue.length < 8) (fresh : c.router.clashes x.seq = false) :
    Calm f a (c.forwardTracked x p) := by
  refine h.route rfl rfl (fun _ => ?_) id (fun _ => ?_) (fun sequences => ?_)
  · simp only [Router.trackedLoad, Part.forwardTracked, List.length_append, List.length_singleton] at load ⊢
    omega
  · simp only [Part.forwardTracked, List.length_append, List.length_singleton]
    omega
  · refine List.pairwise_append.mpr ⟨sequences, List.pairwise_singleton .., fun r hr t ht => ?_⟩
    obtain rfl := List.mem_singleton.mp ht
    simpa using List.any_eq_false.mp fresh r hr

theorem Calm.admitCommand (h : Calm f a c) (x : Frame) : Calm f a (c.admitCommand x) := by
  unfold Part.admitCommand
  split
  · exact h.addRefusal _
  · dsimp only
    split
    · exact h.addRefusal _
    · split
      · exact h.addRefusal _
      next fresh =>
        split
        · exact h.addRefusal _
        next room =>
          split
          · exact h.addRefusal _
          · exact h.forwardTracked x _ (by omega) (by omega) (by simpa using fresh)

theorem Calm.admitBroadcast (h : Calm f a c) (x : Frame) : Calm f a (c.admitBroadcast x) := by
  unfold Part.admitBroadcast
  dsimp only
  split
  · exact h.addRefusal _
  · split
    · exact h.addRefusal _
    next room =>
      split
      · exact h.addRefusal _
      · refine h.route rfl rfl id id (fun _ => ?_) id
        simp only [Part.forwardBroadcast, List.length_append, List.length_singleton]
        omega

theorem Calm.markSent (h : Calm f a c) (seq : Byte) (t : Time) : Calm f a (c.markSent seq t) := by
  refine h.route rfl rfl ?_ id id fun sequences => ?_
  · simp [Router.trackedLoad, Part.markSent]
  · refine List.Pairwise.map _ (fun r s differ => ?_) sequences
    split <;> split <;> exact differ

/-- A record that leaves the tracker makes the place of its outcome. -/
theorem Calm.completeRecord (h : Calm f a c) {r : TxRecord} (tracked : r ∈ c.router.tracker) (x : Frame) :
    Calm f a (Part.addOutcome x { c with router.tracker := c.router.tracker.filter (fun y => decide (y.seq ≠ r.seq)) }) := by
  refine h.route rfl rfl (fun load => ?_) (fun refusals => ?_) id fun sequences => sequences.filter _
  · have fewer : (c.router.tracker.filter (fun y => decide (y.seq ≠ r.seq))).length < c.router.tracker.length :=
      List.length_filter_lt_length_iff_exists.mpr ⟨r, tracked, by simp⟩
    have one : ([{ frame := x, refusal := false }].filter (fun e : ForwardEntry => !e.refusal)).length = 1 := rfl
    simp only [Router.trackedLoad, Part.addOutcome, List.filter_append, List.length_append] at load ⊢
    omega
  · simpa [Router.refusals, Part.addOutcome] using refusals

theorem Calm.takeResponse (h : Calm f a c) (p : Nat) (x : Frame) : Calm f a (c.takeResponse p x) := by
  unfold Part.takeResponse
  split
  · exact h.count rfl rfl (by simp [Part.counters, bump16_le]) (.inl rfl) fun n hn => .inl hn
  next found => exact h.completeRecord (List.mem_of_find?_eq_some found) _

theorem Calm.expireRecord (h : Calm f a c) (seq : Byte) : Calm f a (c.expireRecord seq) := by
  unfold Part.expireRecord
  split
  · exact h
  next found => exact h.completeRecord (List.mem_of_find?_eq_some found) _

theorem Calm.completeAll (h : Calm f a c) : Calm f a c.completeAll := by
  refine h.route rfl rfl (fun load => ?_) (fun refusals => ?_) (fun _ => by simp [Part.completeAll]) fun _ => .nil
  · simp only [Router.trackedLoad, Part.completeAll, List.filter_append, List.length_append] at load ⊢
    have all : (c.router.tracker.map (fun r => ({ frame := r.outcome .linkDown, refusal := false } : ForwardEntry))).filter
        (fun e => !e.refusal) = c.router.tracker.map (fun r => { frame := r.outcome .linkDown, refusal := false }) :=
      List.filter_eq_self.mpr (by simp)
    rw [all, List.length_map]
    simp
    omega
  · simpa [Router.refusals, Part.completeAll, List.filter_map, Function.comp_def] using refusals

/-! ### The south link -/

theorem Calm.enterDown (h : Calm .now a c) (startRetry : Bool) : Calm .now a (c.enterDown startRetry) := by
  let c1 : Part :=
    { c with
      south.link := .down, south.downEvents := bump16 c.south.downEvents,
      south.retry := if startRetry then some (laterMs c.now 100) else none,
      south.window := none, south.bringAt := none, south.bringDue := none }
  have down : Calm .now a c1 :=
    h.count rfl rfl (by simp [Part.counters, c1, bump16_le]) (.inl rfl) fun n hn => .inl hn
  let c2 : Part := if c1.south.linkLost then c1 else Part.setCondition .linkDown { c1 with south.linkLost := true }
  have lost : Calm .now a c2 := by
    simp only [c2]
    split
    · exact down
    · refine Calm.setCondition ?_ _
      exact down.quiet rfl rfl
  have dropped : Calm .now a ((c2.completeAll.abortSweeps (fun _ => true)).dropSampling) :=
    (lost.completeAll.abortSweeps _).dropSampling
  have enters : c.enterDown startRetry = if ((c2.completeAll.abortSweeps (fun _ => true)).dropSampling).power.state = .patrol
      then ((c2.completeAll.abortSweeps (fun _ => true)).dropSampling).escalate .linkFailed none
      else (c2.completeAll.abortSweeps (fun _ => true)).dropSampling := rfl
  rw [enters]
  split
  next patrol => exact dropped.escalate _ _ patrol
  · exact dropped

theorem Calm.clearLinkLost (h : Calm .now a c) : Calm .now a c.clearLinkLost := by
  unfold Part.clearLinkLost
  split
  · refine Calm.clearCondition ?_ _
    exact h.quiet rfl rfl
  · exact h

theorem Calm.enterOff (h : Calm .now a c) : Calm .now a c.enterOff := by
  unfold Part.enterOff
  refine Calm.clearLinkLost (Calm.dropSampling ?_)
  exact h.quiet rfl rfl

theorem Calm.setForeign (h : Calm f a c) (p : Nat) (b : Bool) : Calm f a (c.setForeign p b f) := by
  unfold Part.setForeign
  dsimp only
  split
  · exact h
  · split
    · refine Calm.tripObject (Calm.recordTrip ?_ ..) _
      exact h.quiet rfl rfl
    · refine Calm.clearObject (Calm.recordClear ?_ ..) _
      exact h.quiet rfl rfl

theorem Calm.lostPosition (h : Calm f a c) (p : Nat) : Calm f a (c.lostPosition p f) := by
  unfold Part.lostPosition
  dsimp only
  split
  · refine Calm.feedLost ?_ ..
    exact h.quiet rfl rfl
  · exact h.quiet rfl rfl

theorem Part.checkPosition_calm (p : Nat) (c : Part) : Calm f c (c.checkPosition p f) := by
  unfold Part.checkPosition
  split
  · exact (Calm.refl f c).setForeign ..
  · exact (Calm.refl f c).setForeign ..
  · exact (Calm.refl f c).lostPosition p
  · exact (Calm.refl f c).setForeign ..
  · exact (Calm.refl f c).setForeign ..

theorem Calm.identityCheck (h : Calm f a c) : Calm f a (c.identityCheck f) :=
  Calm.foldl (fun c p => Part.checkPosition_calm p c) h _

theorem Calm.enterUp (h : Calm .now a c) : Calm .now a c.enterUp := by
  have cleared : Calm .now a (Part.clearLinkLost
      { c with south.link := .up, south.errorCount := 0, south.goodRun := 0, south.silentRun := 0 }) := by
    refine Calm.clearLinkLost ?_
    exact h.quiet rfl rfl
  unfold Part.enterUp
  dsimp only
  refine Calm.identityCheck ?_
  split
  · exact cleared.startNormalRun _
  · exact cleared.startRun ..
  · exact cleared
  · exact cleared

theorem Calm.southCheckFail (h : Calm .now a c) : Calm .now a c.southCheckFail := by
  have counted : Calm .now a { c with south.crcErrors := bump16 c.south.crcErrors } :=
    h.count rfl rfl (by simp [Part.counters, bump16_le]) (.inl rfl) fun n hn => .inl hn
  unfold Part.southCheckFail
  dsimp only
  split
  · split
    · refine Calm.enterDown ?_ _
      exact counted.quiet rfl rfl
    · exact counted.quiet rfl rfl
  · exact counted

theorem Calm.goodFrame (h : Calm f a c) : Calm f a c.goodFrame := by
  unfold Part.goodFrame
  split
  · split <;> exact h.quiet rfl rfl
  · exact h

theorem Calm.kindDiscard (h : Calm f a c) : Calm f a c.kindDiscard :=
  h.count rfl rfl (by simp [Part.counters, Part.kindDiscard, bump16_le]) (.inl rfl) fun n hn => .inl hn

theorem Calm.takeEnumReply (h : Calm f a c) (p : Nat) (x : Frame) : Calm f a (c.takeEnumReply p x) := by
  unfold Part.takeEnumReply
  split
  · split
    · exact h.quiet rfl rfl
    · exact h.kindDiscard
  · exact h.kindDiscard

theorem Calm.takeSpoof (h : Calm f a c) : Calm f a c.takeSpoof := by
  unfold Part.takeSpoof
  refine Calm.eventClass ?_ _
  exact h.count rfl rfl (by simp [Part.counters, bump16_le]) (.inl rfl) fun n hn => .inl hn

theorem Calm.bringupDue (h : Calm f a c) : Calm f a c.bringupDue := by
  unfold Part.bringupDue
  split
  · split
    · exact h.quiet rfl rfl
    · exact h
  · exact h

theorem Calm.closeWindow (h : Calm .now a c) : Calm .now a c.closeWindow := by
  unfold Part.closeWindow
  dsimp only
  split
  · split
    · refine Calm.enterUp ?_
      exact h.quiet rfl rfl
    · refine Calm.enterDown ?_ _
      exact h.quiet rfl rfl
  · exact h

theorem Calm.retryExpired (h : Calm f a c) : Calm f a c.retryExpired := by
  unfold Part.retryExpired
  split
  · refine Calm.enterWaking ?_
    exact h.count rfl rfl (by simp [Part.counters, bump16_le]) (.inl rfl) fun n hn => .inl hn
  · exact h

theorem Calm.resetSouth (h : Calm .now a c) : Calm .now a c.resetSouth := by
  unfold Part.resetSouth
  dsimp only
  split
  · exact h
  · refine Calm.enterWaking ?_
    exact (h.enterDown false).quiet rfl rfl

theorem Part.startTierTwo_calm {d : Part} (h : c.startTierTwo = some d) : Calm f c d := by
  have bringup : Calm f c c.startBringup := by
    unfold Part.startBringup
    dsimp only
    split <;> exact (Calm.refl f c).quiet rfl rfl
  have sleep : Calm f c c.startSleep := (Calm.refl f c).quiet rfl rfl
  unfold Part.startTierTwo at h
  split at h
  · cases h
  · cases h; exact bringup
  · cases h; exact sleep
  · split at h
    · cases h; exact sleep
    · cases h; exact bringup

theorem Calm.startQueued (h : Calm f a c) : Calm f a c.startQueued := by
  unfold Part.startQueued
  split
  next queue =>
    refine h.route rfl rfl id id (fun room => ?_) id
    rw [queue, List.length_cons] at room
    exact Nat.le_of_succ_le room
  · exact h

theorem Calm.southTransmit (h : Calm f a c) : Calm f a c.southTransmit := by
  unfold Part.southTransmit
  split
  · exact h
  · split
    · refine Calm.settleRun ?_
      exact h.quiet rfl rfl
    · split
      next started => exact h.trans (Part.startTierTwo_calm started)
      · exact h.startQueued

theorem Calm.commandEnd (h : Calm f a c) : Calm f a c.commandEnd := by
  unfold Part.commandEnd
  split
  · exact h
  · split
    · refine Calm.markSent ?_ ..
      exact h.quiet rfl rfl
    all_goals exact h

theorem Calm.enumEnd (h : Calm f a c) : Calm f a c.enumEnd := by
  unfold Part.enumEnd
  dsimp only
  split
  · exact h
  · split
    · split <;> exact h.quiet rfl rfl
    all_goals exact h

/-! ### The sweep scheduler -/

theorem Calm.patrolDone (h : Calm f a c) : Calm f a c.patrolDone := by
  unfold Part.patrolDone
  split
  · exact h.quiet rfl rfl
  · exact h

theorem Calm.cycleStart (h : Calm f a c) : Calm f a c.cycleStart := by
  unfold Part.cycleStart
  split
  · exact h
  · split
    · refine Calm.patrolDone ?_
      dsimp only
      split
      · refine Calm.supercycle ?_ _
        exact h.quiet rfl rfl
      · exact h.quiet rfl rfl
    · exact h

theorem Calm.missSlot (h : Calm f a c) (j : Nat) : Calm f a (c.missSlot j) := by
  refine h.count rfl rfl (by simp [Part.counters, Part.missSlot, bump16_le]) (.inl rfl) fun n hn => ?_
  have inArray : n ∈ (c.sched.slotMiss.toArray.setIfInBounds j (bump8 (c.sched.slotMiss.getD j 0))) :=
    (Vector.mem_toArray_iff ..).mpr hn
  obtain old | rfl := Array.mem_or_eq_of_mem_setIfInBounds inArray
  · exact .inl ((Vector.mem_toArray_iff ..).mp old)
  · exact .inr (bump8_le _)

theorem Calm.launchSlot (h : Calm f a c) (r : Run) (j : Nat) (s : Slot) (room : c.sched.sweeps.length < 4) :
    Calm f a (c.launchSlot r j s) := by
  refine h.trans (.of_control rfl fun laws => ?_)
  rw [Part.boundLaws_iff] at laws ⊢
  refine { laws with sweeps := ?_ }
  simp only [Part.launchSlot, List.length_append, List.length_singleton]
  omega

theorem Calm.slotTime (h : Calm f a c) (j : Nat) : Calm f a (c.slotTime j) := by
  unfold Part.slotTime
  split
  next r s _ _ =>
    split
    · unfold Part.takeSlot
      have taken : Calm f a { c with sched.run := some { r with launched := r.launched ++ [j] } } := h.quiet rfl rfl
      split
      · exact taken.missSlot j
      next launches =>
        split
        · exact taken.count rfl rfl (by simp [Part.counters, bump16_le]) (.inl rfl) fun n hn => .inl hn
        · exact taken.launchSlot r j s (by simp only at launches ⊢; omega)
    · exact h
  · exact h

theorem Part.accountPosition_calm (w : Sweep) (p : Nat) (c : Part) : Calm .now c (c.accountPosition w p) := by
  unfold Part.accountPosition
  dsimp only
  split
  · refine Calm.feedLost ?_ ..
    exact (Calm.refl .now c).quiet rfl rfl
  · split
    · refine Calm.feedLost ?_ ..
      exact (Calm.refl .now c).quiet rfl rfl
    · exact (Calm.refl .now c).quiet rfl rfl

theorem Calm.account (h : Calm .now a c) (w : Sweep) : Calm .now a (c.account w) :=
  Calm.foldl (fun c p => Part.accountPosition_calm w p c) h _

theorem Calm.silentReport (h : Calm .now a c) (w : Sweep) : Calm .now a (c.silentReport w) := by
  unfold Part.silentReport
  split
  · exact h.quiet rfl rfl
  · split
    · exact h.enterDown true
    · exact h.quiet rfl rfl

theorem Part.detailReport_calm (w : Sweep) (v : PositionValues) (c : Part) : Calm f c (c.detailReport w v) := by
  unfold Part.detailReport
  split
  · exact (Calm.refl f c).offerReport ..
  · exact .refl f c

theorem Calm.sweepReports (h : Calm f a c) (w : Sweep) (r : SweepResults) : Calm f a (c.sweepReports w r) := by
  unfold Part.sweepReports
  split
  · exact h
  · have summary : Calm f a (if w.summarised r then c.offerReport .sweep (summaryPayload w c.south.foreign r) else c) := by
      split
      · exact h.offerReport ..
      · exact h
    dsimp only
    split
    · exact Calm.foldl (fun c v => Part.detailReport_calm w v c) summary _
    · exact summary

theorem Calm.closeSweep (h : Calm .now a c) (w : Sweep) : Calm .now a (c.closeSweep w) := by
  let c0 : Part := { c with sched.sweeps := c.sched.sweeps.filter (fun x => decide (x.number ≠ w.number)) }
  have left : Calm .now a c0 := h.dropSweeps rfl rfl (List.length_filter_le ..)
  exact (((((left.holdAnswers.evaluate w).account w).silentReport w).sweepReports w _).releaseAnswers).patrolDone

theorem Calm.closeTime (h : Calm .now a c) (n : BitVec 16) : Calm .now a (c.closeTime n) := by
  unfold Part.closeTime
  split
  · exact h
  · split
    · exact h.closeSweep _
    · exact h

theorem Calm.storeSample (h : Calm .now a c) (w : Sweep) (p : Nat) (d : SampleData) :
    Calm .now a (c.storeSample w p d) := by
  let late : Bool := decide (c.tables.header.skewLimit < skew d.taken w.sampleTime)
  let c1 : Part :=
    { c with
      sched.sweeps := c.sched.sweeps.map (fun x => if x.number = w.number then w.store p d late else x),
      sched.skewedSamples := if late then bump16 c.sched.skewedSamples else c.sched.skewedSamples }
  have stored : Calm .now a c1 := by
    have length : c1.sched.sweeps.length = c.sched.sweeps.length := List.length_map ..
    refine h.count rfl (by simp only [Part.load, length]; rfl) ?_ (.inl rfl) fun n hn => .inl hn
    simp only [Part.counters, c1]
    split <;> simp [bump16_le]
  have stores : c.storeSample w p d = if (w.store p d late).replied = (w.store p d late).target then
      c1.closeSweep (w.store p d late) else c1 := rfl
  rw [stores]
  split
  · exact stored.closeSweep _
  · exact stored

theorem Calm.takeSample (h : Calm .now a c) (p : Nat) (x : Frame) : Calm .now a (c.takeSample p x) := by
  unfold Part.takeSample
  split
  · exact h.kindDiscard
  · split
    · exact h.count rfl rfl (by simp [Part.counters, bump16_le]) (.inl rfl) fun n hn => .inl hn
    · split
      · exact h.count rfl rfl (by simp [Part.counters, bump16_le]) (.inl rfl) fun n hn => .inl hn
      · split
        · exact h.count rfl rfl (by simp [Part.counters, bump16_le]) (.inl rfl) fun n hn => .inl hn
        · exact h.storeSample ..

theorem Calm.receiveSouth (h : Calm .now a c) (r : Reception) : Calm .now a (c.receiveSouth r) := by
  unfold Part.receiveSouth
  split
  · exact h
  · split
    · exact h.southCheckFail
    · exact h.goodFrame.kindDiscard
    · exact h.goodFrame.takeSpoof
    · exact h.goodFrame.takeResponse ..
    · exact h.goodFrame.takeSample ..
    · exact h.goodFrame.takeEnumReply ..

/-! ### The power controller -/

/-- A change that leaves the sequencer, keeps an update that is open open or ends it, and keeps the laws of the floors. -/
theorem Calm.keep (h : Calm f a c) {d : Part} (conn : d.seq.conn = c.seq.conn)
    (drives : d.control.drives = c.control.drives)
    (power : d.power.state = c.power.state ∨ (c.power.state ≠ .active ∧ d.power.state ≠ .active))
    (update : d.store.update = c.store.update ∨ d.store.update = .idle ∨ c.store.update ≠ .idle ∨
      c.seq.conn.atRest = true)
    (latched : c.latched → d.latched) (floors : a.floorLaws = true → FloorLaws c → FloorLaws d)
    (record : c.floorLaws = true → c.store.recordAsRead.floor ≤ d.store.recordAsRead.floor)
    (effective : d.interlock.effective = c.interlock.effective) (faultOut : d.interlock.faultOut = c.interlock.faultOut)
    (action : f = .now → d.effectiveAction = c.effectiveAction)
    (bounds : a.boundLaws = true → c.boundLaws = true → d.boundLaws = true) : Calm f a d := by
  have fit : d.drivesFit = c.drivesFit := by
    rw [Part.drivesFit_eq, Part.drivesFit_eq, ControlView.fit, ControlView.fit, drives]
    rw [show d.control.conn = c.control.conn from conn]
  simp only [Part.control, Prod.mk.injEq] at drives
  refine ⟨fun laws => ?_, fun rest => conn ▸ h.atRest rest, fun locked => conn.trans (h.lockedOut locked),
    fun main => by simpa [Part.mainOpen, conn, drives] using h.mainOpen main, fun active => ?_,
    fun is => latched (h.latched is), fun laws => ?_, fun laws => (h.record laws).trans (record (h.floors laws)),
    fun laws => bounds laws (h.bounds laws), fun now formed => effective.trans ((h.formed now formed).trans (action now).symm),
    fun levelled => by simpa [Part.levelled, Part.faultLevel, effective, faultOut, conn] using h.levelled levelled⟩
  · have laws := h.contactors laws
    simp only [Part.contactorLaws_iff, fit, conn] at laws ⊢
    refine ⟨laws.1, ?_, ?_⟩
    · obtain same | ⟨asleep, -⟩ := power
      · exact same ▸ laws.2.1
      · exact .inr (laws.2.1.resolve_left asleep)
    · obtain same | idle | isOpen | rest := update
      · exact same ▸ laws.2.2
      · exact .inl idle
      · exact .inr (laws.2.2.resolve_left isOpen)
      · exact .inr rest
  · obtain same | ⟨asleep, -⟩ := power
    · exact same.trans (h.active active)
    · exact absurd (h.active active) asleep
  · rw [Part.floorLaws_iff]
    exact floors laws ((Part.floorLaws_iff c).mp (h.floors laws))

/-- A move among the power states that ACTIVE does not belong to, with the effective action still to be formed. -/
theorem Calm.asleep (h : Calm f a c) {d : Part} {k : PowerState} (shape : d.control = { c.control with power := k })
    (load : d.load = c.load) (moving : k ≠ .active) (asleep : c.power.state ≠ .active) : Calm .later a d := by
  have floors : FloorLaws c → FloorLaws d := by
    simp only [Part.control, ControlView.mk.injEq, Prod.mk.injEq] at shape
    obtain ⟨conn, -, -, -, -, -, -, -, record, copy, isRead, state, tables, write, update, staged, switch, version,
      programming⟩ := shape
    intro ⟨copied, written, staged', unread, configured, unconfigured, switching, programming'⟩
    constructor <;>
      simpa only [Store.recordAsRead, conn, record, copy, isRead, state, tables, write, update, staged, switch, version,
        programming]
  have read : d.store.recordRead = c.store.recordRead := congrArg (·.recordRead) shape
  have copy : d.store.copy = c.store.copy := congrArg (·.copy) shape
  exact h.later.keep (congrArg (·.conn) shape) (by rw [shape]) (.inr ⟨asleep, (congrArg (·.power) shape).trans_ne moving⟩)
    (.inl (congrArg (·.update) shape)) (by simp [Part.latched, read, copy]) (fun _ => floors)
    (Part.floor_le_of_record (congrArg (·.record) shape))
    (congrArg (·.effective) shape) (congrArg (·.faultOut) shape) nofun (fun _ => Part.boundLaws_of_load load)

theorem Calm.sleepBroadcastDue (h : Calm f a c) : Calm f a c.sleepBroadcastDue := by
  unfold Part.sleepBroadcastDue
  dsimp only
  split
  · split <;> exact h.quiet rfl rfl
  · exact h

theorem Calm.goDeep (h : Calm .now a c) (asleep : c.power.state ≠ .active) : Calm .now a c.goDeep := by
  unfold Part.goDeep
  refine Calm.refreshAction ?_
  exact h.enterOff.asleep rfl rfl (by simp) (by simpa using asleep)

theorem Calm.deepEntry (h : Calm .now a c) : Calm .now a c.deepEntry := by
  unfold Part.deepEntry
  split
  next entry =>
    refine Calm.goDeep ?_ (by simp [entry.1])
    exact h.route rfl rfl id id (fun _ => Nat.zero_le _) id
  · exact h

theorem Calm.sleepEnd (h : Calm .now a c) : Calm .now a c.sleepEnd := by
  unfold Part.sleepEnd
  dsimp only
  split
  · exact h
  · split
    · split
      · exact h.quiet rfl rfl
      · split
        · exact h.quiet rfl rfl
        next patrol _ =>
          refine Calm.goDeep ?_ (by simp [patrol])
          exact h.count rfl rfl (by simp [Part.counters, bump16_le]) (.inl rfl) fun n hn => .inl hn
        · exact h.quiet rfl rfl
    all_goals exact h

theorem Calm.setContactor (h : Calm f a c) {k : Contactor} {x : ContactorState}
    (drive : x.drive = (c.seq.contactor k).drive) : Calm f a (c.withContactor k x) := by
  refine h.quiet ?_ (by cases k <;> rfl)
  cases k <;> simp_all [Part.control, Part.withContactor, Sequencer.withContactor, Sequencer.contactor]

theorem Calm.passCheck (h : Calm f a c) (k : Contactor) : Calm f a (c.passCheck k) := by
  unfold Part.passCheck
  split
  · exact h
  · split
    · exact h.setContactor rfl
    · exact h

theorem Calm.updateWatch (h : Calm f a c) (k : Contactor) : Calm f a (c.updateWatch k) := by
  unfold Part.updateWatch
  dsimp only
  split
  · exact h
  · split <;> split <;> first | exact h | exact h.setContactor rfl

theorem Calm.resumeSequencer (h : Calm f a c) : Calm f a c.resumeSequencer :=
  (((((h.passCheck _).passCheck _).passCheck _).updateWatch _).updateWatch _).updateWatch _

theorem Calm.sleepFeedback (h : Calm .now a c) (s : ContactorFlags) (k : Contactor) :
    Calm .now a (c.sleepFeedback s k) := by
  unfold Part.sleepFeedback
  split
  · refine Calm.contactorFault ?_ ..
    exact h.setContactor rfl
  · exact h

theorem Calm.sleepFeedbacks (h : Calm .now a c) (s : ContactorFlags) : Calm .now a (c.sleepFeedbacks s) :=
  ((h.sleepFeedback s _).sleepFeedback s _).sleepFeedback s _

theorem Calm.leaveDeep (h : Calm .now a c) : Calm .now a c.leaveDeep := by
  let c1 := Part.objectsToNormal { c with power.patrolTimer := none }
  have normal : Calm .now a c1 := by
    refine Calm.objectsToNormal ?_
    exact h.quiet rfl rfl
  have awake : Calm .later a { c1 with power.state := .active, power.step := .none } := normal.later.wake rfl rfl nofun
  exact ((awake.restartSupervision.refreshAction.enterWaking.powerReport ..).sleepFeedbacks _).resumeSequencer

theorem Calm.wakeFromDeep (h : Calm .now a c) (q : List Instr) (w : WakeCause) : Calm .now a (c.wakeFromDeep q w) := by
  unfold Part.wakeFromDeep
  refine Calm.leaveDeep ?_
  exact (h.addCause w).quiet rfl rfl

theorem Calm.patrolExpired (h : Calm .now a c) : Calm .now a c.patrolExpired := by
  unfold Part.patrolExpired
  split
  next deep =>
    let c2 := Part.objectsToNormal { c.addCause .patrolTimer with power.patrolTimer := none }
    have normal : Calm .now a c2 := by
      refine Calm.objectsToNormal ?_
      exact (h.addCause .patrolTimer).quiet rfl rfl
    have state : c2.power.state = .deep := by simp [c2, Part.addCause, deep.1]
    have patrol : Calm .later a
        { c2 with power.state := .patrol, power.step := .running, power.sleepSent := false, power.leftDeep := .patrol } :=
      normal.asleep rfl rfl (by simp) (by simp [state])
    exact patrol.refreshAction.enterWaking.resumeSequencer
  · exact h

theorem Calm.powerCause (h : Calm .now a c) (q : List Instr) (w : WakeCause) : Calm .now a (c.powerCause q w) := by
  unfold Part.powerCause
  split
  · exact h
  next entry => exact h.abandonEntry w entry
  · exact h.wakeFromDeep q w
  next patrol => exact h.escalate w none patrol

theorem Calm.wakeIn (h : Calm .now a c) (q : List Instr) (v : Bool) : Calm .now a (c.wakeIn q v) := by
  unfold Part.wakeIn
  dsimp only
  split
  · refine Calm.powerCause ?_ ..
    exact h.quiet rfl rfl
  · exact h.quiet rfl rfl

theorem Calm.northActivity (h : Calm .now a c) (q : List Instr) : Calm .now a (c.northActivity q) := by
  unfold Part.northActivity
  split
  · exact h
  · exact h.powerCause ..

theorem Calm.deepClosed (h : Calm .now a c) (q : List Instr) (s : ContactorFlags) : Calm .now a (c.deepClosed q s) := by
  unfold Part.deepClosed
  dsimp only
  split
  · refine Calm.wakeFromDeep ?_ ..
    exact h.quiet rfl rfl
  · exact h.quiet rfl rfl

theorem Calm.failCheck (h : Calm .now a c) (k : Contactor) : Calm .now a (c.failCheck k) := by
  unfold Part.failCheck
  split
  · exact h
  · split
    · refine Calm.contactorFault ?_ ..
      refine Calm.updateWatch ?_ _
      exact h.setContactor rfl
    · exact h

theorem Calm.spendWatch (h : Calm .now a c) (k : Contactor) : Calm .now a (c.spendWatch k) := by
  unfold Part.spendWatch
  split
  · split
    · refine Calm.contactorFault ?_ ..
      exact h.setContactor rfl
    · exact h
  all_goals exact h

theorem Calm.feedbackExpired (h : Calm .now a c) (q : List Instr) (k : Contactor) :
    Calm .now a (c.feedbackExpired q k) := by
  unfold Part.feedbackExpired
  split
  · split
    · exact (h.wakeFromDeep ..).failCheck k
    · exact h
  · exact h.failCheck k

theorem Calm.watchExpired (h : Calm .now a c) (q : List Instr) (k : Contactor) : Calm .now a (c.watchExpired q k) := by
  unfold Part.watchExpired
  split
  · split
    · exact (h.wakeFromDeep ..).spendWatch k
    · exact h
  · exact h.spendWatch k

theorem Calm.prechargeExpired (h : Calm f a c) : Calm f a c.prechargeExpired := by
  unfold Part.prechargeExpired
  split
  next due => exact h.trans (Part.prechargeFail_calm (by rw [due.1]; rfl))
  · exact h

theorem Calm.softOpenExpired (h : Calm f a c) : Calm f a c.softOpenExpired := by
  unfold Part.softOpenExpired
  split
  next due =>
    refine Calm.trans (b := { c with
      seq.underLoad := c.eval.shunt.map (fun r => (r.current, r.linkVoltage)), seq.softEnd := none }) ?_
      (Part.startOpening_calm _ (by rw [due.1]; rfl))
    exact h.quiet rfl rfl
  · exact h

theorem Calm.supervisionExpired (h : Calm .now a c) : Calm .now a c.supervisionExpired := by
  unfold Part.supervisionExpired
  split
  · refine Calm.setCondition ?_ _
    exact h.quiet rfl rfl
  · exact h

/-! ### The table store -/

theorem Calm.updateReport (h : Calm f a c) (o : UpdateOutcome) (bank : BankName) : Calm f a (c.updateReport o bank) :=
  h.offerReport ..

theorem Calm.tripTamper (h : Calm .now a c) : Calm .now a c.tripTamper := (h.recordTrip ..).countTrip _

/-- The setting of the latch in the record copy. -/
theorem Calm.latch (h : Calm f a c) : Calm f a { c with store.copy.tamper := true } :=
  h.keep rfl rfl (.inl rfl) (.inl rfl) (fun latched => ⟨latched.1, rfl⟩)
    (fun _ ⟨copied, written, staged, unread, configured, unconfigured, switching, programming⟩ =>
      ⟨copied, written, staged, unread, configured, unconfigured, switching, programming⟩)
    (Part.floor_le_of_record rfl) rfl rfl (fun _ => rfl) (fun _ => Part.boundLaws_of_load rfl)

theorem Calm.raiseTamper (h : Calm .now a c) (read : c.store.recordRead = true) : Calm .now a c.raiseTamper := by
  refine h.trans ?_
  unfold Part.raiseTamper
  split
  · have tripped : Calm .now c c.tripTamper := (Calm.refl .now c).tripTamper
    refine Calm.requestWrite ?_ fun _ => by simpa using read
    refine { tripped with floors := fun laws => ?_, bounds := fun laws => ?_ }
    · rw [Part.floorLaws_iff] at laws ⊢
      refine laws.of_read read ?_ ?_ ?_ (fun r done h => .inr ⟨done, h⟩) ?_ ?_ ?_ ?_ ?_ ?_ <;> simp [read]
    · exact Part.boundLaws_of_load (c := c.tripTamper) rfl (tripped.bounds laws)
  · exact Calm.tripTamper ((Calm.refl .now c).requestWrite fun _ => read)

theorem Calm.setTamper (h : Calm .now a c) (q : List Instr) : Calm .now a (c.setTamper q) := by
  unfold Part.setTamper
  dsimp only
  split
  · exact h.readRecord
  · exact Calm.powerCause (Calm.raiseTamper h.readRecord.latch c.readRecord_read) ..

theorem Calm.latchTamper (h : Calm .now a c) (q : List Instr) : Calm .now a (c.latchTamper q) := by
  unfold Part.latchTamper
  split
  · exact h.quiet rfl rfl
  · exact h.setTamper q

theorem Calm.tamperIn (h : Calm .now a c) (q : List Instr) (v : Bool) : Calm .now a (c.tamperIn q v) := by
  unfold Part.tamperIn
  dsimp only
  split
  · refine Calm.latchTamper ?_ _
    exact h.quiet rfl rfl
  · exact h.quiet rfl rfl

/-- A change of the update state, the staged version and the programming in progress, outside a switch. -/
theorem Calm.setUpdate (h : Calm f a c) {d : Part} {u : UpdateState} {staged : Option Nat} {p : Option Programming}
    (shape : d.control = { c.control with update := u, staged := staged, programming := p })
    (ready : c.floorLaws = true → p = none ∨ u = .ready) (switch : a.floorLaws = true → c.store.update ≠ .switching)
    (opens : u = .idle ∨ c.store.update ≠ .idle ∨
      (c.seq.conn.atRest = true ∧ (c.floorLaws = true → c.store.recordRead = true)))
    (rises : ∀ v, staged = some v → c.store.staged = some v ∨ (c.store.update ≠ .idle ∧ c.store.copy.floor ≤ v))
    (bounds : a.boundLaws = true → c.boundLaws = true → d.boundLaws = true) : Calm f a d := by
  have drives : d.control.drives = c.control.drives := by rw [shape]
  simp only [Part.control, ControlView.mk.injEq, Prod.mk.injEq] at shape
  obtain ⟨conn, -, power, tripped, latches, events, effective, faultOut, record, copy, isRead, state, tables, write, update,
    stagedNow, switchNow, version, programming⟩ := shape
  refine h.keep conn drives (.inl power) ?_ (by simp [Part.latched, isRead, copy]) (fun start laws => ?_)
    (Part.floor_le_of_record record) effective faultOut
    (fun _ => Part.effectiveAction_congr tripped latches events (by rw [power]) tables) bounds
  · rw [update]
    obtain idle | isOpen | ⟨rest, -⟩ := opens
    · exact .inr (.inl idle)
    · exact .inr (.inr (.inl isOpen))
    · exact .inr (.inr (.inr rest))
  · constructor
    · simpa only [Store.recordAsRead, record, isRead, copy] using laws.copied
    · simpa only [Store.recordAsRead, record, isRead, copy, write] using laws.written
    · intro read v hv
      rw [isRead] at read
      rw [copy]
      exact (rises v (stagedNow ▸ hv)).elim (laws.staged read v) And.right
    · intro unread
      rw [isRead] at unread
      obtain ⟨loading, opened, interlock, idle, updateIdle, clear⟩ := laws.unread unread
      have endsIdle : u = .idle := by
        obtain idle | isOpen | ⟨-, read⟩ := opens
        · exact idle
        · exact absurd updateIdle isOpen
        · simp [read ((Part.floorLaws_iff c).mpr laws)] at unread
      refine ⟨state.trans loading, conn.trans opened, by rw [tables, interlock], write.trans idle, update.trans endsIdle, ?_⟩
      rw [stagedNow, Option.eq_none_iff_forall_ne_some]
      intro v hv
      exact (rises v hv).elim (by simp [clear]) fun isOpen => isOpen.1 updateIdle
    · intro configured
      rw [version, copy]
      exact .inr ((laws.configured (state ▸ configured)).resolve_left (switch start))
    · intro unconfigured
      rw [version]
      exact laws.unconfigured (state ▸ unconfigured)
    · intro switching
      exact absurd (laws.switching (switchNow ▸ switching)) (switch start)
    · intro programs
      rw [update]
      exact (ready ((Part.floorLaws_iff c).mpr laws)).resolve_left (programming ▸ programs)

theorem Calm.abortUpdate (h : Calm f a c) (programming : c.mgmt.programming = none)
    (switch : a.floorLaws = true → c.store.update ≠ .switching) : Calm f a c.abortUpdate := by
  have idle : Calm f a { c with store.update := .idle, store.abortPending := false } :=
    h.setUpdate rfl (fun _ => .inl programming) switch (.inl rfl) (fun v hv => .inl hv) (fun _ => Part.boundLaws_of_load rfl)
  unfold Part.abortUpdate
  dsimp only
  refine Calm.updateReport ?_ ..
  split
  · exact idle.releaseHold
  · exact idle

theorem Calm.serviceAbort (h : Calm f a c) : Calm f a c.serviceAbort := by
  unfold Part.serviceAbort
  split
  · exact h
  · exact h
  · exact h.quiet rfl rfl
  all_goals
    next state =>
      split
      · exact h.quiet rfl rfl
      next idle => exact h.abortUpdate (by simpa using idle) fun _ => by simp [state]

theorem Calm.serviceIn (h : Calm .now a c) (q : List Instr) (v : Bool) : Calm .now a (c.serviceIn q v) := by
  have taken : Calm .now a { c with lines.serviceIn := v } := h.quiet rfl rfl
  unfold Part.serviceIn
  dsimp only
  split
  · split
    · exact taken.serviceAbort.latchTamper q
    · exact taken.serviceAbort
  · exact taken

/-- No programming is in progress outside READY. -/
theorem Part.programming_of_floorLaws (update : c.store.update ≠ .ready) (laws : c.floorLaws = true) :
    c.mgmt.programming = none := by
  rw [Part.floorLaws_iff] at laws
  exact not_not.mp (mt laws.programming update)

/-- A change of the update state outside READY and SWITCHING, of an update that is open. -/
theorem Calm.leaveBusy (h : Calm f a c) {d : Part} {u : UpdateState} {staged : Option Nat}
    (busy : c.store.update = .erasing ∨ c.store.update = .checking)
    (shape : d.control = { c.control with update := u, staged := staged }) (load : d.load = c.load)
    (rises : ∀ v, staged = some v → c.store.staged = some v ∨ c.store.copy.floor ≤ v) : Calm f a d := by
  have isOpen : c.store.update ≠ .idle := by rcases busy with h | h <;> simp [h]
  refine h.setUpdate (p := c.mgmt.programming) shape
    (fun laws => .inl (Part.programming_of_floorLaws ?_ laws)) (fun _ => ?_) (.inr (.inl isOpen))
    (fun v hv => (rises v hv).imp_right fun le => ⟨isOpen, le⟩) (fun _ => Part.boundLaws_of_load load) <;>
  rcases busy with h | h <;> simp [h]

theorem Calm.eraseDone (h : Calm f a c) : Calm f a c.eraseDone := by
  unfold Part.eraseDone
  dsimp only
  split
  next erasing =>
    split
    · refine Calm.updateReport (Calm.updateReport ?_ ..) ..
      refine h.leaveBusy (.inl erasing.1) (u := .idle) (staged := c.store.staged) ?_ ?_ fun _ => .inl <;>
        cases c.store.target <;> rfl
    · refine Calm.updateReport ?_ ..
      refine h.leaveBusy (.inl erasing.1) (u := .ready) (staged := c.store.staged) ?_ ?_ fun _ => .inl <;>
        cases c.store.target <;> rfl
  · exact h

/-- An image that passes the checks has a version that the version check accepts. -/
theorem versionOk_of_checkImage {m : Memory} {ok : Nat → Bool} (staged : checkImage m ok = .staged) :
    ok (imageVersion m) = true := by
  unfold checkImage at staged
  grind

theorem Calm.checkDone (h : Calm f a c) : Calm f a c.checkDone := by
  unfold Part.checkDone
  dsimp only
  split
  next checking =>
    refine Calm.updateReport ?_ ..
    split
    next passed =>
      have rises := versionOk_of_checkImage passed
      refine h.leaveBusy (.inr checking) (u := .ready) (staged := some (imageVersion c.store.targetBank.bytes)) ?_ ?_ ?_
      · cases c.store.target <;> rfl
      · cases c.store.target <;> rfl
      · rintro v ⟨⟩
        exact .inr (of_decide_eq_true rises).le
    · exact h.leaveBusy (.inr checking) (u := .ready) (staged := c.store.staged) rfl rfl fun _ => .inl
  · exact h

/-- An answer takes no place more. -/
theorem Part.respond_control (x : Frame) (k : Status) (data : List Byte) (c : Part) :
    (c.respond x k data).control = c.control := rfl

end Sys2Proof.Machine
end

section
/-! # What no operation breaks: the ends of an update, requests and resets -/
namespace Sys2Proof.Machine

section banks

/-! ### One bank replaced -/

variable (s : Store) (n : BankName) (x : Bank)

@[simp] theorem Store.setBank_record : (s.setBank n x).record = s.record := by cases n <;> rfl

@[simp] theorem Store.setBank_state : (s.setBank n x).state = s.state := by cases n <;> rfl

@[simp] theorem Store.setBank_copy : (s.setBank n x).copy = s.copy := by cases n <;> rfl

@[simp] theorem Store.setBank_recordRead : (s.setBank n x).recordRead = s.recordRead := by cases n <;> rfl

@[simp] theorem Store.setBank_write : (s.setBank n x).write = s.write := by cases n <;> rfl

@[simp] theorem Store.setBank_update : (s.setBank n x).update = s.update := by cases n <;> rfl

@[simp] theorem Store.setBank_switch : (s.setBank n x).switch = s.switch := by cases n <;> rfl

@[simp] theorem Store.setBank_staged : (s.setBank n x).staged = s.staged := by cases n <;> rfl

@[simp] theorem Store.setBank_versionInUse : (s.setBank n x).versionInUse = s.versionInUse := by cases n <;> rfl

@[simp] theorem Store.setBank_eraseEnd : (s.setBank n x).eraseEnd = s.eraseEnd := by cases n <;> rfl

@[simp] theorem Store.setBank_abortPending : (s.setBank n x).abortPending = s.abortPending := by cases n <;> rfl

@[simp] theorem Store.setBank_tamperPending : (s.setBank n x).tamperPending = s.tamperPending := by cases n <;> rfl

@[simp] theorem Store.setBank_tables : (s.setBank n x).tables = s.tables := by cases n <;> rfl

@[simp] theorem Store.setBank_target : (s.setBank n x).target = s.target := by simp [Store.target]

@[simp] theorem Store.bank_setBank_self : (s.setBank n x).bank n = x := by cases n <;> rfl

theorem Store.bank_setBank_of_ne {m : BankName} (other : m ≠ n) : (s.setBank n x).bank m = s.bank m := by
  cases n <;> cases m <;> simp_all [Store.setBank, Store.bank]

/-- The target bank is not the active one (R158). -/
theorem Store.target_ne_active {m : BankName} (active : s.copy.active = some m) : m ≠ s.target := by
  cases m <;> simp [Store.target, active]

end banks

variable {f : Forming} {a c : Part}

/-- The end of a programming frees the place that its response takes. -/
theorem Calm.respondProgrammed (h : Calm f a c) {p : Programming} (programming : c.mgmt.programming = some p) {d : Part}
    (shape : d.control = { c.control with staged := none, programming := none })
    (load : d.load = { c.load with places := d.mgmt.places }) (mgmt : d.mgmt = { c.mgmt with programming := none }) :
    Calm f a (d.respond p.request .ok []) := by
  have drives : d.control.drives = c.control.drives := by rw [shape]
  simp only [Part.control, ControlView.mk.injEq, Prod.mk.injEq] at shape
  obtain ⟨conn, -, power, tripped, latches, events, effective, faultOut, record, copy, isRead, state, tables, write, update,
    stagedNow, switchNow, version, -⟩ := shape
  refine h.keep conn drives (.inl power) (.inl update) (by simp [Part.latched, isRead, copy]) (fun _ laws => ?_)
    (Part.floor_le_of_record record) effective faultOut
    (fun _ => Part.effectiveAction_congr tripped latches events (by simp [power]) tables)
    (fun _ => Part.boundLaws_of_load ?_)
  · constructor
    · simpa [Store.recordAsRead, record, isRead, copy] using laws.copied
    · simpa [Store.recordAsRead, record, isRead, copy, write] using laws.written
    · simp [stagedNow]
    · simp +contextual [state, conn, tables, write, update, isRead, stagedNow, laws.unread]
    · simpa [state, update, version, copy] using laws.configured
    · simpa [state, version] using laws.unconfigured
    · simpa [switchNow, update] using laws.switching
    · simp [mgmt]
  · have places : (d.respond p.request .ok []).mgmt.places = c.mgmt.places := by
      simp [Part.respond, Management.places, mgmt, programming]
      omega
    calc (d.respond p.request .ok []).load
        = { d.load with places := (d.respond p.request .ok []).mgmt.places } := rfl
      _ = c.load := by rw [load, places]; rfl

theorem Calm.programmed (h : Calm .now a c) (q : List Instr) {p : Programming} (programming : c.mgmt.programming = some p) :
    Calm .now a (c.programmed q p) := by
  unfold Part.programmed
  dsimp only
  have answered := h.respondProgrammed programming (d := { c with
    store := { c.store.setBank c.store.target
      { bytes := c.store.targetBank.bytes.writeAll p.offset p.data, state := .written } with staged := none },
    mgmt.programming := none }) (by cases c.store.target <;> rfl) (by cases c.store.target <;> rfl) rfl
  generalize made : Part.respond .. = c2 at answered ⊢
  have idle : c2.mgmt.programming = none := by rw [← made]; rfl
  have ended : Calm .now a (if c2.store.abortPending = true then c2.abortUpdate else c2) := by
    split
    · refine answered.abortUpdate idle ?_
      intro laws switching
      have ready := (Part.floorLaws_iff c).mp (h.floors laws) |>.programming (by simp [programming])
      rw [← made] at switching
      cases target : c.store.target <;> simp [Part.respond, Store.setBank, target, ready] at switching
    · exact answered
  revert ended
  generalize (if c2.store.abortPending = true then c2.abortUpdate else c2) = c3
  intro ended
  split
  · refine Calm.setTamper ?_ q
    exact ended.quiet rfl rfl
  · exact ended

/-! ### The record write and the switch -/

/-- While a record is being written, its floor lies between that in memory and that of the copy. -/
theorem FloorLaws.writing_floor (laws : FloorLaws c) {r : ServiceRecord} {t : Time}
    (writing : c.store.write.current = some (r, t)) :
    c.store.recordAsRead.floor ≤ r.floor ∧ r.floor ≤ c.store.copy.floor := by
  obtain read | unread := Bool.eq_false_or_eq_true c.store.recordRead
  · exact laws.written read r t writing
  · obtain ⟨-, -, -, idle, -⟩ := laws.unread unread
    simp [idle, RecordWrite.current] at writing

/-- The record of a write that completes: what was being written is now in memory, and the next write has the fields of
the copy. -/
theorem FloorLaws.recordWritten (laws : FloorLaws c) {r : ServiceRecord} {done : Time} {next : RecordWrite}
    (writing : c.store.write.current = some (r, done))
    (goes : next = .idle ∨ ∃ t, next = .inProgress c.store.copy t) {phase : SwitchPhase}
    (phases : phase ≠ .none → c.store.switch ≠ .none) {staged : Option Nat} (kept : staged = none ∨ staged = c.store.staged)
    {d : Part} (shape : d.control = { c.control with record := some r, write := next, switch := phase, staged := staged }) :
    FloorLaws d := by
  have read : c.store.recordRead = true := by
    by_contra unread
    obtain ⟨-, -, -, idle, -⟩ := laws.unread (Bool.eq_false_iff.mpr unread)
    simp [idle, RecordWrite.current] at writing
  have written := laws.written read r done writing
  simp only [Part.control, ControlView.mk.injEq, Prod.mk.injEq] at shape
  obtain ⟨-, -, -, -, -, -, -, -, record, copy, isRead, state, -, write, update, stagedNow, switchNow, version,
    programming⟩ := shape
  constructor
  · simpa [Store.recordAsRead, record, copy] using fun _ => written.2
  · intro _ f t next
    rw [write] at next
    obtain rfl | ⟨t, rfl⟩ := goes
    · simp [RecordWrite.current] at next
    · obtain ⟨rfl, -⟩ : c.store.copy = f ∧ _ := by simpa [RecordWrite.current] using next
      simpa [Store.recordAsRead, record, copy] using written.2
  · intro _ v hv
    rw [copy]
    obtain rfl | rfl := kept
    · simp [stagedNow] at hv
    · exact laws.staged read v (stagedNow ▸ hv)
  · simp [isRead, read]
  · simpa [state, update, version, copy] using laws.configured
  · simpa [state, version] using laws.unconfigured
  · rw [switchNow, update]
    exact fun phase => laws.switching (phases phase)
  · simpa [programming, update] using laws.programming

/-- The record write that follows a completed one (R161). -/
def Part.nextWrite (c : Part) : RecordWrite :=
  match c.store.write with
  | .inProgressWaiting _ _ => .inProgress c.store.copy (later c.now 6000)
  | .idle | .inProgress _ _ => .idle

theorem Part.nextWrite_eq (c : Part) : c.nextWrite = .idle ∨ ∃ t, c.nextWrite = .inProgress c.store.copy t := by
  cases write : c.store.write <;> simp [Part.nextWrite, write]

/-- A write in progress whose end is reached leaves its record in memory, and the switch goes on by its phase. -/
theorem Part.recordWritten_of_current {r : ServiceRecord} {done : Time}
    (writing : c.store.write.current = some (r, done)) : c.recordWritten =
      if atOrAfter c.now done then
        match c.store.switch with
        | .writing => Part.switchWritten { c with store.record := some r, store.write := c.nextWrite }
        | .waiting => { c with store.record := some r, store.write := c.nextWrite, store.switch := .writing }
        | .none | .loading _ => { c with store.record := some r, store.write := c.nextWrite }
      else c := by
  have next : c.nextWrite = match c.store.write with
      | .inProgressWaiting _ _ => .inProgress c.store.copy (later c.now 6000)
      | .idle => .idle
      | .inProgress _ _ => .idle := by
    cases write : c.store.write <;> simp [Part.nextWrite, write]
  unfold Part.recordWritten
  rw [writing, next] <;> dsimp only <;> cases c.store.switch <;> rfl

theorem Calm.recordWritten (h : Calm f a c) : Calm f a c.recordWritten := by
  have keep {r : ServiceRecord} {done : Time} {next : RecordWrite} {phase : SwitchPhase} {staged : Option Nat} {d : Part}
      (writing : c.store.write.current = some (r, done))
      (goes : next = .idle ∨ ∃ t, next = .inProgress c.store.copy t)
      (phases : phase ≠ .none → c.store.switch ≠ .none) (kept : staged = none ∨ staged = c.store.staged)
      (shape : d.control = { c.control with record := some r, write := next, switch := phase, staged := staged })
      (load : d.load = c.load) : Calm f a d := by
    refine h.keep (congrArg (·.conn) shape) (by rw [shape]) (.inl (congrArg (·.power) shape))
      (.inl (congrArg (·.update) shape)) ?_ (fun _ laws => laws.recordWritten writing goes phases kept shape) (fun laws => ?_)
      (congrArg (·.effective) shape) (congrArg (·.faultOut) shape) (fun _ => ?_) (fun _ => Part.boundLaws_of_load load)
    · intro latched
      rw [Part.latched, show d.store.recordRead = _ from congrArg (·.recordRead) shape,
        show d.store.copy = _ from congrArg (·.copy) shape]
      exact latched
    · rw [Part.floorLaws_iff] at laws
      simpa [Store.recordAsRead, show d.store.record = _ from congrArg (·.record) shape] using (laws.writing_floor writing).1
    · exact Part.effectiveAction_congr (congrArg (·.tripped) shape) (congrArg (·.latches) shape)
        (congrArg (·.eventClasses) shape) (by rw [show d.power.state = _ from congrArg (·.power) shape]; rfl)
        (congrArg (·.tables) shape)
  cases writing : c.store.write.current with
  | none => simpa [Part.recordWritten, writing] using h
  | some current =>
    obtain ⟨r, done⟩ := current
    rw [Part.recordWritten_of_current writing]
    split
    · have goes := c.nextWrite_eq
      generalize c.nextWrite = next at goes ⊢
      split
      next phase =>
        unfold Part.switchWritten
        dsimp only
        split
        · exact keep (staged := none) writing goes (by simp [phase]) (.inl rfl) rfl rfl
        next n _ =>
          refine keep (phase := .loading (laterMs c.now 2)) (staged := none) writing goes (by simp [phase]) (.inl rfl) ?_ ?_ <;>
          cases n <;> rfl
      next phase => exact keep writing goes (phase := .writing) (by simp [phase]) (.inr rfl) rfl rfl
      next => exact keep writing goes id (.inr rfl) rfl rfl
      next => exact keep writing goes id (.inr rfl) rfl rfl
    · exact h

theorem Calm.switchStart (h : Calm f a c) : Calm f a c.switchStart := by
  unfold Part.switchStart
  dsimp only
  split
  next ready =>
    have pending : c.store.update = .commitPending := by
      simp only [Part.switchReady, Bool.and_eq_true, decide_eq_true_eq] at ready
      exact ready.1.1
    have read (laws : FloorLaws c) : c.store.recordRead = true := laws.read_of_lt (by simp [pending])
    refine Calm.requestWrite ?_ fun laws => read ((Part.floorLaws_iff c).mp (h.floors laws))
    refine h.keep rfl rfl (.inl rfl) (.inr (.inr (.inl (by simp [pending])))) id (fun _ laws => ?_)
      (Part.floor_le_of_record rfl) rfl rfl (fun _ => rfl) (fun _ => Part.boundLaws_of_load rfl)
    have rises : c.store.copy.floor ≤ c.store.staged.getD c.store.copy.floor := by
      cases staged : c.store.staged with
      | none => simp
      | some v => exact laws.staged (read laws) v staged
    constructor
    · exact fun isRead => (laws.copied isRead).trans rises
    · exact fun isRead r done writing =>
        ⟨(laws.written isRead r done writing).1, (laws.written isRead r done writing).2.trans rises⟩
    · intro _ v staged
      simp [show c.store.staged = some v from staged]
    · simp [read laws]
    · exact fun _ => .inl rfl
    · exact laws.unconfigured
    · exact fun _ => rfl
    · intro programming
      have := laws.programming programming
      simp [pending] at this
  · exact h

/-! ### Tables newly in use: the boot and the end of a switch -/

/-- The tables in use, the store state and the version in use, replaced together once the record has been read; the
effective action is still to be formed. -/
theorem Calm.newTables (h : Calm f a c) {d : Part} {k : StoreState} {tables : Tables} {v : Option Nat}
    (shape : d.control = { c.control with storeState := k, tables := tables, versionInUse := v }) (load : d.load = c.load)
    (read : a.floorLaws = true → c.store.recordRead = true)
    (version : a.floorLaws = true → c.floorLaws = true →
      (k = .configured → v = some c.store.copy.floor) ∧ (k ≠ .configured → v = none)) : Calm .later a d := by
  have drives : d.control.drives = c.control.drives := by rw [shape]
  simp only [Part.control, ControlView.mk.injEq, Prod.mk.injEq] at shape
  obtain ⟨conn, -, power, tripped, latches, events, effective, faultOut, record, copy, isRead, state, -, write, update,
    staged, switch, versionNow, programming⟩ := shape
  refine h.later.keep conn drives (.inl power) (.inl update) (by simp [Part.latched, isRead, copy]) (fun start laws => ?_)
    (Part.floor_le_of_record record) effective faultOut nofun (fun _ => Part.boundLaws_of_load load)
  obtain ⟨configured, unconfigured⟩ := version start ((Part.floorLaws_iff c).mpr laws)
  constructor
  · simpa [Store.recordAsRead, record, isRead, copy] using laws.copied
  · simpa [Store.recordAsRead, record, isRead, copy, write] using laws.written
  · simpa [isRead, copy, staged] using laws.staged
  · simp [isRead, read start]
  · rw [state, versionNow, copy]
    exact fun is => .inr (configured is)
  · rw [state, versionNow]
    exact unconfigured
  · simpa [switch, update] using laws.switching
  · simpa [programming, update] using laws.programming

theorem Calm.boot (h : Calm .now a c) : Calm .now a c.boot := by
  unfold Part.boot
  dsimp only
  split
  next loading =>
    refine Calm.handFill (Calm.refreshAction ?_)
    have booted (k : StoreState) (tables : Tables) (v : Option Nat) (d : Part)
        (shape : d.control = { c.readRecord.control with storeState := k, tables := tables, versionInUse := v })
        (load : d.load = c.readRecord.load)
        (version : c.readRecord.floorLaws = true →
          (k = .configured → v = some c.readRecord.store.copy.floor) ∧ (k ≠ .configured → v = none)) : Calm .later a d :=
      h.readRecord.newTables shape load (fun _ => c.readRecord_read) fun _ => version
    have empty (laws : c.readRecord.floorLaws = true) : c.readRecord.store.versionInUse = none :=
      ((Part.floorLaws_iff _).mp laws).unconfigured (by simp [loading])
    unfold Store.bootTables
    split
    · exact booted .unconfigured Tables.empty c.readRecord.store.versionInUse _ rfl rfl fun laws =>
        ⟨by simp, fun _ => empty laws⟩
    next n _ =>
      dsimp only
      split
      next passed =>
        refine booted .configured _ _ _ rfl rfl fun _ => ⟨fun _ => ?_, by simp⟩
        simpa [Store.findBanks] using versionOk_of_checkImage passed
      · exact booted .unconfigured Tables.empty c.readRecord.store.versionInUse _ rfl rfl fun laws =>
          ⟨by simp, fun _ => empty laws⟩
  · exact h

theorem Calm.switchTables (h : Calm .later a c) : Calm f a c.switchTables := by
  unfold Part.switchTables
  refine Calm.refreshAction (Calm.identityCheck ?_)
  exact h.removeRecords.objectsToNormal.count rfl rfl (fun _ => .inl) (.inl rfl)
    fun n zero => .inr ((Vector.eq_of_mem_replicate zero).le.trans (Nat.zero_le _))

/-- The end of a switch. -/
theorem Calm.endSwitch (h : Calm f a c) {d : Part}
    (shape : d.control = { c.control with update := .idle, switch := .none }) (load : d.load = c.load)
    (switching : c.floorLaws = true → c.store.update = .switching)
    (version : c.floorLaws = true → c.store.state = .configured → c.store.versionInUse = some c.store.copy.floor) :
    Calm f a d := by
  have drives : d.control.drives = c.control.drives := by rw [shape]
  simp only [Part.control, ControlView.mk.injEq, Prod.mk.injEq] at shape
  obtain ⟨conn, -, power, tripped, latches, events, effective, faultOut, record, copy, isRead, state, tables, write, update,
    staged, switch, versionNow, programming⟩ := shape
  refine h.keep conn drives (.inl power) (.inr (.inl update)) (by simp [Part.latched, isRead, copy]) (fun _ laws => ?_)
    (Part.floor_le_of_record record) effective faultOut
    (fun _ => Part.effectiveAction_congr tripped latches events (by rw [power]) tables)
    (fun _ => Part.boundLaws_of_load load)
  have proved := (Part.floorLaws_iff c).mpr laws
  constructor
  · simpa [Store.recordAsRead, record, isRead, copy] using laws.copied
  · simpa [Store.recordAsRead, record, isRead, copy, write] using laws.written
  · simpa [isRead, copy, staged] using laws.staged
  · intro unread
    have := laws.unread (isRead ▸ unread)
    simp [switching proved] at this
  · rw [state, versionNow, copy]
    exact fun is => .inr (version proved is)
  · rw [state, versionNow]
    exact laws.unconfigured
  · simp [switch]
  · intro programs
    have := laws.programming (programming ▸ programs)
    simp [switching proved] at this

theorem Calm.switchDone (h : Calm f a c) (n : BankName) (loading : c.store.switch ≠ .none) : Calm f a (c.switchDone n) := by
  have read (laws : a.floorLaws = true) : c.store.recordRead = true := by
    have := (Part.floorLaws_iff c).mp (h.floors laws)
    exact this.read_of_lt (by simp [this.switching loading])
  have replaced : Calm .later a { c with
      store.tables := loadTables (c.store.bank n).bytes, store.state := .configured,
      store.versionInUse := some c.store.copy.floor } :=
    h.newTables (k := .configured) (tables := loadTables (c.store.bank n).bytes) rfl rfl read fun _ _ => by simp
  have checked : Calm f a _ := replaced.switchTables
  unfold Part.switchDone
  dsimp only
  generalize tablesDone : Part.switchTables _ = c1 at checked ⊢
  have switching : c1.store.switch ≠ .none := by simpa [← tablesDone] using loading
  have version : c1.store.versionInUse = some c1.store.copy.floor := by simp [← tablesDone]
  clear tablesDone
  have started : Calm f a (Part.startNormalRun false
      { c1.handFill with sched.hold := false, sched.holdInEffect := false }) := by
    refine Calm.startNormalRun ?_ false
    exact checked.quiet rfl rfl
  generalize begun : Part.startNormalRun _ _ = c2 at started ⊢
  refine Calm.updateReport ?_ ..
  refine started.endSwitch rfl rfl (fun laws => ?_) fun _ _ => ?_
  · exact ((Part.floorLaws_iff c2).mp laws).switching (by simpa [← begun] using switching)
  · simpa [← begun] using version

theorem Calm.switchFailed (h : Calm f a c) (n : BankName) (loading : c.store.switch ≠ .none) :
    Calm f a (c.switchFailed n) := by
  have read (laws : a.floorLaws = true) : c.store.recordRead = true := by
    have := (Part.floorLaws_iff c).mp (h.floors laws)
    exact this.read_of_lt (by simp [this.switching loading])
  have replaced : Calm .later a { c with
      store.tables := Tables.empty, store.state := .unconfigured, store.versionInUse := none } :=
    h.newTables (k := .unconfigured) (tables := Tables.empty) rfl rfl read fun _ _ => by simp
  have checked : Calm f a _ := replaced.switchTables
  unfold Part.switchFailed
  dsimp only
  generalize tablesDone : Part.switchTables _ = c1 at checked ⊢
  have switching : c1.store.switch ≠ .none := by simpa [← tablesDone] using loading
  have state : c1.store.state = .unconfigured := by simp [← tablesDone]
  clear tablesDone
  have told : Calm f a (Part.eventClass .configSwitch (Part.endRun
      { c1.handFill with sched.hold := false, sched.holdInEffect := false, sched.state := .stopped })) := by
    refine Calm.eventClass (Calm.endRun ?_) _
    exact checked.quiet rfl rfl
  generalize raised : Part.eventClass _ _ = c2 at told ⊢
  refine Calm.updateReport ?_ ..
  refine told.endSwitch rfl rfl (fun laws => ?_) fun _ configured => ?_
  · exact ((Part.floorLaws_iff c2).mp laws).switching (by simpa [← raised] using switching)
  · rw [← raised] at configured
    simp [state] at configured

theorem Calm.loadDone (h : Calm f a c) : Calm f a c.loadDone := by
  unfold Part.loadDone
  split
  next loading _ =>
    split
    · split
      · exact h.switchDone _ (by simp [loading])
      · exact h.switchFailed _ (by simp [loading])
    · exact h
  · exact h

/-! ### The management engine -/

theorem Calm.acceptRequest (h : Calm .now a c) (x : Frame) : Calm .now a (c.acceptRequest x) := by
  unfold Part.acceptRequest
  dsimp only
  split
  next room =>
    have joined : Calm .now a { c with mgmt.requests := c.mgmt.requests ++ [x] } := by
      refine h.trans (.of_control rfl fun laws => ?_)
      rw [Part.boundLaws_iff] at laws ⊢
      refine { laws with places := ?_ }
      simp only [Management.places, List.length_append, List.length_singleton] at room ⊢
      omega
    have cleared := joined.clearSilence
    generalize Part.clearSilence _ = c1 at cleared ⊢
    split
    · exact cleared.restartSupervision.quiet rfl rfl
    · exact cleared.quiet rfl rfl
  · exact h.count rfl rfl (by simp [Part.counters, bump16_le]) (.inl rfl) fun _ => .inl

/-- The heads that the north transmit arbiter takes leave their queues shorter. -/
theorem Calm.northTransmit (h : Calm f a c) : Calm f a c.northTransmit := by
  refine h.trans (.of_control ?_ fun laws => ?_)
  · unfold Part.northTransmit Part.noteRestart
    repeat' split
    all_goals rfl
  · unfold Part.northTransmit
    rw [Part.boundLaws_iff] at laws
    split
    · exact (Part.boundLaws_iff c).mpr laws
    split
    next r rest responses =>
      have shorter : { c with mgmt.responses := rest }.boundLaws = true := by
        rw [Part.boundLaws_iff]
        have places := laws.places
        refine { laws with places := ?_ }
        simp only [Management.places, responses, List.length_cons] at places ⊢
        omega
      unfold Part.noteRestart
      split
      · exact Part.boundLaws_of_load rfl shorter
      · exact Part.boundLaws_of_load rfl shorter
    split
    next e rest forward =>
      refine Part.boundLaws_of_load (c := { c with router.forward := rest }) rfl ?_
      rw [Part.boundLaws_iff]
      have tail : rest.Sublist c.router.forward := forward ▸ List.sublist_cons_self e rest
      exact { laws with
        load := (Nat.add_le_add_left (tail.filter _).length_le _).trans laws.load
        refusals := (tail.filter _).length_le.trans laws.refusals }
    split
    next q rest _ queue =>
      refine Part.boundLaws_of_load (c := { c with reports.queue := rest }) rfl ?_
      rw [Part.boundLaws_iff]
      have tail : rest.Sublist c.reports.queue := queue ▸ List.sublist_cons_self q rest
      exact { laws with
        queue := ⟨tail.length_le.trans laws.queue.1, (tail.filter _).length_le.trans laws.queue.2⟩ }
    · exact (Part.boundLaws_iff c).mpr laws

theorem Calm.receiveNorth (h : Calm .now a c) (q : List Instr) (r : Reception) : Calm .now a (c.receiveNorth q r) := by
  unfold Part.receiveNorth
  split
  · split
    · exact h.count rfl rfl (by simp [Part.counters, bump16_le]) (.inl rfl) fun _ => .inl
    · exact h.kindDiscard
    · exact h.acceptRequest _
    · exact h.admitCommand _
    · exact h.admitBroadcast _
  · exact h.northActivity q

theorem Calm.tick (h : Calm f a c) : Calm f a c.tick := by
  unfold Part.tick
  dsimp only
  split <;> exact h.quiet rfl rfl

/-! ### Requests -/

/-- A change that moves nothing but what the bounds read, and keeps the bounds of the part that the chain began with. -/
theorem Calm.of_bounds (h : Calm f a c) {d : Part} (control : d.control = c.control)
    (bounds : a.boundLaws = true → d.boundLaws = true) : Calm f a d := by
  have conn : d.seq.conn = c.seq.conn := congrArg (·.conn) control
  have drives : d.control.drives = c.control.drives := by rw [control]
  have power : d.power.state = c.power.state := congrArg (·.power) control
  have read : d.store.recordRead = c.store.recordRead := congrArg (·.recordRead) control
  have copy : d.store.copy = c.store.copy := congrArg (·.copy) control
  have record : d.store.record = c.store.record := congrArg (·.record) control
  simp only [Part.control, Prod.mk.injEq] at drives
  exact
    { bounds
      contactors := fun laws => Part.contactorLaws_of_control control (h.contactors laws)
      atRest := fun rest => conn ▸ h.atRest rest
      lockedOut := fun locked => conn.trans (h.lockedOut locked)
      mainOpen := fun main => by simpa only [Part.mainOpen, conn, drives] using h.mainOpen main
      active := fun active => power.trans (h.active active)
      latched := fun latched => by simpa only [Part.latched, read, copy] using h.latched latched
      floors := fun laws => Part.floorLaws_of_control control (h.floors laws)
      record := fun laws => (h.record laws).trans (Part.floor_le_of_record record (h.floors laws))
      formed := fun now formed => Part.formed_of_control control (h.formed now formed)
      levelled := fun levelled => Part.levelled_of_control control (h.levelled levelled) }

/-- What `serve` has checked when a request's own rule runs on `c`: a place is free for the answer, no programming is in
progress, and the record has been read unless the request is STATUS (R183). -/
structure Serving (r : Request) (a c : Part) : Prop where
  calm : Calm .now a c
  room : a.boundLaws = true → c.mgmt.places < 4
  idle : c.mgmt.programming = none
  loaded : r ≠ .status → c.store.state ≠ .loading

theorem Part.headRequest_eq_some {x : Frame} (h : c.headRequest = some x) :
    c.mgmt.programming = none ∧ c.mgmt.requests.head? = some x := by
  unfold Part.headRequest at h
  split at h
  · cases h
  next free => exact ⟨by simpa using (not_or.mp free).1, h⟩

/-- What the engine does with a row: nothing, a refusal, or the request's own rule (R183). -/
theorem Part.serve_cases (r : Request) (rule : Frame → Part → Part) (c : Part) :
    c.serve r rule = c ∨ ∃ x, c.headRequest = some x ∧
      ((∃ k, c.serve r rule = c.popRequest.respond x k []) ∨
        c.serve r rule = rule x c.popRequest ∧ (r ≠ .status → c.store.state ≠ .loading)) := by
  unfold Part.serve
  split
  · exact .inl rfl
  next x head =>
    split
    · exact .inl rfl
    · refine .inr ⟨x, head, ?_⟩
      split
      · exact .inl ⟨_, rfl⟩
      next loaded =>
        split
        · exact .inl ⟨_, rfl⟩
        · exact .inr ⟨rfl, fun notStatus loading => loaded ⟨loading, notStatus⟩⟩

/-- A request that leaves its place. -/
theorem Part.popRequest_places {x : Frame} (head : c.headRequest = some x) :
    c.popRequest.mgmt.places + 1 = c.mgmt.places := by
  have := (Part.headRequest_eq_some head).2
  cases requests : c.mgmt.requests with
  | nil => simp [requests] at this
  | cons y rest =>
    simp only [Part.popRequest, Management.places, requests, List.drop_one, List.tail_cons, List.length_cons]
    omega

theorem Part.serving_popRequest {x : Frame} {r : Request} (head : c.headRequest = some x)
    (loaded : r ≠ .status → c.store.state ≠ .loading) : Serving r c c.popRequest := by
  have places := c.popRequest_places head
  refine ⟨.of_control rfl fun laws => ?_, fun laws => ?_, (Part.headRequest_eq_some head).1, loaded⟩
  · rw [Part.boundLaws_iff] at laws ⊢
    have := laws.places
    exact { laws with places := by omega }
  · have := ((Part.boundLaws_iff c).mp laws).places
    omega

/-- An answer takes the place that is free. -/
theorem Calm.answer (h : Calm f a c) (room : a.boundLaws = true → c.mgmt.places < 4)
    (x : Frame) (k : Status) (data : List Byte) : Calm f a (c.respond x k data) := by
  refine h.of_bounds rfl fun laws => ?_
  have free := room laws
  have laws := h.bounds laws
  rw [Part.boundLaws_iff] at laws ⊢
  refine { laws with places := ?_ }
  simp only [Part.respond, Management.places, List.length_append, List.length_singleton] at free ⊢
  split at free <;> rename_i programming <;> simp only [programming, if_true, Bool.false_eq_true, if_false] <;> omega

/-- A row whose own rule is calm is calm. -/
theorem Part.serve_calm {r : Request} {rule : Frame → Part → Part}
    (calm : ∀ x c, Serving r a c → Calm .now a (rule x c)) : Calm .now a (a.serve r rule) := by
  obtain same | ⟨x, head, ⟨k, refused⟩ | ⟨ruled, loaded⟩⟩ := a.serve_cases r rule
  · rw [same]
    exact .refl ..
  · rw [refused]
    have popped := Part.serving_popRequest (r := .status) head (absurd rfl)
    exact popped.calm.answer popped.room ..
  · rw [ruled]
    exact calm _ _ (Part.serving_popRequest head loaded)

theorem Part.serveUnknown_calm (c : Part) : Calm .now c c.serveUnknown := by
  unfold Part.serveUnknown
  split
  · exact .refl ..
  next x head =>
    split
    · have popped := Part.serving_popRequest (r := .status) head (absurd rfl)
      exact popped.calm.answer popped.room ..
    · exact .refl ..

section rules

variable {r : Request} (x : Frame)

theorem Serving.answer (h : Serving r a c) (k : Status) (data : List Byte) : Calm .now a (c.respond x k data) :=
  h.calm.answer h.room x k data

theorem Serving.doStatus (h : Serving r a c) : Calm .now a (c.doStatus x) := (h.answer x _ _).quiet rfl rfl

theorem Serving.doReadCounters (h : Serving r a c) : Calm .now a (c.doReadCounters x) := by
  unfold Part.doReadCounters
  dsimp only
  split
  · refine (h.answer x .ok c.countersData).count rfl rfl ?_ (.inr (Nat.zero_le _)) ?_
    · simp [Part.counters, Part.clearCounters]
    · exact fun n zero => .inr ((Vector.eq_of_mem_replicate zero).le.trans (Nat.zero_le _))
  · exact h.answer x ..

theorem Serving.doReadImage (h : Serving r a c) : Calm .now a (c.doReadImage x) := by
  unfold Part.doReadImage
  split <;> exact h.answer x ..

theorem Serving.doResetSouth (h : Serving r a c) : Calm .now a (c.doResetSouth x) :=
  h.calm.resetSouth.answer (by simpa using h.room) ..

theorem Serving.doRestart (h : Serving r a c) : Calm .now a (c.doRestart x) := by
  unfold Part.doRestart
  split
  · refine (h.answer x .ok []).quiet rfl ?_
    simp only [Part.load, Part.respond, Management.places, List.length_append, List.length_singleton]
    rfl
  · exact h.answer x ..

theorem Serving.doReadFaults (h : Serving r a c) : Calm .now a (c.doReadFaults x) := by
  let start := (x.byte 1).toNat
  have thinned : (c.eval.records.take start ++ ((c.eval.records.drop start).take 3).filter (·.active) ++
      c.eval.records.drop (start + 3)).Sublist c.eval.records := by
    have parts : c.eval.records.take start ++ (c.eval.records.drop start).take 3 ++ c.eval.records.drop (start + 3) =
        c.eval.records := by
      rw [← List.drop_drop, List.append_assoc, List.take_append_drop, List.take_append_drop]
    conv_rhs => rw [← parts]
    exact ((List.Sublist.refl _).append List.filter_sublist).append (List.Sublist.refl _)
  exact (h.answer x .ok _).setRecords (.inl thinned.length_le) fun keys => keys.sublist thinned

theorem Serving.doAckFaults (h : Serving r a c) : Calm .now a (c.doAckFaults x) :=
  (h.calm.ackFaults _).answer (by simpa using h.room) ..

theorem Serving.doReadEvents (h : Serving r a c) : Calm .now a (c.doReadEvents x) := by
  refine (h.answer x .ok _).trans (.of_control rfl fun laws => ?_)
  rw [Part.boundLaws_iff] at laws ⊢
  exact { laws with events := (List.drop_sublist 3 _).length_le.trans laws.events }

theorem Serving.doDisconnect (h : Serving r a c) : Calm .now a (c.doDisconnect x) :=
  h.calm.softDisconnect.answer (by simpa using h.room) ..

theorem Serving.doDisconnectNow (h : Serving r a c) : Calm .now a (c.doDisconnectNow x) :=
  h.calm.hardDisconnect.answer (by simpa using h.room) ..

theorem Serving.doScheduleStart (h : Serving r a c) : Calm .now a (c.doScheduleStart x) := by
  unfold Part.doScheduleStart
  split
  · refine Calm.answer (Calm.startNormalRun ?_ false) (by simpa using h.room) ..
    exact h.calm.quiet rfl rfl
  · exact h.answer x ..

theorem Serving.doScheduleStop (h : Serving r a c) : Calm .now a (c.doScheduleStop x) := by
  unfold Part.doScheduleStop
  dsimp only
  split
  · refine Calm.answer (Calm.endNormalRun ?_) (by simpa using h.room) ..
    exact h.calm.quiet rfl rfl
  · exact h.answer x ..

/-- The times of the contactors are nothing that the laws speak of. -/
theorem RecordWrite.move_current (d : BitVec 32) (w : RecordWrite) {r : ServiceRecord} {t : Time}
    (moved : (w.move d).current = some (r, t)) : ∃ t', w.current = some (r, t') := by
  cases w <;> simp_all [RecordWrite.move, RecordWrite.current]

theorem Calm.setTime (h : Calm f a c) (v : Time) : Calm f a (c.setTime v) := by
  refine h.keep (by simp) rfl (.inl (by simp)) (.inl (by simp)) (by simp [Part.latched]) (fun _ laws => ?_)
    (Part.floor_le_of_record (by simp)) rfl rfl (fun _ => ?_) fun _ laws => ?_
  · constructor
    · simpa [Store.recordAsRead] using laws.copied
    · intro read r t writing
      obtain ⟨t', before⟩ := RecordWrite.move_current _ _ writing
      simpa [Store.recordAsRead] using laws.written (by simpa using read) r t' before
    · simpa using laws.staged
    · intro unread
      obtain ⟨loading, opened, interlock, idle, rest⟩ := laws.unread (by simpa using unread)
      refine ⟨loading, opened, interlock, ?_, rest⟩
      simp [Part.setTime, idle, RecordWrite.move]
    · simpa using laws.configured
    · simpa using laws.unconfigured
    · intro switching
      refine laws.switching fun none => switching ?_
      simp [Part.setTime, none, SwitchPhase.move]
    · simpa [Part.setTime] using laws.programming
  · apply Part.effectiveAction_congr <;> simp [Part.setTime]
  · rw [Part.boundLaws_iff] at laws ⊢
    refine { laws with load := ?_, sequences := ?_ }
    · simpa [Router.trackedLoad, Part.setTime] using laws.load
    · exact List.pairwise_map.mpr laws.sequences

theorem Serving.doSetTime (h : Serving r a c) : Calm .now a (c.doSetTime x) := by
  unfold Part.doSetTime
  split
  · exact (h.calm.setTime _).answer h.room ..
  · exact h.answer x ..

theorem Part.openStatus_eq_ok (open' : c.openStatus = .ok) : c.power.state = .active ∧ c.store.update = .idle ∧
    c.seq.conn.atRest = true ∧ c.lines.serviceIn = true ∧ c.store.copy.tamper = false := by
  unfold Part.openStatus at open'
  grind

/-- The record has been read once the store is not LOADING. -/
theorem Part.recordRead_of_floorLaws (loaded : c.store.state ≠ .loading) (laws : c.floorLaws = true) :
    c.store.recordRead = true := by
  by_contra unread
  exact loaded (((Part.floorLaws_iff c).mp laws).unread (Bool.eq_false_iff.mpr unread)).1

theorem Serving.doUpdOpen (h : Serving .updOpen a c) : Calm .now a (c.doUpdOpen x) := by
  unfold Part.doUpdOpen
  dsimp only
  split
  next opens =>
    obtain ⟨-, idle, rest, -⟩ := Part.openStatus_eq_ok opens
    refine Calm.answer ?_ (by exact h.room) ..
    exact h.calm.setUpdate rfl (fun _ => .inr rfl) (fun _ => by simp [idle])
      (.inr (.inr ⟨rest, Part.recordRead_of_floorLaws (h.loaded (by decide))⟩)) (fun _ => .inl) (fun _ => Part.boundLaws_of_load rfl)
  · exact h.answer x ..

theorem UpdateState.gate_eq_ok {u : UpdateState} (ready : u.gate = .ok) : u = .ready := by
  cases u <;> simp_all [UpdateState.gate]

/-- A request of the update that moves it on from READY. -/
theorem Serving.leaveReady (h : Serving r a c) (ready : c.store.update = .ready) {d : Part} {u : UpdateState}
    {staged : Option Nat} (shape : d.control = { c.control with update := u, staged := staged })
    (load : d.load = c.load) (kept : staged = none ∨ staged = c.store.staged) : Calm .now a d := by
  refine h.calm.setUpdate (p := c.mgmt.programming) shape (fun _ => .inl h.idle) (fun _ => by simp [ready])
    (.inr (.inl (by simp [ready]))) (fun v hv => .inl ?_) (fun _ => Part.boundLaws_of_load load)
  obtain rfl | rfl := kept
  · cases hv
  · exact hv

theorem Serving.doUpdErase (h : Serving r a c) : Calm .now a (c.doUpdErase x) := by
  unfold Part.doUpdErase
  split
  next ready =>
    refine Calm.answer ?_ (by exact h.room) ..
    exact h.leaveReady (UpdateState.gate_eq_ok ready) (u := .erasing) (staged := none) rfl rfl (.inl rfl)
  · exact h.answer x ..

theorem Serving.doUpdWrite (h : Serving r a c) : Calm .now a (c.doUpdWrite x) := by
  unfold Part.doUpdWrite
  split
  next gate =>
    have ready := UpdateState.gate_eq_ok gate
    split
    · refine h.calm.setUpdate (p := some { seq := x.seq, offset := x.field 1 2, data := x.payload.drop 4 }) rfl
        (fun _ => .inr ready) (fun _ => by simp [ready]) (.inr (.inl (by simp [ready]))) (fun _ => .inl) fun start laws => ?_
      have free := h.room start
      rw [Part.boundLaws_iff] at laws ⊢
      refine { laws with places := ?_ }
      simp only [Management.places, h.idle, Option.isSome_none, Bool.false_eq_true, if_false, Option.isSome_some,
        if_true] at free ⊢
      omega
    · exact h.answer x ..
  · exact h.answer x ..

theorem Serving.doUpdCheck (h : Serving r a c) : Calm .now a (c.doUpdCheck x) := by
  unfold Part.doUpdCheck
  split
  next ready =>
    split
    · refine Calm.answer ?_ (by exact h.room) ..
      exact h.leaveReady (UpdateState.gate_eq_ok ready) (u := .checking) rfl rfl (.inr rfl)
    · exact h.answer x ..
  · exact h.answer x ..

theorem Serving.doUpdCommit (h : Serving r a c) : Calm .now a (c.doUpdCommit x) := by
  unfold Part.doUpdCommit
  split
  next ready =>
    split
    · refine Calm.answer ?_ (by exact h.room) ..
      exact h.leaveReady (UpdateState.gate_eq_ok ready) (u := .commitPending) rfl rfl (.inr rfl)
    · exact h.answer x ..
  · exact h.answer x ..

theorem Serving.doUpdAbort (h : Serving r a c) : Calm .now a (c.doUpdAbort x) := by
  have ended (busy : c.store.update ≠ .switching) : Calm .now a { c with store.update := .idle } :=
    h.calm.setUpdate (p := c.mgmt.programming) rfl (fun _ => .inl h.idle) (fun _ => busy) (.inl rfl) (fun _ => .inl)
      (fun _ => Part.boundLaws_of_load rfl)
  unfold Part.doUpdAbort
  split
  · exact h.answer x ..
  next state => exact (ended (by simp [state])).answer (by exact h.room) ..
  next state => exact (ended (by simp [state])).answer (by exact h.room) ..
  next state => exact (ended (by simp [state])).releaseHold.answer (by simpa using h.room) ..
  all_goals exact h.answer x ..

end rules

end Sys2Proof.Machine
end

section
/-! # The laws in every step

Every command but a few is calm. Those few leave a state that only they may leave, and keep the laws all the same. -/
namespace Sys2Proof.Machine

variable {f : Forming} {a c d : Part}

/-- What every command keeps: the laws, and the floor of the record in memory. -/
structure Lawful (c d : Part) : Prop where
  contactors : c.contactorLaws = true → d.contactorLaws = true
  floors : c.floorLaws = true → d.floorLaws = true
  record : c.floorLaws = true → c.store.recordAsRead.floor ≤ d.store.recordAsRead.floor
  bounds : c.boundLaws = true → d.boundLaws = true
  formed : c.formed → d.formed
  levelled : c.levelled → d.levelled

theorem Calm.lawful (h : Calm .now c d) : Lawful c d :=
  ⟨h.contactors, h.floors, h.record, h.bounds, h.formed rfl, h.levelled⟩

theorem Lawful.trans {e : Part} (h : Lawful c d) (h' : Lawful d e) : Lawful c e where
  contactors := h'.contactors ∘ h.contactors
  floors := h'.floors ∘ h.floors
  record := fun laws => (h.record laws).trans (h'.record (h.floors laws))
  bounds := h'.bounds ∘ h.bounds
  formed := h'.formed ∘ h.formed
  levelled := h'.levelled ∘ h.levelled

theorem Lawful.interlock (h : Lawful c d) (laws : c.interlockLaws = true) : d.interlockLaws = true := by
  rw [Part.interlockLaws_iff] at laws ⊢
  exact ⟨h.formed laws.1, h.levelled laws.2⟩

/-- A move of the sequencer that LOCKED_OUT has no part in. -/
theorem Lawful.move {k : ConnState} {v : Bool × Bool × Bool}
    (shape : d.control = { c.control with conn := k, drives := v })
    (contactors : c.contactorLaws = true → d.contactorLaws = true)
    (read : c.floorLaws = true → c.store.recordRead = true) (left : c.seq.conn ≠ .lockedOut) (entered : k ≠ .lockedOut)
    (bounds : c.boundLaws = true → d.boundLaws = true) : Lawful c d := by
  simp only [Part.control, ControlView.mk.injEq] at shape
  obtain ⟨rfl, rfl, power, tripped, latches, events, effective, faultOut, record, copy, isRead, state, tables, write, update,
    staged, switch, version, programming⟩ := shape
  refine ⟨contactors, fun laws => ?_, Part.floor_le_of_record record, bounds, fun laws => ?_, fun laws => ?_⟩
  · have before := read laws
    rw [Part.floorLaws_iff] at laws ⊢
    exact laws.of_read before (isRead ▸ before) record (by rw [copy]) (fun f done h => .inr ⟨done, write ▸ h⟩) staged state
      update version switch programming
  · rw [Part.formed, Part.effectiveAction_congr tripped latches events (by rw [power]) tables]
    exact effective.trans laws
  · simpa [Part.levelled, Part.faultLevel, effective, faultOut, left, entered] using laws

/-! ### The closing sequence -/

/-- A move out of rest, or between two moving states, in ACTIVE with no update open. -/
theorem Part.contactorLaws_of_shape {k : ConnState} {v : Bool × Bool × Bool}
    (shape : d.control = { c.control with conn := k, drives := v }) (fits : c.drivesFit = true → d.control.fit = true)
    (moves : c.seq.conn.atRest = false ∨ (c.power.state = .active ∧ c.store.update = .idle))
    (laws : c.contactorLaws = true) : d.contactorLaws = true := by
  have power : d.power.state = c.power.state := congrArg (·.power) shape
  have update : d.store.update = c.store.update := congrArg (·.update) shape
  rw [Part.contactorLaws_iff, Part.drivesFit_eq, power, update]
  rw [Part.contactorLaws_iff] at laws
  refine ⟨fits laws.1, ?_⟩
  obtain moving | ⟨active, idle⟩ := moves
  · simp only [moving, Bool.false_eq_true, or_false] at laws
    exact ⟨.inl laws.2.1, .inl laws.2.2⟩
  · exact ⟨.inl active, .inl idle⟩

theorem Part.advanceNeg_lawful (c : Part) : Lawful c c.advanceNeg := by
  have refl : Lawful c c := (Calm.refl .now c).lawful
  have moved {c d : Part} {k : ConnState} {v : Bool × Bool × Bool} (closing : c.seq.conn = .negClosing)
      (shape : d.control = { c.control with conn := k, drives := v }) (entered : k ≠ .lockedOut) (load : d.load = c.load)
      (fits : c.drivesFit = true → d.control.fit = true) : Lawful c d :=
    .move shape (Part.contactorLaws_of_shape shape fits (.inl (by rw [closing]; rfl)))
      (Part.read_of_floorLaws (by simp [closing])) (by simp [closing]) entered (Part.boundLaws_of_load load)
  unfold Part.advanceNeg
  have goes : Lawful c (if c.seq.conn = .negClosing ∧ c.settled .kNeg then c.drive .kPre true else c) := by
    split
    next closing =>
      refine moved (k := c.seq.conn) closing.1 (Part.drive_control ..) (by simp [closing.1]) (Part.drive_load ..) fun fits => ?_
      rw [Part.drive_control]
      simpa [Part.drivesFit, ControlView.fit, Part.control, closing.1] using fits
    · exact refl
  revert goes
  generalize (if c.seq.conn = .negClosing ∧ c.settled .kNeg then c.drive .kPre true else c) = c1
  intro goes
  dsimp only
  split
  next closing =>
    refine goes.trans (moved (k := .precharging) (v := c1.control.drives) closing.1 rfl (by simp) rfl fun fits => ?_)
    have := closing.2.2.1
    simp_all [Part.drivesFit, ControlView.fit, Part.control, Part.enterPrecharging]
  · exact goes

theorem Part.advance_lawful (c : Part) : Lawful c c.advance := by
  unfold Part.advance
  split
  · exact c.advanceNeg_lawful
  · exact c.advanceMain_calm.lawful
  · exact c.advanceOpening_calm.lawful
  all_goals exact (Calm.refl .now c).lawful

theorem Part.enterNeg_lawful (opened : c.seq.conn = .opened) (active : c.power.state = .active)
    (idle : c.store.update = .idle) (read : c.floorLaws = true → c.store.recordRead = true) : Lawful c c.enterNeg := by
  refine Lawful.trans ?_ (Part.advanceNeg_lawful _)
  let c1 : Part := { c with seq.conn := .negClosing }
  have shape : (c1.drive .kNeg true).control =
      { c.control with conn := .negClosing, drives := (c.seq.kPos.drive, true, c.seq.kPre.drive) } :=
    Part.drive_control .kNeg true c1
  refine .move shape (Part.contactorLaws_of_shape shape (fun fits => ?_) (.inr ⟨active, idle⟩)) read (by simp [opened])
    (by simp) fun laws => Part.boundLaws_of_load (Part.drive_load ..) (Part.boundLaws_of_load (c := c) rfl laws)
  rw [shape]
  simp_all [Part.drivesFit, ControlView.fit, Part.control]

/-! ### The ends of LOCKED_OUT, the tamper latch and ACTIVE -/

theorem Part.leaveLockedOut_lawful (locked : c.seq.conn = .lockedOut) : Lawful c c.leaveLockedOut := by
  have read : c.floorLaws = true → c.store.recordRead = true := Part.read_of_floorLaws (by simp [locked])
  let c1 : Part := { c with seq.conn := .opened, seq.pendingLockout := none, store.copy.lockout := false }
  let c2 := c1.requestWrite
  have bounds (laws : c.boundLaws = true) : c.leaveLockedOut.boundLaws = true := by
    refine Part.boundLaws_of_load (c := c2.logEvent .lockoutClear none .request .lockedOut .opened) rfl
      (Part.appendEvent_bounds _ _ _ _ _ _ _ (Part.boundLaws_of_load (Part.requestWrite_load c1) ?_))
    exact Part.boundLaws_of_load (c := c) rfl laws
  have shape : c.leaveLockedOut.control =
      { c.control with
        conn := .opened, copy := { c.store.copy with lockout := false }, write := c2.store.write,
        faultOut := c.leaveLockedOut.interlock.faultOut } := by
    have logged : (c2.logEvent .lockoutClear none .request .lockedOut .opened).control = c2.control :=
      Part.logEvent_control ..
    have asked := Part.requestWrite_control c1
    calc c.leaveLockedOut.control
        = { (c2.logEvent .lockoutClear none .request .lockedOut .opened).control with
            faultOut := c.leaveLockedOut.interlock.faultOut } := rfl
      _ = _ := by rw [logged, asked]; rfl
  have floors (laws : FloorLaws c) : FloorLaws c.leaveLockedOut := by
    simp only [Part.control, ControlView.mk.injEq] at shape
    obtain ⟨-, -, -, -, -, -, -, -, record, copy, isRead, state, -, write, update, staged, switch, version,
      programming⟩ := shape
    have before := read ((Part.floorLaws_iff c).mpr laws)
    refine laws.of_read before (isRead ▸ before) record (by rw [copy]) (fun r done writing => ?_) staged state update version
      switch programming
    rw [write] at writing
    exact (Part.requestWrite_current writing).imp_left fun same => by rw [same]
  refine ⟨fun laws => ?_, fun laws => ?_, Part.floor_le_of_record (congrArg (·.record) shape), bounds, fun laws => ?_,
    fun _ => rfl⟩
  · rw [Part.contactorLaws_iff, Part.drivesFit_eq, shape]
    rw [Part.contactorLaws_iff] at laws
    refine ⟨?_, .inr ?_, .inr ?_⟩
    · simpa [ControlView.fit, Part.control, Part.drivesFit, locked] using laws.1
    all_goals rw [show c.leaveLockedOut.seq.conn = .opened from congrArg (·.conn) shape]; rfl
  · rw [Part.floorLaws_iff] at laws ⊢
    exact floors laws
  · rw [Part.formed, Part.effectiveAction_congr (c := c) (by simp) (by simp) (by simp) (by simp) (by simp)]
    exact Eq.trans (congrArg (·.effective) shape) laws

theorem Part.clearTamper_lawful (read : c.floorLaws = true → c.store.recordRead = true) : Lawful c c.clearTamper := by
  unfold Part.clearTamper
  split
  · let c1 : Part := { c with store.copy.tamper := false }
    have same : c1.floorLaws = c.floorLaws := rfl
    have cleared : Lawful c c1 :=
      ⟨id, fun laws => same ▸ laws, Part.floor_le_of_record rfl, Part.boundLaws_of_load rfl, id, id⟩
    have asked : Lawful c c1.requestWrite :=
      cleared.trans ((Calm.refl .now c1).requestWrite fun laws => read (same ▸ laws)).lawful
    exact asked.trans ((Calm.refl .now _).clearCondition .tamper).lawful
  · exact (Calm.refl .now c).lawful

theorem Part.beginSleep_lawful (rest : c.seq.conn.atRest = true) (active : c.power.state = .active) : Lawful c c.beginSleep := by
  refine Lawful.trans ?_ (Calm.refl .now _).endNormalRun.lawful
  refine ⟨fun laws => ?_, id, Part.floor_le_of_record rfl, Part.boundLaws_of_load rfl, fun laws => ?_, id⟩
  · rw [Part.contactorLaws_iff] at laws ⊢
    exact ⟨laws.1, .inr rest, .inr rest⟩
  · refine Eq.trans (show c.interlock.effective = c.effectiveAction from laws) (Part.effectiveAction_congr ?_ ?_ ?_ ?_ ?_).symm
    all_goals simp [active]

/-! ### A reset -/

@[simp] theorem Part.cutErase_keeps (c : Part) : Part.Keeps [.store, .banks, .freeIndex] c c.cutErase := by
  unfold Part.cutErase
  split <;> simp [Part.Keeps]

@[simp] theorem Part.cutProgramming_keeps (c : Part) : Part.Keeps [.store, .banks, .freeIndex] c c.cutProgramming := by
  unfold Part.cutProgramming
  dsimp only
  repeat' split
  all_goals simp [Part.Keeps]

/-- A reset leaves the record that was there, or the one that was being written. -/
theorem Part.cutRecord_record (c : Part) : c.cutRecord.store.record = c.store.record ∨
    ∃ r t, c.store.write.current = some (r, t) ∧ c.store.recordAsRead.mayLand r = true ∧
      c.cutRecord.store.record = some r := by
  unfold Part.cutRecord
  split
  · exact .inl rfl
  next r t writing =>
    split
    next lands =>
      dsimp only
      split
      · exact .inr ⟨r, t, writing, lands, rfl⟩
      · exact .inl rfl
    · exact .inl rfl

/-- The part after a reset, before its watches are set. -/
def Part.afresh (c : Part) : Part :=
  { lines := c.lines
    store := { bankA := { bytes := c.store.bankA.bytes }, bankB := { bytes := c.store.bankB.bytes }, record := c.store.record }
    freeIndex := c.freeIndex }

theorem Part.resetPart_eq (c : Part) : c.resetPart = (c.cutErase.cutProgramming.cutRecord.afresh).updateWatches := rfl

theorem Part.afresh_laws (c : Part) : c.afresh.contactorLaws = true ∧ c.afresh.floorLaws = true ∧
    c.afresh.boundLaws = true ∧ c.afresh.formed ∧ c.afresh.levelled := by
  have load : c.afresh.load = ({} : Part).load := rfl
  refine ⟨rfl, rfl, Part.boundLaws_of_load load (by decide), ?_, rfl⟩
  exact Part.effectiveAction_congr (c := {}) rfl rfl rfl Iff.rfl rfl |>.symm

theorem Calm.updateWatches (h : Calm f a c) : Calm f a c.updateWatches :=
  ((h.updateWatch _).updateWatch _).updateWatch _

theorem Part.resetPart_lawful (c : Part) : Lawful c c.resetPart := by
  rw [Part.resetPart_eq]
  obtain ⟨contactors, floors, bounds, formed, levelled⟩ := Part.afresh_laws c.cutErase.cutProgramming.cutRecord
  refine Lawful.trans ⟨fun _ => contactors, fun _ => floors, fun laws => ?_, fun _ => bounds, fun _ => formed,
    fun _ => levelled⟩ (Calm.refl .now _).updateWatches.lawful
  have write : c.cutErase.cutProgramming.store.write = c.store.write := by simp
  have record : c.cutErase.cutProgramming.store.record = c.store.record := by simp
  have memory : c.cutErase.cutProgramming.cutRecord.afresh.store.recordAsRead =
    c.cutErase.cutProgramming.cutRecord.store.recordAsRead := rfl
  rw [memory]
  obtain same | ⟨r, t, writing, -, lands⟩ := Part.cutRecord_record c.cutErase.cutProgramming
  · exact Part.floor_le_of_record (same.trans record) laws
  · rw [write] at writing
    rw [Part.floorLaws_iff] at laws
    simpa [Store.recordAsRead, lands] using (laws.writing_floor writing).1

/-! ### Every command -/

/-- What a command makes of the part `c`: a calm change, or one of the few that leave a state which only they may leave. -/
inductive Part.Becomes (i : Instr) (c : Part) : Part → Prop
  | calm {t : Part} (h : Calm .now c t) : Part.Becomes i c t
  | advanced {e t : Part} (h : Calm .now c e) (goes : t = e.advance) : Part.Becomes i c t
  | reset {t : Part} (restarts : restarts i = true) (fresh : t = c.resetPart) : Part.Becomes i c t
  | connected {t : Part} {x : Frame} {data : List Byte} (row : i = .connect) (serving : Serving .connect c c.popRequest)
      (ok : c.popRequest.connectStatus = .ok) (goes : t = c.popRequest.enterNeg.respond x .ok data) : Part.Becomes i c t
  | unlocked {t : Part} {x : Frame} (row : i = .clearLockout) (serving : Serving .clearLockout c c.popRequest)
      (ok : c.popRequest.clearLockoutStatus = .ok) (goes : t = c.popRequest.leaveLockedOut.respond x .ok []) :
      Part.Becomes i c t
  | untampered {t : Part} {x : Frame} (row : i = .clearTamper) (serving : Serving .clearTamper c c.popRequest)
      (ok : c.popRequest.clearTamperStatus = .ok) (goes : t = c.popRequest.clearTamper.respond x .ok []) :
      Part.Becomes i c t
  | slept {t : Part} {x : Frame} {data : List Byte} (row : i = .sleep) (serving : Serving .sleep c c.popRequest)
      (ok : c.popRequest.sleepStatus = .ok) (goes : t = c.popRequest.beginSleep.respond x .ok data) : Part.Becomes i c t

theorem Part.feedbackChange_becomes (i : Instr) (q : List Instr) (k : Contactor) (closed : Bool) (c : Part) :
    Part.Becomes i c (c.feedbackChange q k closed) := by
  unfold Part.feedbackChange
  split
  · split
    · exact .calm ((Calm.refl .now c).deepClosed ..)
    · exact .calm ((Calm.refl .now c).quiet rfl rfl)
  · refine .advanced (Calm.updateWatch (Calm.passCheck ?_ k) k) rfl
    exact (Calm.refl .now c).quiet rfl rfl

theorem Part.deepFeedback_becomes (i : Instr) (q : List Instr) (s : ContactorFlags) (c : Part) :
    Part.Becomes i c (c.deepFeedback q s) := by
  have same := Calm.refl .now c
  unfold Part.deepFeedback
  split
  · exact .calm (same.deepClosed q s)
  · exact .calm same
  · exact .calm same
  · split
    · refine .advanced (Calm.resumeSequencer (Calm.sleepFeedbacks ?_ _)) rfl
      exact same.quiet rfl rfl
    · exact .calm same

/-- The rows whose own rule is calm unless its answer is OK. -/
theorem Part.serve_becomes {i : Instr} {r : Request} {rule : Frame → Part → Part}
    (becomes : ∀ x, Serving r c c.popRequest → Part.Becomes i c (rule x c.popRequest)) :
    Part.Becomes i c (c.serve r rule) := by
  obtain same | ⟨x, head, ⟨k, refused⟩ | ⟨ruled, loaded⟩⟩ := c.serve_cases r rule
  · rw [same]
    exact .calm (.refl ..)
  · rw [refused]
    have popped := Part.serving_popRequest (r := .status) head (absurd rfl)
    exact .calm (popped.answer ..)
  · rw [ruled]
    exact becomes x (Part.serving_popRequest head loaded)

theorem exec_becomes (i : Instr) (c : Part) (q : List Instr) (other : i ≠ .writeProgrammingEnd) :
    ∃ t, exec i ⟨c, q⟩ = .next ⟨t, q⟩ ∧ Part.Becomes i c t := by
  have same := Calm.refl .now c
  cases i with
  | powerOn => exact ⟨_, rfl, .reset rfl rfl⟩
  | resetN => exact ⟨_, rfl, .reset rfl rfl⟩
  | boot => exact ⟨_, rfl, .calm (same.boot)⟩
  | northFrameCheckFail _ => exact ⟨_, rfl, .calm (same.receiveNorth ..)⟩
  | northFrameDiscard _ => exact ⟨_, rfl, .calm (same.receiveNorth ..)⟩
  | mgmtReqAccept _ => exact ⟨_, rfl, .calm (same.receiveNorth ..)⟩
  | northCommand _ => exact ⟨_, rfl, .calm (same.receiveNorth ..)⟩
  | broadcastCommand _ => exact ⟨_, rfl, .calm (same.receiveNorth ..)⟩
  | northActivity => exact ⟨_, rfl, .calm (same.northActivity _)⟩
  | northTransmitStart => exact ⟨_, rfl, .calm (same.northTransmit)⟩
  | southFrameCheckFail _ => exact ⟨_, rfl, .calm (same.receiveSouth _)⟩
  | southResponse _ => exact ⟨_, rfl, .calm (same.receiveSouth _)⟩
  | sample _ => exact ⟨_, rfl, .calm (same.receiveSouth _)⟩
  | enumReply _ => exact ⟨_, rfl, .calm (same.receiveSouth _)⟩
  | chainSpoof _ => exact ⟨_, rfl, .calm (same.receiveSouth _)⟩
  | southFrameDiscard _ => exact ⟨_, rfl, .calm (same.receiveSouth _)⟩
  | southTransmitStart => exact ⟨_, rfl, .calm (same.southTransmit)⟩
  | commandFrameEnd => exact ⟨_, rfl, .calm (same.commandEnd)⟩
  | bringupFrameDue => exact ⟨_, rfl, .calm (same.bringupDue)⟩
  | enumFrameEnd => exact ⟨_, rfl, .calm (same.enumEnd)⟩
  | enumWindowClose => exact ⟨_, rfl, .calm (same.closeWindow)⟩
  | retryTimerExpiry => exact ⟨_, rfl, .calm (same.retryExpired)⟩
  | transactionDeadline _ => exact ⟨_, rfl, .calm (same.expireRecord _)⟩
  | cycleStart => exact ⟨_, rfl, .calm (same.cycleStart)⟩
  | slotLaunchTime _ => exact ⟨_, rfl, .calm (same.slotTime _)⟩
  | sweepCloseTime _ => exact ⟨_, rfl, .calm (same.closeTime _)⟩
  | supervisionExpiry => exact ⟨_, rfl, .calm (same.supervisionExpired)⟩
  | feedbackTimerExpiry k => exact ⟨_, rfl, .calm (same.feedbackExpired _ k)⟩
  | watchExpiry k => exact ⟨_, rfl, .calm (same.watchExpired _ k)⟩
  | prechargeLimitExpiry => exact ⟨_, rfl, .calm (same.prechargeExpired)⟩
  | softOpenWaitExpiry => exact ⟨_, rfl, .calm (same.softOpenExpired)⟩
  | wakeInAssert _ => exact ⟨_, rfl, .calm (same.wakeIn ..)⟩
  | tamperInAssert _ => exact ⟨_, rfl, .calm (same.tamperIn ..)⟩
  | serviceInDeassert _ => exact ⟨_, rfl, .calm (same.serviceIn ..)⟩
  | patrolTimerExpiry => exact ⟨_, rfl, .calm (same.patrolExpired)⟩
  | sleepBroadcastDue => exact ⟨_, rfl, .calm (same.sleepBroadcastDue)⟩
  | sleepBroadcastEnd => exact ⟨_, rfl, .calm (same.sleepEnd)⟩
  | deepEntry => exact ⟨_, rfl, .calm (same.deepEntry)⟩
  | eraseComplete => exact ⟨_, rfl, .calm (same.eraseDone)⟩
  | checkComplete => exact ⟨_, rfl, .calm (same.checkDone)⟩
  | switchStart => exact ⟨_, rfl, .calm (same.switchStart)⟩
  | recordWriteComplete => exact ⟨_, rfl, .calm (same.recordWritten)⟩
  | tableLoadComplete => exact ⟨_, rfl, .calm (same.loadDone)⟩
  | unknownRequest => exact ⟨_, rfl, .calm c.serveUnknown_calm⟩
  | status => exact ⟨_, rfl, .calm (Part.serve_calm fun x _ h => h.doStatus x)⟩
  | readCounters => exact ⟨_, rfl, .calm (Part.serve_calm fun x _ h => h.doReadCounters x)⟩
  | readFaults => exact ⟨_, rfl, .calm (Part.serve_calm fun x _ h => h.doReadFaults x)⟩
  | ackFaults => exact ⟨_, rfl, .calm (Part.serve_calm fun x _ h => h.doAckFaults x)⟩
  | readEvents => exact ⟨_, rfl, .calm (Part.serve_calm fun x _ h => h.doReadEvents x)⟩
  | disconnect => exact ⟨_, rfl, .calm (Part.serve_calm fun x _ h => h.doDisconnect x)⟩
  | disconnectNow => exact ⟨_, rfl, .calm (Part.serve_calm fun x _ h => h.doDisconnectNow x)⟩
  | scheduleStart => exact ⟨_, rfl, .calm (Part.serve_calm fun x _ h => h.doScheduleStart x)⟩
  | scheduleStop => exact ⟨_, rfl, .calm (Part.serve_calm fun x _ h => h.doScheduleStop x)⟩
  | setTime => exact ⟨_, rfl, .calm (Part.serve_calm fun x _ h => h.doSetTime x)⟩
  | keepalive => exact ⟨_, rfl, .calm (Part.serve_calm fun x _ h => h.answer x ..)⟩
  | updOpen => exact ⟨_, rfl, .calm (Part.serve_calm fun x _ h => h.doUpdOpen x)⟩
  | updErase => exact ⟨_, rfl, .calm (Part.serve_calm fun x _ h => h.doUpdErase x)⟩
  | updWrite => exact ⟨_, rfl, .calm (Part.serve_calm fun x _ h => h.doUpdWrite x)⟩
  | updCheck => exact ⟨_, rfl, .calm (Part.serve_calm fun x _ h => h.doUpdCheck x)⟩
  | updCommit => exact ⟨_, rfl, .calm (Part.serve_calm fun x _ h => h.doUpdCommit x)⟩
  | updAbort => exact ⟨_, rfl, .calm (Part.serve_calm fun x _ h => h.doUpdAbort x)⟩
  | updStatus => exact ⟨_, rfl, .calm (Part.serve_calm fun x _ h => h.answer x ..)⟩
  | readImage => exact ⟨_, rfl, .calm (Part.serve_calm fun x _ h => h.doReadImage x)⟩
  | resetSouth => exact ⟨_, rfl, .calm (Part.serve_calm fun x _ h => h.doResetSouth x)⟩
  | restart => exact ⟨_, rfl, .calm (Part.serve_calm fun x _ h => h.doRestart x)⟩
  | restartEffect =>
    refine ⟨_, rfl, ?_⟩
    show Part.Becomes _ _ c.restartEffect
    unfold Part.restartEffect
    split
    · split
      · exact .reset rfl rfl
      · exact .calm same
    all_goals exact .calm same
  | feedbackLineChange k closed => exact ⟨_, rfl, Part.feedbackChange_becomes ..⟩
  | deepFeedbackClosed kPos kNeg kPre => exact ⟨_, rfl, Part.deepFeedback_becomes ..⟩
  | writeProgrammingEnd => exact absurd rfl other
  | connect =>
    refine ⟨_, rfl, Part.serve_becomes (r := .connect) fun x h => ?_⟩
    unfold Part.doConnect
    split
    next ok => exact .connected rfl h ok rfl
    · exact .calm (h.answer ..)
  | clearLockout =>
    refine ⟨_, rfl, Part.serve_becomes (r := .clearLockout) fun x h => ?_⟩
    unfold Part.doClearLockout
    split
    next ok => exact .unlocked rfl h ok rfl
    · exact .calm (h.answer ..)
  | clearTamper =>
    refine ⟨_, rfl, Part.serve_becomes (r := .clearTamper) fun x h => ?_⟩
    unfold Part.doClearTamper
    split
    next ok => exact .untampered rfl h ok rfl
    · exact .calm (h.answer ..)
  | sleep =>
    refine ⟨_, rfl, Part.serve_becomes (r := .sleep) fun x h => ?_⟩
    unfold Part.doSleep
    split
    next ok => exact .slept rfl h ok rfl
    · exact .calm (h.answer ..)

/-- A command that answers leaves the queue, and makes of the part what `Part.Becomes` says. -/
theorem becomes_of_exec {i : Instr} {c t : Part} {q q' : List Instr} (h : exec i ⟨c, q⟩ = .next ⟨t, q'⟩) :
    Part.Becomes i c t := by
  by_cases ends : i = .writeProgrammingEnd
  · subst ends
    rw [exec_writeProgrammingEnd] at h
    split at h
    · cases h
      exact .calm (.refl ..)
    next p programming =>
      split at h
      · cases h
        exact .calm ((Calm.refl .now c).programmed q programming)
      · cases h
  · obtain ⟨t', next, becomes⟩ := exec_becomes i c q ends
    cases next.symm.trans h
    exact becomes

/-! ### The laws -/

theorem Part.openStatus_of_connect (ok : c.connectStatus = .ok) : c.seq.conn = .opened ∧ c.power.state = .active ∧
    c.store.state ≠ .unconfigured ∧ c.store.update = .idle ∧ c.interlock.effective.code < Action.blockClose.code ∧
    c.store.copy.tamper = false := by
  unfold Part.connectStatus at ok
  grind

theorem Part.clearLockoutStatus_eq_ok (ok : c.clearLockoutStatus = .ok) : c.seq.conn = .lockedOut ∧
    c.power.state = .active ∧ c.lines.serviceIn = true ∧ c.lines.feedback = {} := by
  unfold Part.clearLockoutStatus at ok
  cases feedback : c.lines.feedback with
  | mk kPos kNeg kPre => cases kPos <;> cases kNeg <;> cases kPre <;> grind

theorem Part.sleepStatus_eq_ok (ok : c.sleepStatus = .ok) : c.power.state = .active ∧ c.seq.conn.atRest = true ∧
    c.store.update = .idle ∧ c.router.tracker = [] := by
  unfold Part.sleepStatus at ok
  grind

/-- A rule that keeps the laws, with its answer. -/
theorem Serving.lawful_answer {r : Request} (h : Serving r a c) (laws : Lawful c d) (mgmt : d.mgmt = c.mgmt) (x : Frame)
    (k : Status) (data : List Byte) : Lawful a (d.respond x k data) := by
  have done := h.calm.lawful.trans laws
  refine { done with bounds := fun start => ?_ }
  have room := h.room start
  have bounds := done.bounds start
  rw [Part.boundLaws_iff] at bounds ⊢
  refine { bounds with places := ?_ }
  rw [← mgmt] at room
  simp only [Part.respond, Management.places, List.length_append, List.length_singleton] at room ⊢
  split at room <;> rename_i programming <;> simp only [programming, if_true, Bool.false_eq_true, if_false] <;> omega

theorem Part.Becomes.lawful {i : Instr} {t : Part} (h : Part.Becomes i c t) : Lawful c t := by
  cases h with
  | calm h => exact h.lawful
  | advanced h goes => exact goes ▸ h.lawful.trans (Part.advance_lawful _)
  | reset _ fresh => exact fresh ▸ c.resetPart_lawful
  | connected _ serving ok goes =>
    obtain ⟨opened, active, -, idle, -⟩ := Part.openStatus_of_connect ok
    rw [goes]
    exact serving.lawful_answer (Part.enterNeg_lawful opened active idle
      (Part.recordRead_of_floorLaws (serving.loaded (by decide)))) (by simp) ..
  | unlocked _ serving ok goes =>
    rw [goes]
    exact serving.lawful_answer (Part.leaveLockedOut_lawful (Part.clearLockoutStatus_eq_ok ok).1) (by simp) ..
  | untampered _ serving ok goes =>
    rw [goes]
    exact serving.lawful_answer (Part.clearTamper_lawful
      (Part.recordRead_of_floorLaws (serving.loaded (by decide)))) (by simp) ..
  | slept _ serving ok goes =>
    obtain ⟨active, rest, -⟩ := Part.sleepStatus_eq_ok ok
    rw [goes]
    exact serving.lawful_answer (Part.beginSleep_lawful rest active) (by simp) ..

/-- Every step keeps the laws. -/
theorem lawful_of_step {s s' : State} (h : step s = .next s') : Lawful s.part s'.part := by
  obtain ⟨c, _ | ⟨i, q⟩⟩ := s
  · cases h
    exact (Calm.refl .now c).tick.lawful
  · exact (becomes_of_exec (t := s'.part) (q' := s'.pending) h).lawful

/-- Settles O5: the drives are moved by the sequencer's transitions alone, each of which fits its row. -/
theorem contactorLawsAreKept : Obligations.ContactorLawsAreKept := fun _ _ laws h => (lawful_of_step h).contactors laws

/-- Settles O6: the record copy's floor rises only at a switch, to the staged version, and its writes follow it. -/
theorem floorLawsAreKept : Obligations.FloorLawsAreKept := fun _ _ laws h => (lawful_of_step h).floors laws

/-- Settles O8: what joins a queue or a list finds a place, and every counter saturates. -/
theorem boundLawsAreKept : Obligations.BoundLawsAreKept := fun _ _ laws h => (lawful_of_step h).bounds laws

/-- Settles O9: what reaches the memory, by a completed write or one that a reset cuts off, is no older than the record
there. -/
theorem recordFloorNeverFalls : Obligations.RecordFloorNeverFalls := fun _ _ laws h => (lawful_of_step h).record laws

/-! ### The states that only their own commands leave -/

theorem Part.advance_of_atRest (rest : c.seq.conn.atRest = true) : c.advance = c := by
  unfold Part.advance
  cases conn : c.seq.conn <;> simp_all [ConnState.atRest]

/-- An advance of the sequencer drives K+ closed in no state. -/
theorem Part.advance_kPos (opens : c.seq.kPos.drive = false) : c.advance.seq.kPos.drive = false := by
  by_cases negClosing : c.seq.conn = .negClosing
  · have drive (c : Part) : (c.drive .kPre true).seq.kPos.drive = c.seq.kPos.drive :=
      congrArg (·.drives.1) (Part.drive_control .kPre true c)
    have advanceNeg : c.advance = c.advanceNeg := by simp [Part.advance, negClosing]
    rw [advanceNeg]
    unfold Part.advanceNeg Part.enterPrecharging
    dsimp only
    repeat' split
    all_goals first | exact opens | exact (drive c).trans opens
  · by_cases precharging : c.seq.conn = .precharging
    · simpa [Part.advance, precharging] using opens
    · have calm : Calm .now c c.advance := by
        unfold Part.advance
        split
        · contradiction
        · exact c.advanceMain_calm
        · exact c.advanceOpening_calm
        all_goals exact .refl ..
      exact (calm.mainOpen ⟨opens, precharging⟩).1

/-- The start of a close leaves K+ open. -/
theorem Part.enterNeg_kPos (opens : c.seq.kPos.drive = false) : c.enterNeg.seq.kPos.drive = false := by
  let c1 : Part := { c with seq.conn := .negClosing }
  have drives : (c1.drive .kNeg true).seq.kPos.drive = false :=
    Eq.trans (congrArg (·.drives.1) (Part.drive_control .kNeg true c1)) opens
  have conn : (c1.drive .kNeg true).seq.conn = .negClosing := congrArg (·.conn) (Part.drive_control .kNeg true c1)
  have goes := Part.advance_kPos drives
  rwa [Part.advance, conn] at goes

/-- But for the latch and its write, CLEAR_TAMPER is calm. -/
theorem Part.clearTamper_calm (c : Part) : ∃ e : Part, Calm .now e c.clearTamper ∧ e.seq = c.seq ∧ e.power = c.power := by
  unfold Part.clearTamper
  split
  · exact ⟨Part.requestWrite { c with store.copy.tamper := false }, (Calm.refl ..).clearCondition .tamper, by simp, by simp⟩
  · exact ⟨c, .refl .., rfl, rfl⟩

theorem Part.resetPart_seq (c : Part) : c.resetPart.seq.conn = .opened ∧ c.resetPart.seq.kPos.drive = false := by
  have fresh := Part.afresh_laws c.cutErase.cutProgramming.cutRecord
  have calm := (Calm.refl .now c.cutErase.cutProgramming.cutRecord.afresh).updateWatches
  rw [Part.resetPart_eq]
  exact ⟨by simp [Part.updateWatches, Part.afresh], (calm.mainOpen ⟨rfl, by simp [Part.afresh]⟩).1⟩

/-- Settles O12: every command but CONNECT leaves a sequencer at rest at rest, or takes it to LOCKED_OUT. -/
theorem openIsLeftOnlyByConnect : Obligations.OpenIsLeftOnlyByConnect := by
  intro i c t q opened h
  have settled {d : Part} (rest : d.seq.conn.atRest = true) : d.seq.conn = .opened ∨ d.seq.conn = .lockedOut := by
    cases conn : d.seq.conn <;> simp_all [ConnState.atRest]
  have rest : c.seq.conn.atRest = true := by rw [opened]; rfl
  cases becomes_of_exec h with
  | calm h => exact (settled (h.atRest rest)).imp_right .inl
  | advanced h goes =>
    rw [goes, Part.advance_of_atRest (h.atRest rest)]
    exact (settled (h.atRest rest)).imp_right .inl
  | reset _ fresh => exact .inl (fresh ▸ c.resetPart_seq.1)
  | connected row serving ok goes =>
    obtain ⟨-, active, configured, idle, effective, tamper⟩ := Part.openStatus_of_connect ok
    refine .inr (.inr ⟨row, active, ?_, idle, tamper, effective⟩)
    have loaded := serving.loaded (by decide)
    change c.store.state ≠ .unconfigured at configured
    change c.store.state ≠ .loading at loaded
    cases state : c.store.state <;> simp_all
  | unlocked _ _ ok => exact absurd (Part.clearLockoutStatus_eq_ok ok).1 (by simp [Part.popRequest, opened])
  | untampered _ _ _ goes =>
    obtain ⟨e, calm, seq, -⟩ := c.popRequest.clearTamper_calm
    have ended := calm.atRest (by rw [seq]; exact rest)
    rw [goes]
    exact (settled ended).imp_right .inl
  | slept _ _ _ goes => exact .inl (by rw [goes]; simpa [Part.beginSleep] using opened)

/-- Settles O13: every command but CLEAR_LOCKOUT leaves LOCKED_OUT as it is. -/
theorem lockedOutIsLeftOnlyByClearLockout : Obligations.LockedOutIsLeftOnlyByClearLockout := by
  intro i c t q locked noReset h
  cases becomes_of_exec h with
  | calm h => exact .inl (h.lockedOut locked)
  | advanced h goes =>
    have rest := h.lockedOut locked
    rw [goes, Part.advance_of_atRest (by rw [rest]; rfl)]
    exact .inl rest
  | reset restarts => simp [restarts] at noReset
  | connected _ _ ok =>
    exact absurd (Part.openStatus_of_connect ok).1 (by simp [Part.popRequest, locked])
  | unlocked row _ ok goes =>
    obtain ⟨-, active, service, feedback⟩ := Part.clearLockoutStatus_eq_ok ok
    refine .inr ⟨row, ?_, active, service, feedback⟩
    rw [goes]
    simp [Part.leaveLockedOut]
  | untampered _ _ _ goes =>
    obtain ⟨e, calm, seq, -⟩ := c.popRequest.clearTamper_calm
    have ended := calm.lockedOut (by rw [seq]; exact locked)
    rw [goes]
    exact .inl ended
  | slept _ _ _ goes => exact .inl (by rw [goes]; simpa [Part.beginSleep] using locked)

/-- Settles O14: outside PRECHARGING no command closes K+, whatever the sequencer does. -/
theorem mainPositiveClosesOnlyFromPrecharging : Obligations.MainPositiveClosesOnlyFromPrecharging := by
  intro i c t q opens h closes
  by_contra elsewhere
  have main : c.mainOpen := ⟨opens, elsewhere⟩
  suffices t.seq.kPos.drive = false by simp [this] at closes
  cases becomes_of_exec h with
  | calm h => exact (h.mainOpen main).1
  | advanced h goes => exact goes ▸ Part.advance_kPos (h.mainOpen main).1
  | reset _ fresh => exact fresh ▸ c.resetPart_seq.2
  | connected _ _ _ goes =>
    rw [goes]
    exact Part.enterNeg_kPos opens
  | unlocked _ _ _ goes =>
    rw [goes]
    simpa [Part.leaveLockedOut] using opens
  | untampered _ _ _ goes =>
    obtain ⟨e, calm, seq, -⟩ := c.popRequest.clearTamper_calm
    have ended := (calm.mainOpen (by rw [Part.mainOpen, seq]; exact main)).1
    rw [goes]
    exact ended
  | slept _ _ _ goes => rw [goes]; simpa [Part.beginSleep] using opens

/-- Settles O15: every command but SLEEP leaves ACTIVE as it is. -/
theorem activeIsLeftOnlyBySleep : Obligations.ActiveIsLeftOnlyBySleep := by
  intro i c t q active h
  cases becomes_of_exec h with
  | calm h => exact .inl (h.active active)
  | advanced h goes => exact .inl (by rw [goes]; simpa using h.active active)
  | reset _ fresh => exact .inl (by rw [fresh, Part.resetPart_eq, Part.updateWatches]; simp [Part.afresh])
  | connected _ _ _ goes => exact .inl (by rw [goes]; simpa using active)
  | unlocked _ _ _ goes => exact .inl (by rw [goes]; simpa using active)
  | untampered _ _ _ goes => exact .inl (by rw [goes]; simpa using active)
  | slept row _ ok goes =>
    obtain ⟨-, rest, idle, tracker⟩ := Part.sleepStatus_eq_ok ok
    exact .inr ⟨row, by rw [goes]; simp [Part.beginSleep], rest, idle, tracker⟩

/-- Settles O16: every command but CLEAR_TAMPER leaves a latch that is set. -/
theorem tamperLatchIsClearedOnlyByClearTamper : Obligations.TamperLatchIsClearedOnlyByClearTamper := by
  intro i c t q read tamper noReset h
  cases becomes_of_exec h with
  | calm h => exact .inl (h.latched ⟨read, tamper⟩).2
  | advanced h goes => exact .inl (by rw [goes]; simpa using (h.latched ⟨read, tamper⟩).2)
  | reset restarts => simp [restarts] at noReset
  | connected _ _ _ goes => exact .inl (by rw [goes]; simpa using tamper)
  | unlocked _ _ _ goes => exact .inl (by rw [goes]; simpa [Part.leaveLockedOut] using tamper)
  | untampered row _ ok =>
    refine .inr ⟨row, ?_⟩
    have : c.clearTamperStatus = .ok := ok
    unfold Part.clearTamperStatus at this
    grind
  | slept _ _ _ goes => exact .inl (by rw [goes]; simpa [Part.beginSleep] using tamper)

end Sys2Proof.Machine
end

section
/-! # What most commands leave as it is: the tables in use, the banks' bytes and pack time (R40, R158) -/
namespace Sys2Proof.Machine

variable {c t : Part}

/-- The tables in use, the bytes of the banks and pack time are as before. -/
structure Kept (c t : Part) : Prop where
  tables : t.store.tables = c.store.tables
  bytes : ∀ n, (t.store.bank n).bytes = (c.store.bank n).bytes
  packTime : t.sched.packTime = c.sched.packTime

theorem Kept.refl (c : Part) : Kept c c := ⟨rfl, fun _ => rfl, rfl⟩

theorem Kept.trans {d e : Part} (h : Kept c d) (h' : Kept d e) : Kept c e :=
  ⟨h'.tables.trans h.tables, fun n => (h'.bytes n).trans (h.bytes n), h'.packTime.trans h.packTime⟩

theorem Kept.of_fields (tables : t.store.tables = c.store.tables) (bankA : t.store.bankA = c.store.bankA)
    (bankB : t.store.bankB = c.store.bankB) (packTime : t.sched.packTime = c.sched.packTime) : Kept c t :=
  ⟨tables, fun n => by cases n <;> simp [Store.bank, bankA, bankB], packTime⟩

theorem Kept.of_keeps {touched : List Field} (h : Part.Keeps touched c t) (tables : .tables ∉ touched := by decide)
    (banks : .banks ∉ touched := by decide) (packTime : .packTime ∉ touched := by decide) : Kept c t := by
  simp only [Part.Keeps] at h
  exact .of_fields (by simp [h, tables]) (by simp [h, banks]) (by simp [h, banks]) (by simp [h, packTime])

/-! ### Received frames -/

theorem Part.receiveNorth_kept (q : List Instr) (r : Reception) (c : Part) : Kept c (c.receiveNorth q r) := by
  unfold Part.receiveNorth
  split
  · split
    · exact .of_fields rfl rfl rfl rfl
    · exact .of_keeps (Part.kindDiscard_keeps _)
    · exact .of_keeps (Part.acceptRequest_keeps ..)
    · exact .of_keeps (Part.admitCommand_keeps ..)
    · exact .of_keeps (Part.admitBroadcast_keeps ..)
  · exact .of_keeps (Part.northActivity_keeps ..)

theorem Part.receiveSouth_kept (r : Reception) (c : Part) : Kept c (c.receiveSouth r) := by
  have good : Kept c c.goodFrame := .of_keeps (Part.goodFrame_keeps _)
  unfold Part.receiveSouth
  split
  · exact .refl c
  split
  · exact .of_keeps (Part.southCheckFail_keeps _)
  · exact good.trans (.of_keeps (Part.kindDiscard_keeps _))
  · exact good.trans (.of_keeps (Part.takeSpoof_keeps _))
  · exact good.trans (.of_keeps (Part.takeResponse_keeps ..))
  · exact good.trans (.of_keeps (Part.takeSample_keeps ..))
  · exact good.trans (.of_keeps (Part.takeEnumReply_keeps ..))

/-! ### The store -/

theorem Part.updateReport_kept (o : UpdateOutcome) (n : BankName) (c : Part) : Kept c (c.updateReport o n) :=
  .of_keeps (Part.updateReport_keeps ..)

theorem Store.bytes_setBank (s : Store) (n m : BankName) (x : Bank) (bytes : x.bytes = (s.bank n).bytes) :
    ((s.setBank n x).bank m).bytes = (s.bank m).bytes := by
  by_cases same : m = n
  · rw [same, Store.bank_setBank_self, bytes]
  · rw [Store.bank_setBank_of_ne s n x same]

/-- A passed check changes the state of the target bank and no byte. -/
theorem Part.checkDone_kept (c : Part) : Kept c c.checkDone := by
  unfold Part.checkDone
  dsimp only
  split
  · refine .trans ?_ (Part.updateReport_kept ..)
    split
    · exact ⟨by simp, fun n => Store.bytes_setBank { c.store with update := .ready } c.store.target n
        { bytes := c.store.targetBank.bytes, state := .staged } rfl, rfl⟩
    · exact .of_fields rfl rfl rfl rfl
  · exact .refl c

theorem Bank.retire_bytes (b : Bank) : b.retire.bytes = b.bytes := by
  unfold Bank.retire
  split <;> rfl

theorem Part.switchWritten_kept (c : Part) : Kept c c.switchWritten := by
  let s : Store := { c.store with bankA := c.store.bankA.retire, bankB := c.store.bankB.retire, staged := none }
  have retired (n : BankName) : (s.bank n).bytes = (c.store.bank n).bytes := by
    cases n
    · exact c.store.bankA.retire_bytes
    · exact c.store.bankB.retire_bytes
  unfold Part.switchWritten
  dsimp only
  split
  · exact ⟨rfl, retired, rfl⟩
  next m _ => exact ⟨by simp, fun n => (Store.bytes_setBank s m n { s.bank m with state := .active } rfl).trans (retired n), rfl⟩

theorem Part.recordWritten_kept (c : Part) : Kept c c.recordWritten := by
  cases writing : c.store.write.current with
  | none => simpa [Part.recordWritten, writing] using Kept.refl c
  | some current =>
    rw [Part.recordWritten_of_current writing]
    have stored : Kept c { c with store.record := some current.1, store.write := c.nextWrite } := .of_fields rfl rfl rfl rfl
    split
    · split
      · exact stored.trans (Part.switchWritten_kept _)
      all_goals exact .of_fields rfl rfl rfl rfl
    · exact .refl c

theorem Store.bootTables_banks (s : Store) : s.bootTables.bankA = s.bankA ∧ s.bootTables.bankB = s.bankB := by
  unfold Store.bootTables
  dsimp only
  repeat' split
  all_goals exact ⟨rfl, rfl⟩

/-- The boot finds the banks' states, and keeps their bytes. -/
theorem Part.boot_bytes (c : Part) (n : BankName) : (c.boot.store.bank n).bytes = (c.store.bank n).bytes := by
  unfold Part.boot
  dsimp only
  split
  · cases n <;> simp [Part.tablesChanged, Store.bank, Store.bootTables_banks, Store.findBanks]
  · rfl

theorem Part.boot_packTime (c : Part) : c.boot.sched.packTime = c.sched.packTime := by simp

theorem Part.loadDone_bytes (c : Part) (n : BankName) : (c.loadDone.store.bank n).bytes = (c.store.bank n).bytes := by
  cases n <;> simp [Store.bank]

/-- The two banks of a store. -/
def Store.banks (s : Store) : Bank × Bank := (s.bankA, s.bankB)

theorem Store.bank_eq_of_banks {s s' : Store} (h : s'.banks = s.banks) (n : BankName) : s'.bank n = s.bank n := by
  simp only [Store.banks, Prod.mk.injEq] at h
  cases n
  · exact h.1
  · exact h.2

/-- The erase writes the target bank alone. -/
theorem Part.eraseDone_banks (c : Part) : c.eraseDone.store.banks = c.store.banks ∨
    c.eraseDone.store.banks = (c.store.setBank c.store.target { bytes := [], state := .erased }).banks := by
  unfold Part.eraseDone
  dsimp only
  split
  · right
    split <;> simp [Store.banks, Part.updateReport]
  · exact .inl rfl

theorem Part.eraseDone_tables (c : Part) : c.eraseDone.store.tables = c.store.tables := by
  unfold Part.eraseDone
  dsimp only
  repeat' split
  all_goals simp

/-- A programming writes the target bank alone, at its offset. -/
theorem Part.programmed_banks (q : List Instr) (p : Programming) (c : Part) :
    (c.programmed q p).store.banks = (c.store.setBank c.store.target
      { bytes := c.store.targetBank.bytes.writeAll p.offset p.data, state := .written }).banks := by
  unfold Part.programmed
  dsimp only
  repeat' split
  all_goals simp [Store.banks]

theorem Part.programmed_tables (q : List Instr) (p : Programming) (c : Part) :
    (c.programmed q p).store.tables = c.store.tables := by
  unfold Part.programmed
  dsimp only
  repeat' split
  all_goals simp

/-! ### Requests -/

theorem Part.popRequest_kept (c : Part) : Kept c c.popRequest := .of_keeps c.popRequest_keeps

theorem Part.respond_kept (x : Frame) (k : Status) (data : List Byte) (c : Part) : Kept c (c.respond x k data) :=
  .of_keeps (Part.respond_keeps ..)

theorem Part.serve_kept {r : Request} {rule : Frame → Part → Part} (kept : ∀ x c, Kept c (rule x c)) :
    Kept c (c.serve r rule) := by
  obtain same | ⟨x, -, ⟨k, refused⟩ | ⟨ruled, -⟩⟩ := c.serve_cases r rule
  · exact same.symm ▸ .refl c
  · exact refused ▸ c.popRequest_kept.trans (Part.respond_kept ..)
  · exact ruled ▸ c.popRequest_kept.trans (kept ..)

theorem Part.serveUnknown_kept (c : Part) : Kept c c.serveUnknown := by
  unfold Part.serveUnknown
  repeat' split
  · exact .refl c
  · exact c.popRequest_kept.trans (Part.respond_kept ..)
  · exact .refl c

theorem Part.doStatus_kept (x : Frame) (c : Part) : Kept c (c.doStatus x) := by
  apply Kept.of_fields <;> simp [Part.doStatus]

theorem Part.doReadCounters_kept (x : Frame) (c : Part) : Kept c (c.doReadCounters x) := by
  unfold Part.doReadCounters
  repeat' split
  all_goals apply Kept.of_fields <;> simp

theorem Part.doReadFaults_kept (x : Frame) (c : Part) : Kept c (c.doReadFaults x) := by
  apply Kept.of_fields <;> simp [Part.doReadFaults]

theorem Part.doAckFaults_kept (x : Frame) (c : Part) : Kept c (c.doAckFaults x) := by
  apply Kept.of_fields <;> simp [Part.doAckFaults]

theorem Part.doReadEvents_kept (x : Frame) (c : Part) : Kept c (c.doReadEvents x) := by
  apply Kept.of_fields <;> simp [Part.doReadEvents]

theorem Part.doConnect_kept (x : Frame) (c : Part) : Kept c (c.doConnect x) := by
  unfold Part.doConnect
  repeat' split
  all_goals apply Kept.of_fields <;> simp

theorem Part.doDisconnect_kept (x : Frame) (c : Part) : Kept c (c.doDisconnect x) := by
  apply Kept.of_fields <;> simp [Part.doDisconnect]

theorem Part.doDisconnectNow_kept (x : Frame) (c : Part) : Kept c (c.doDisconnectNow x) := by
  apply Kept.of_fields <;> simp [Part.doDisconnectNow]

theorem Part.doClearLockout_kept (x : Frame) (c : Part) : Kept c (c.doClearLockout x) := by
  unfold Part.doClearLockout
  repeat' split
  all_goals apply Kept.of_fields <;> simp

theorem Part.doScheduleStart_kept (x : Frame) (c : Part) : Kept c (c.doScheduleStart x) := by
  unfold Part.doScheduleStart
  repeat' split
  all_goals apply Kept.of_fields <;> simp

theorem Part.doScheduleStop_kept (x : Frame) (c : Part) : Kept c (c.doScheduleStop x) := by
  unfold Part.doScheduleStop
  repeat' split
  all_goals apply Kept.of_fields <;> simp

theorem Part.doSleep_kept (x : Frame) (c : Part) : Kept c (c.doSleep x) := by
  unfold Part.doSleep
  repeat' split
  all_goals apply Kept.of_fields <;> simp

theorem Part.doKeepalive_kept (x : Frame) (c : Part) : Kept c (c.doKeepalive x) := by
  apply Kept.of_fields <;> simp [Part.doKeepalive]

theorem Part.doUpdOpen_kept (x : Frame) (c : Part) : Kept c (c.doUpdOpen x) := by
  unfold Part.doUpdOpen
  repeat' split
  all_goals apply Kept.of_fields <;> simp

theorem Part.doUpdErase_kept (x : Frame) (c : Part) : Kept c (c.doUpdErase x) := by
  unfold Part.doUpdErase
  repeat' split
  all_goals apply Kept.of_fields <;> simp

theorem Part.doUpdWrite_kept (x : Frame) (c : Part) : Kept c (c.doUpdWrite x) := by
  unfold Part.doUpdWrite
  repeat' split
  all_goals apply Kept.of_fields <;> simp

theorem Part.doUpdCheck_kept (x : Frame) (c : Part) : Kept c (c.doUpdCheck x) := by
  unfold Part.doUpdCheck
  repeat' split
  all_goals apply Kept.of_fields <;> simp

theorem Part.doUpdCommit_kept (x : Frame) (c : Part) : Kept c (c.doUpdCommit x) := by
  unfold Part.doUpdCommit
  repeat' split
  all_goals apply Kept.of_fields <;> simp

theorem Part.doUpdAbort_kept (x : Frame) (c : Part) : Kept c (c.doUpdAbort x) := by
  unfold Part.doUpdAbort
  repeat' split
  all_goals apply Kept.of_fields <;> simp

theorem Part.doUpdStatus_kept (x : Frame) (c : Part) : Kept c (c.doUpdStatus x) := by
  apply Kept.of_fields <;> simp [Part.doUpdStatus]

theorem Part.doReadImage_kept (x : Frame) (c : Part) : Kept c (c.doReadImage x) := by
  unfold Part.doReadImage
  repeat' split
  all_goals apply Kept.of_fields <;> simp

theorem Part.doClearTamper_kept (x : Frame) (c : Part) : Kept c (c.doClearTamper x) := by
  unfold Part.doClearTamper
  repeat' split
  all_goals apply Kept.of_fields <;> simp

theorem Part.doResetSouth_kept (x : Frame) (c : Part) : Kept c (c.doResetSouth x) := by
  apply Kept.of_fields <;> simp [Part.doResetSouth]

theorem Part.doRestart_kept (x : Frame) (c : Part) : Kept c (c.doRestart x) := by
  unfold Part.doRestart
  repeat' split
  all_goals apply Kept.of_fields <;> simp

/-! ### Every command -/

/-- The commands that write a bank, change the tables in use or set pack time. -/
def replaces : Instr → Bool
  | .boot | .tableLoadComplete | .eraseComplete | .writeProgrammingEnd | .setTime => true
  | i => restarts i

theorem exec_kept (i : Instr) (c : Part) (q : List Instr) (other : replaces i = false) :
    ∃ t, exec i ⟨c, q⟩ = .next ⟨t, q⟩ ∧ Kept c t := by
  cases i with
  | northFrameCheckFail _ => exact ⟨_, rfl, Part.receiveNorth_kept ..⟩
  | northFrameDiscard _ => exact ⟨_, rfl, Part.receiveNorth_kept ..⟩
  | mgmtReqAccept _ => exact ⟨_, rfl, Part.receiveNorth_kept ..⟩
  | northCommand _ => exact ⟨_, rfl, Part.receiveNorth_kept ..⟩
  | broadcastCommand _ => exact ⟨_, rfl, Part.receiveNorth_kept ..⟩
  | northActivity => exact ⟨_, rfl, .of_keeps (Part.northActivity_keeps ..)⟩
  | northTransmitStart => exact ⟨_, rfl, .of_keeps (Part.northTransmit_keeps _)⟩
  | southFrameCheckFail _ => exact ⟨_, rfl, Part.receiveSouth_kept ..⟩
  | southResponse _ => exact ⟨_, rfl, Part.receiveSouth_kept ..⟩
  | sample _ => exact ⟨_, rfl, Part.receiveSouth_kept ..⟩
  | enumReply _ => exact ⟨_, rfl, Part.receiveSouth_kept ..⟩
  | chainSpoof _ => exact ⟨_, rfl, Part.receiveSouth_kept ..⟩
  | southFrameDiscard _ => exact ⟨_, rfl, Part.receiveSouth_kept ..⟩
  | southTransmitStart => exact ⟨_, rfl, .of_keeps (Part.southTransmit_keeps _)⟩
  | commandFrameEnd => exact ⟨_, rfl, .of_keeps (Part.commandEnd_keeps _)⟩
  | bringupFrameDue => exact ⟨_, rfl, .of_keeps (Part.bringupDue_keeps _)⟩
  | enumFrameEnd => exact ⟨_, rfl, .of_keeps (Part.enumEnd_keeps _)⟩
  | enumWindowClose => exact ⟨_, rfl, .of_keeps (Part.closeWindow_keeps _)⟩
  | retryTimerExpiry => exact ⟨_, rfl, .of_keeps (Part.retryExpired_keeps _)⟩
  | transactionDeadline _ => exact ⟨_, rfl, .of_keeps (Part.expireRecord_keeps ..)⟩
  | cycleStart => exact ⟨_, rfl, .of_keeps (Part.cycleStart_keeps _)⟩
  | slotLaunchTime _ => exact ⟨_, rfl, .of_keeps (Part.slotTime_keeps ..)⟩
  | sweepCloseTime _ => exact ⟨_, rfl, .of_keeps (Part.closeTime_keeps ..)⟩
  | supervisionExpiry => exact ⟨_, rfl, .of_keeps (Part.supervisionExpired_keeps _)⟩
  | feedbackLineChange _ _ => exact ⟨_, rfl, .of_keeps (Part.feedbackChange_keeps ..)⟩
  | feedbackTimerExpiry _ => exact ⟨_, rfl, .of_keeps (Part.feedbackExpired_keeps ..)⟩
  | watchExpiry _ => exact ⟨_, rfl, .of_keeps (Part.watchExpired_keeps ..)⟩
  | prechargeLimitExpiry => exact ⟨_, rfl, .of_keeps (Part.prechargeExpired_keeps _)⟩
  | softOpenWaitExpiry => exact ⟨_, rfl, .of_keeps (Part.softOpenExpired_keeps _)⟩
  | wakeInAssert _ => exact ⟨_, rfl, .of_keeps (Part.wakeIn_keeps ..)⟩
  | tamperInAssert _ => exact ⟨_, rfl, .of_keeps (Part.tamperIn_keeps ..)⟩
  | serviceInDeassert _ => exact ⟨_, rfl, .of_keeps (Part.serviceIn_keeps ..)⟩
  | deepFeedbackClosed _ _ _ => exact ⟨_, rfl, .of_keeps (Part.deepFeedback_keeps ..)⟩
  | patrolTimerExpiry => exact ⟨_, rfl, .of_keeps (Part.patrolExpired_keeps _)⟩
  | sleepBroadcastDue => exact ⟨_, rfl, .of_keeps (Part.sleepBroadcastDue_keeps _)⟩
  | sleepBroadcastEnd => exact ⟨_, rfl, .of_keeps (Part.sleepEnd_keeps _)⟩
  | deepEntry => exact ⟨_, rfl, .of_keeps (Part.deepEntry_keeps _)⟩
  | checkComplete => exact ⟨_, rfl, Part.checkDone_kept _⟩
  | switchStart => exact ⟨_, rfl, .of_keeps (Part.switchStart_keeps _)⟩
  | recordWriteComplete => exact ⟨_, rfl, Part.recordWritten_kept _⟩
  | unknownRequest => exact ⟨_, rfl, Part.serveUnknown_kept _⟩
  | status => exact ⟨_, rfl, Part.serve_kept Part.doStatus_kept⟩
  | readCounters => exact ⟨_, rfl, Part.serve_kept Part.doReadCounters_kept⟩
  | readFaults => exact ⟨_, rfl, Part.serve_kept Part.doReadFaults_kept⟩
  | ackFaults => exact ⟨_, rfl, Part.serve_kept Part.doAckFaults_kept⟩
  | readEvents => exact ⟨_, rfl, Part.serve_kept Part.doReadEvents_kept⟩
  | connect => exact ⟨_, rfl, Part.serve_kept Part.doConnect_kept⟩
  | disconnect => exact ⟨_, rfl, Part.serve_kept Part.doDisconnect_kept⟩
  | disconnectNow => exact ⟨_, rfl, Part.serve_kept Part.doDisconnectNow_kept⟩
  | clearLockout => exact ⟨_, rfl, Part.serve_kept Part.doClearLockout_kept⟩
  | scheduleStart => exact ⟨_, rfl, Part.serve_kept Part.doScheduleStart_kept⟩
  | scheduleStop => exact ⟨_, rfl, Part.serve_kept Part.doScheduleStop_kept⟩
  | sleep => exact ⟨_, rfl, Part.serve_kept Part.doSleep_kept⟩
  | keepalive => exact ⟨_, rfl, Part.serve_kept Part.doKeepalive_kept⟩
  | updOpen => exact ⟨_, rfl, Part.serve_kept Part.doUpdOpen_kept⟩
  | updErase => exact ⟨_, rfl, Part.serve_kept Part.doUpdErase_kept⟩
  | updWrite => exact ⟨_, rfl, Part.serve_kept Part.doUpdWrite_kept⟩
  | updCheck => exact ⟨_, rfl, Part.serve_kept Part.doUpdCheck_kept⟩
  | updCommit => exact ⟨_, rfl, Part.serve_kept Part.doUpdCommit_kept⟩
  | updAbort => exact ⟨_, rfl, Part.serve_kept Part.doUpdAbort_kept⟩
  | updStatus => exact ⟨_, rfl, Part.serve_kept Part.doUpdStatus_kept⟩
  | readImage => exact ⟨_, rfl, Part.serve_kept Part.doReadImage_kept⟩
  | clearTamper => exact ⟨_, rfl, Part.serve_kept Part.doClearTamper_kept⟩
  | resetSouth => exact ⟨_, rfl, Part.serve_kept Part.doResetSouth_kept⟩
  | restart => exact ⟨_, rfl, Part.serve_kept Part.doRestart_kept⟩
  | powerOn => cases other
  | resetN => cases other
  | restartEffect => cases other
  | boot => cases other
  | tableLoadComplete => cases other
  | eraseComplete => cases other
  | writeProgrammingEnd => cases other
  | setTime => cases other

theorem kept_of_exec {i : Instr} {q q' : List Instr} (h : exec i ⟨c, q⟩ = .next ⟨t, q'⟩) (other : replaces i = false) :
    Kept c t := by
  obtain ⟨t', next, kept⟩ := exec_kept i c q other
  cases next.symm.trans h
  exact kept

/-! ### Pack time and the tables in use -/

/-- Settles O2: the tick is evaluated, and pack time is no command's but SET_TIME's. -/
theorem clocksAdvanceOnIdleSteps : Obligations.ClocksAdvanceOnIdleSteps := by
  refine ⟨fun c => ⟨fun awake => ?_, fun deep => ?_⟩, fun i c t q noReset noSet h => ?_⟩
  · exact congrArg (fun part => Host.Outcome.next (State.mk part [])) (if_neg awake)
  · exact congrArg (fun part => Host.Outcome.next (State.mk part [])) (if_pos deep)
  · by_cases special : replaces i = true
    · cases i <;> simp [replaces, restarts] at special noReset noSet
      case boot =>
        cases h
        simp
      case tableLoadComplete =>
        cases h
        simp
      case eraseComplete =>
        cases h
        simp
      case writeProgrammingEnd =>
        rw [exec_writeProgrammingEnd] at h
        repeat' split at h
        all_goals cases h
        all_goals simp
    · exact (kept_of_exec h (Bool.eq_false_iff.mpr special)).packTime

/-- SET_TIME moves times, and neither tables nor banks. -/
theorem Part.serve_setTime_store (c : Part) : (c.serve .setTime Part.doSetTime).store.tables = c.store.tables ∧
    (c.serve .setTime Part.doSetTime).store.banks = c.store.banks := by
  obtain same | ⟨x, -, ⟨k, refused⟩ | ⟨ruled, -⟩⟩ := c.serve_cases .setTime Part.doSetTime
  · simp [same]
  · simp [refused, Store.banks]
  · rw [ruled]
    unfold Part.doSetTime
    split <;> simp [Store.banks]

/-- Settles O10: of the commands that replace something, only the boot, the load and the resets replace tables. -/
theorem tablesInUseAreKept : Obligations.TablesInUseAreKept := by
  intro i c t q noReset noBoot noLoad h
  by_cases special : replaces i = true
  · cases i <;> simp [replaces, restarts] at special noReset noBoot noLoad
    case eraseComplete =>
      cases h
      exact c.eraseDone_tables
    case writeProgrammingEnd =>
      rw [exec_writeProgrammingEnd] at h
      repeat' split at h
      all_goals cases h
      · rfl
      · exact Part.programmed_tables ..
    case setTime =>
      cases h
      exact c.serve_setTime_store.1
  · exact (kept_of_exec h (Bool.eq_false_iff.mpr special)).tables

/-! ### The bytes of the banks -/

/-- What a command makes of the banks' bytes: they stay, or the target bank takes other bytes. -/
def Part.Stores (c t : Part) : Prop :=
  (∀ n, (t.store.bank n).bytes = (c.store.bank n).bytes) ∨
  ∃ m : Memory, (c.bankLaws = true → m.wf = true) ∧
    ∀ n, (t.store.bank n).bytes = if n = c.store.target then m else (c.store.bank n).bytes

theorem Part.bankLaws_iff (c : Part) : c.bankLaws = true ↔ ∀ n, (c.store.bank n).bytes.wf = true := by
  simp only [Part.bankLaws, Bool.and_eq_true]
  exact ⟨fun h n => by cases n; exacts [h.1, h.2], fun h => ⟨h .a, h .b⟩⟩

theorem Part.Stores.of_setBank {x : Bank} (wf : c.bankLaws = true → x.bytes.wf = true)
    (h : t.store.banks = (c.store.setBank c.store.target x).banks) : c.Stores t := by
  refine .inr ⟨x.bytes, wf, fun n => ?_⟩
  rw [Store.bank_eq_of_banks h]
  by_cases same : n = c.store.target
  · rw [if_pos same, same, Store.bank_setBank_self]
  · rw [if_neg same, Store.bank_setBank_of_ne _ _ _ same]

theorem Part.eraseDone_stores (c : Part) : c.Stores c.eraseDone := by
  obtain same | erased := c.eraseDone_banks
  · exact .inl fun n => by rw [Store.bank_eq_of_banks same]
  · exact .of_setBank (fun _ => rfl) erased

theorem Part.writeAll_target_wf (offset : Nat) (data : List Byte) (fits : offset + data.length ≤ bankSize)
    (laws : c.bankLaws = true) : (c.store.targetBank.bytes.writeAll offset data).wf = true :=
  Memory.writeAll_wf data ((Part.bankLaws_iff c).mp laws _) fits

theorem Part.programmed_stores (q : List Instr) {p : Programming} (fits : p.offset + p.data.length ≤ bankSize) :
    c.Stores (c.programmed q p) :=
  .of_setBank (Part.writeAll_target_wf _ _ fits) (Part.programmed_banks ..)

theorem Part.cutErase_stores (c : Part) : c.Stores c.cutErase := by
  unfold Part.cutErase
  split
  · refine .of_setBank (Part.writeAll_target_wf 0 _ ?_) rfl
    simp [freeBytes]
  · exact .inl fun _ => rfl

theorem Part.cutProgramming_stores (c : Part) : c.Stores c.cutProgramming := by
  unfold Part.cutProgramming
  split
  · exact .inl fun _ => rfl
  next p _ =>
    split
    next fits =>
      refine .of_setBank (Part.writeAll_target_wf p.offset _ ?_) rfl
      simpa [freeBytes] using fits
    · exact .inl fun _ => rfl

theorem Part.Stores.bankLaws (h : c.Stores t) (laws : c.bankLaws = true) : t.bankLaws = true := by
  have wf := (Part.bankLaws_iff c).mp laws
  rw [Part.bankLaws_iff]
  intro n
  obtain same | ⟨m, canonical, stored⟩ := h
  · rw [same]
    exact wf n
  · rw [stored]
    split
    · exact canonical laws
    · exact wf n

theorem Part.Stores.trans {d : Part} (h : c.Stores d) (h' : d.Stores t) (target : d.store.target = c.store.target) :
    c.Stores t := by
  have kept := h.bankLaws
  obtain same' | ⟨m', canonical', stored'⟩ := h'
  · obtain same | ⟨m, canonical, stored⟩ := h
    · exact .inl fun n => (same' n).trans (same n)
    · exact .inr ⟨m, canonical, fun n => (same' n).trans (stored n)⟩
  · refine .inr ⟨m', canonical' ∘ kept, fun n => ?_⟩
    rw [stored', target]
    split
    · rfl
    next other =>
      obtain same | ⟨m, -, stored⟩ := h
      · exact same n
      · rw [stored, if_neg other]

theorem Part.resetPart_bytes (c : Part) (n : BankName) :
    (c.resetPart.store.bank n).bytes = (c.cutErase.cutProgramming.store.bank n).bytes := by
  have record : c.cutErase.cutProgramming.cutRecord.store.banks = c.cutErase.cutProgramming.store.banks := by
    unfold Part.cutRecord
    repeat' split
    all_goals rfl
  rw [Part.resetPart_eq, ← Store.bank_eq_of_banks record]
  cases n <;> simp [Store.bank, Part.updateWatches, Part.afresh]

theorem stores_of_exec {i : Instr} {q q' : List Instr} (h : exec i ⟨c, q⟩ = .next ⟨t, q'⟩) : c.Stores t := by
  have reset : c.Stores c.resetPart := by
    have cut := c.cutErase_stores.trans c.cutErase.cutProgramming_stores (by simp [Store.target])
    exact cut.trans (.inl c.resetPart_bytes) (by simp [Store.target])
  by_cases special : replaces i = true
  · cases i <;> simp [replaces, restarts] at special
    case powerOn => cases h; exact reset
    case resetN => cases h; exact reset
    case restartEffect =>
      cases h
      show c.Stores c.restartEffect
      unfold Part.restartEffect
      repeat' split
      · exact reset
      all_goals exact .inl fun _ => rfl
    case boot => cases h; exact .inl c.boot_bytes
    case tableLoadComplete => cases h; exact .inl c.loadDone_bytes
    case eraseComplete => cases h; exact c.eraseDone_stores
    case writeProgrammingEnd =>
      rw [exec_writeProgrammingEnd] at h
      split at h
      · cases h
        exact .inl fun _ => rfl
      · split at h
        next fits => cases h; exact Part.programmed_stores q fits
        · cases h
    case setTime =>
      cases h
      exact .inl fun n => congrArg Bank.bytes (Store.bank_eq_of_banks c.serve_setTime_store.2 n)
  · exact .inl (kept_of_exec h (Bool.eq_false_iff.mpr special)).bytes

/-- Settles O7: what is stored lies inside the target bank. -/
theorem bankLawsAreKept : Obligations.BankLawsAreKept := by
  intro s s' laws h
  obtain ⟨c, _ | ⟨i, q⟩⟩ := s
  · cases h
    unfold Part.tick
    dsimp only
    split <;> exact laws
  · exact (stores_of_exec (t := s'.part) (q' := s'.pending) h).bankLaws laws

/-- Settles O11: what is stored lies in the target bank, which is not the active one. -/
theorem activeBankBytesAreKept : Obligations.ActiveBankBytesAreKept := by
  intro i c t q n active h
  obtain same | ⟨m, -, stored⟩ := stores_of_exec h
  · exact same n
  · rw [stored, if_neg (c.store.target_ne_active active)]

end Sys2Proof.Machine
end

section
/-! # The north link: sorting, acceptance, admission, transmission (R2, R3, R17, R25 to R28, R181) -/
namespace Sys2Proof.Machine

variable {c t : Part} {q : List Instr}

/-- A command whose effect on the part is known. -/
theorem exec_eq_next {i : Instr} {t' : Part} (effect : exec i ⟨c, q⟩ = .next ⟨t', q⟩) (same : t' = t) :
    exec i ⟨c, q⟩ = .next ⟨t, q⟩ := same ▸ effect

/-! ### Sorting (R3) -/

theorem sortNorth_of_none {r : Reception} (h : checkReception r = none) : sortNorth r = .checkFail := by
  rw [sortNorth, h]

theorem sortNorth_of_some {r : Reception} {f : Frame} (h : checkReception r = some f) : sortNorth r =
    match f.kind with
    | .mgmtReq => if f.dest = 0 then .request f else .discard
    | .command =>
      if f.dest = 31 then .broadcast f
      else if 1 ≤ f.dest.toNat ∧ f.dest.toNat ≤ 30 then .command f
      else .discard
    | _ => .discard := by
  rw [sortNorth, h] <;> rfl

theorem sortNorth_request {r : Reception} {f : Frame} (h : checkReception r = some f) (kind : f.kind = .mgmtReq)
    (dest : f.dest = 0) : sortNorth r = .request f := by
  rw [sortNorth_of_some h, kind]
  exact if_pos dest

theorem sortNorth_broadcast {r : Reception} {f : Frame} (h : checkReception r = some f) (kind : f.kind = .command)
    (dest : f.dest = 31) : sortNorth r = .broadcast f := by
  rw [sortNorth_of_some h, kind]
  exact if_pos dest

theorem sortNorth_command {r : Reception} {f : Frame} (h : checkReception r = some f) (kind : f.kind = .command)
    (low : 1 ≤ f.dest.toNat) (high : f.dest.toNat ≤ 30) : sortNorth r = .command f := by
  have dest : f.dest ≠ 31 := by rintro same; simp [same] at high
  rw [sortNorth_of_some h, kind]
  exact (if_neg dest).trans (if_pos ⟨low, high⟩)

theorem sortNorth_discard {r : Reception} {f : Frame} (h : checkReception r = some f)
    (nowhere : (f.kind = .mgmtReq ∧ f.dest ≠ 0) ∨ (f.kind = .command ∧ f.dest = 0) ∨
      (f.kind ≠ .mgmtReq ∧ f.kind ≠ .command)) : sortNorth r = .discard := by
  rw [sortNorth_of_some h]
  obtain ⟨kind, dest⟩ | ⟨kind, dest⟩ | ⟨notRequest, notCommand⟩ := nowhere
  · rw [kind]
    exact if_neg dest
  · simp [kind, dest]
  · cases kind : f.kind <;> simp_all

/-! ### Reception while the interface runs -/

theorem Part.northRunning_iff : c.northRunning = true ↔ c.power.state = .active ∨ c.power.state = .sleepEntry := by
  unfold Part.northRunning
  cases c.power.state <;> simp

section sorted

variable {r : Reception} {f : Frame} (runs : c.power.state = .active ∨ c.power.state = .sleepEntry)
include runs

theorem Part.receiveNorth_checkFail (sorted : sortNorth r = .checkFail) :
    c.receiveNorth q r = { c with north.crcErrors := bump16 c.north.crcErrors } := by
  simp [Part.receiveNorth, Part.northRunning_iff.mpr runs, sorted]

theorem Part.receiveNorth_discard (sorted : sortNorth r = .discard) : c.receiveNorth q r = c.kindDiscard := by
  simp [Part.receiveNorth, Part.northRunning_iff.mpr runs, sorted]

theorem Part.receiveNorth_request (sorted : sortNorth r = .request f) : c.receiveNorth q r = c.acceptRequest f := by
  simp [Part.receiveNorth, Part.northRunning_iff.mpr runs, sorted]

theorem Part.receiveNorth_command (sorted : sortNorth r = .command f) : c.receiveNorth q r = c.admitCommand f := by
  simp [Part.receiveNorth, Part.northRunning_iff.mpr runs, sorted]

theorem Part.receiveNorth_broadcast (sorted : sortNorth r = .broadcast f) : c.receiveNorth q r = c.admitBroadcast f := by
  simp [Part.receiveNorth, Part.northRunning_iff.mpr runs, sorted]

end sorted

/-- Settles O25: the two sorts that hand nothing on count once. -/
theorem northFramesThatGoNowhereAreCounted : Obligations.NorthFramesThatGoNowhereAreCounted := by
  intro c q runs
  refine ⟨fun r failed => ?_, fun bs f checked nowhere => ?_⟩
  · exact exec_eq_next rfl (Part.receiveNorth_checkFail runs (sortNorth_of_none failed))
  · exact exec_eq_next rfl (Part.receiveNorth_discard runs (sortNorth_discard checked nowhere))

/-! ### Acceptance (R181) -/

theorem Part.clearSilence_of_silent (loud : c.interlock.silence = false) : c.clearSilence = c := by
  simp [Part.clearSilence, loud]

/-- An object that is cleared is tripped no longer. -/
theorem Part.clearObject_not_mem (o : FaultObject) (c : Part) (f : Forming) :
    o ∉ (c.clearObject o f).interlock.tripped := by
  unfold Part.clearObject
  split
  · simp
  next absent => simpa using absent

/-- The silence condition ends with its object. -/
theorem Part.clearSilence_of_silence (silent : c.interlock.silence = true) :
    c.clearSilence.interlock.silence = false ∧ packObject .hostSilent ∉ c.clearSilence.interlock.tripped := by
  rw [Part.clearSilence, if_pos silent]
  exact ⟨by simp, Part.clearObject_not_mem (packObject .hostSilent) _ .now⟩

/-- An accepted request: it joins the queue, the silence condition ends, in ACTIVE supervision starts afresh. -/
theorem Part.acceptRequest_of_room (f : Frame) (room : c.mgmt.places < 4) : c.acceptRequest f =
    let cleared := Part.clearSilence { c with mgmt.requests := c.mgmt.requests ++ [f] }
    { cleared with
      interlock.supervision :=
        if c.power.state = .active then some (laterMs c.sched.packTime c.store.tables.params.supervisionMs)
        else c.interlock.supervision
      power.hostWake := false } := by
  rw [Part.acceptRequest, if_pos room]
  dsimp only
  generalize joined : Part.clearSilence _ = c1
  have power : c1.power.state = c.power.state := by simp [← joined]
  have now : c1.now = c.sched.packTime := by simp [← joined, Part.now]
  have tables : c1.tables = c.store.tables := by simp [← joined, Part.tables]
  have supervision : c1.interlock.supervision = c.interlock.supervision := by simp [← joined]
  by_cases active : c.power.state = .active
  · rw [if_pos (power.trans active), if_pos active, Part.restartSupervision, now, tables]
  · rw [if_neg (power.trans_ne active), if_neg active, ← supervision]

/-- Settles O26: an accepted request's effects in order; the silence condition goes with its object. -/
theorem managementRequestIsAccepted : Obligations.ManagementRequestIsAccepted := by
  intro c q bs f runs checked kind dest timer
  have effect : exec (.mgmtReqAccept bs) ⟨c, q⟩ = .next ⟨c.acceptRequest f, q⟩ :=
    exec_eq_next rfl (Part.receiveNorth_request runs (sortNorth_request checked kind dest))
  let joined : Part := { c with mgmt.requests := c.mgmt.requests ++ [f] }
  refine ⟨fun room loud => ?_, fun room silent => ?_, fun full => ?_⟩
  · refine exec_eq_next effect ((Part.acceptRequest_of_room f room).trans ?_)
    rw [Part.clearSilence_of_silent (c := joined) loud] <;> rfl
  · refine ⟨_, exec_eq_next effect (Part.acceptRequest_of_room f room), ?_⟩
    obtain ⟨ended, untripped⟩ := Part.clearSilence_of_silence (c := joined) silent
    exact ⟨by simp, ended, untripped, rfl, by simp, by simp, by simp, by simp⟩
  · exact exec_eq_next effect (if_neg (Nat.not_lt.mpr full))

/-! ### Admission (R25 to R28) -/

/-- Settles O27: the conditions of R25 and R26 are tested in order. -/
theorem commandIsForwardedOrRefused : Obligations.CommandIsForwardedOrRefused := by
  intro c q bs f runs checked kind refused d
  have refuse (st : SynthStatus) (payload : List Byte) : c.refuse f st payload = refused st.code payload := rfl
  refine ⟨fun low high unmapped => ?_, fun e low high mapped => ?_, fun dest => ?_⟩
  · have effect := Part.receiveNorth_command (q := q) runs (sortNorth_command checked kind low high)
    refine exec_eq_next rfl (effect.trans ?_)
    simp only [Part.admitCommand, Part.tables, unmapped]
    rfl
  · have effect := Part.receiveNorth_command (q := q) runs (sortNorth_command checked kind low high)
    have admitted : c.admitCommand f =
        if c.passes d.1 = false then c.refuse f .refused [byte d.2]
        else if c.router.clashes f.seq then c.refuse f .seqClash []
        else if c.power.state = .sleepEntry ∨ 8 ≤ c.router.trackedLoad ∨ 8 ≤ c.router.southQueue.length then
          c.refuse f .busy []
        else if c.south.link = .down then c.refuse f .linkDown [f.byte 0]
        else c.forwardTracked f e.position := by
      simp only [Part.admitCommand, Part.tables, mapped]
      rfl
    have clashes : c.router.clashes f.seq = true ↔ ∃ r ∈ c.router.tracker, r.seq = f.seq := by
      simp [Router.clashes]
    dsimp only
    rw [← clashes]
    have next {t : Part} (same : _ = t) : exec (.northCommand bs) ⟨c, q⟩ = .next ⟨t, q⟩ :=
      exec_eq_next rfl (effect.trans (admitted.trans same))
    have let_pass (passes : c.passes d.1 = true) : ¬ c.passes d.1 = false := by simp [passes]
    refine ⟨fun stops => next (if_pos stops), fun passes clash => next ?_, fun passes clear busy => next ?_,
      fun passes clear free down => next ?_, fun passes clear free up => next ?_⟩
    · exact (if_neg (let_pass passes)).trans (if_pos clash)
    · exact (if_neg (let_pass passes)).trans ((if_neg clear).trans (if_pos busy))
    · exact (if_neg (let_pass passes)).trans ((if_neg clear).trans ((if_neg free).trans (if_pos down)))
    · exact (if_neg (let_pass passes)).trans ((if_neg clear).trans ((if_neg free).trans (if_neg up)))
  · have effect := Part.receiveNorth_broadcast (q := q) runs (sortNorth_broadcast checked kind dest)
    have admitted : c.admitBroadcast f =
        if c.passes d.1 = false then c.refuse f .refused [byte d.2]
        else if c.power.state = .sleepEntry ∨ 8 ≤ c.router.southQueue.length then c.refuse f .busy []
        else if c.south.link = .down then c.refuse f .linkDown [f.byte 0]
        else c.forwardBroadcast f := rfl
    have next {t : Part} (same : _ = t) : exec (.broadcastCommand bs) ⟨c, q⟩ = .next ⟨t, q⟩ :=
      exec_eq_next rfl (effect.trans (admitted.trans same))
    have let_pass (passes : c.passes d.1 = true) : ¬ c.passes d.1 = false := by simp [passes]
    refine ⟨fun stops => next (if_pos stops), fun passes busy => next ?_, fun passes free down => next ?_,
      fun passes free up => next ?_⟩
    · exact (if_neg (let_pass passes)).trans (if_pos busy)
    · exact (if_neg (let_pass passes)).trans ((if_neg free).trans (if_pos down))
    · rw [if_neg (let_pass passes), if_neg free, if_neg up, Part.forwardBroadcast, forwardedFrame]

/-! ### The north transmit arbiter (R17) -/

/-- The arbiter on a free link while the interface runs. -/
theorem Part.northTransmit_of_free (runs : c.power.state = .active ∨ c.power.state = .sleepEntry)
    (free : linkFree c.sched.packTime c.north.wire = true) : c.northTransmit =
    match c.mgmt.responses with
    | r :: rest => Part.noteRestart r (Part.putNorth r.frame { c with mgmt.responses := rest })
    | [] =>
      match c.router.forward with
      | e :: rest => Part.putNorth e.frame { c with router.forward := rest }
      | [] =>
        match c.power.state, c.reports.queue with
        | .active, q :: rest => Part.handFill (Part.putNorth q.frame { c with reports.queue := rest })
        | _, _ => c := by
  have starts : ¬ (c.northRunning = false ∨ linkFree c.now c.north.wire = false) := by
    simp [Part.northRunning_iff.mpr runs, free, Part.now]
  rw [Part.northTransmit, if_neg starts] <;> rfl

/-- Settles O28: the three queues in their order. -/
theorem northTransmitterTakesByPriority : Obligations.NorthTransmitterTakesByPriority := by
  intro c q started runs
  refine ⟨fun runs free r rest responses => ?_, fun runs free responses e rest forward => ?_,
    fun free responses forward active r rest queue => ?_, fun idle => ?_⟩
  · refine exec_eq_next rfl ((Part.northTransmit_of_free runs free).trans ?_)
    rw [responses]
    dsimp only [Part.noteRestart]
    split <;> rfl
  · refine exec_eq_next rfl ((Part.northTransmit_of_free runs free).trans ?_)
    rw [responses, forward]
    rfl
  · refine exec_eq_next rfl ((Part.northTransmit_of_free (.inl active) free).trans ?_)
    rw [responses, forward, active, queue]
    rfl
  · refine exec_eq_next rfl ?_
    show c.northTransmit = c
    obtain busy | deep | patrol | ⟨responses, forward, rest⟩ := idle
    · exact if_pos (.inr busy)
    · exact if_pos (.inl (by simp [Part.northRunning, deep]))
    · exact if_pos (.inl (by simp [Part.northRunning, patrol]))
    · unfold Part.northTransmit
      split
      · rfl
      · obtain entry | empty := rest <;> simp [responses, forward, *]

end Sys2Proof.Machine
end

section
/-! # Frames are read back (R2, R192, section 11.1) -/
namespace Sys2Proof.Machine

theorem be_two_length (v : Nat) : (be 2 v).length = 2 := rfl

theorem Kind.ofCode_code (k : Kind) : Kind.ofCode (BitVec.ofNat 8 k.code) = some k := by cases k <;> rfl

theorem Kind.code_of_ofCode {b : Byte} {k : Kind} (h : Kind.ofCode b = some k) : BitVec.ofNat 8 k.code = b := by
  unfold Kind.ofCode at h
  apply BitVec.eq_of_toNat_eq
  split at h <;> cases h <;> rename_i value <;> rw [value] <;> rfl

theorem Frame.body_length (f : Frame) : f.body.length = 6 + f.payload.length := by
  simp [Frame.body]
  omega

/-- The frame check on six header bytes, a payload and two bytes of CRC. -/
theorem parseFrame_cons (d s k q l st : Byte) (payload crc : List Byte) (two : crc.length = 2) :
    parseFrame (d :: s :: k :: q :: l :: st :: (payload ++ crc)) =
      if 64 < l.toNat ∨ payload.length ≠ l.toNat then none
      else if be 2 (crc16 (d :: s :: k :: q :: l :: st :: payload)).toNat ≠ crc then none
      else (Kind.ofCode k).map fun kind =>
        { dest := d, source := s, kind := kind, seq := q, status := st, payload := payload } := by
  have length : (d :: s :: k :: q :: l :: st :: (payload ++ crc)).length = payload.length + 8 := by simp [two]
  have front : (d :: s :: k :: q :: l :: st :: (payload ++ crc)).take (payload.length + 8 - 2) =
      d :: s :: k :: q :: l :: st :: payload := by simp
  have back : (d :: s :: k :: q :: l :: st :: (payload ++ crc)).drop (payload.length + 8 - 2) = crc := by simp
  unfold parseFrame
  dsimp only
  rw [length, front, back]
  by_cases bad : 64 < l.toNat ∨ payload.length ≠ l.toNat
  · rw [if_pos bad, if_pos (by omega)]
  · rw [if_neg bad, if_neg (by omega)]
    have whole : (payload ++ crc).take l.toNat = payload := by
      rw [show l.toNat = payload.length by omega, List.take_left]
    rw [whole]
    cases Kind.ofCode k <;> rfl

/-- Bytes that pass the check have a header, a payload and a CRC. -/
theorem parseFrame_shape {bs : List Byte} {f : Frame} (h : parseFrame bs = some f) :
    ∃ d s k q l st payload crc, bs = d :: s :: k :: q :: l :: st :: (payload ++ crc) ∧ crc.length = 2 := by
  unfold parseFrame at h
  split at h
  next d s k q l st rest =>
    split at h
    · cases h
    next sized =>
      simp only [List.length_cons, not_or, not_lt] at sized
      refine ⟨d, s, k, q, l, st, rest.take (rest.length - 2), rest.drop (rest.length - 2), by simp, ?_⟩
      simp only [List.length_drop]
      omega
  · cases h

/-- Settles O19: a frame's bytes are taken apart as they were put together. -/
theorem framesAreReadBack : Obligations.FramesAreReadBack := by
  refine ⟨by decide +kernel, fun f short => ?_, fun bs f read => ?_⟩
  · have length : (BitVec.ofNat 8 f.payload.length : Byte).toNat = f.payload.length := by
      simp only [BitVec.toNat_ofNat]
      omega
    have bytes : f.bytes = f.dest :: f.source :: BitVec.ofNat 8 f.kind.code :: f.seq ::
        BitVec.ofNat 8 f.payload.length :: f.status :: (f.payload ++ be 2 (crc16 f.body).toNat) := rfl
    rw [bytes, parseFrame_cons _ _ _ _ _ _ _ _ rfl, length, if_neg (by omega), if_neg (by simp [Frame.body]),
      Kind.ofCode_code]
    rfl
  · obtain ⟨d, s, k, q, l, st, payload, crc, rfl, two⟩ := parseFrame_shape read
    rw [parseFrame_cons _ _ _ _ _ _ _ _ two] at read
    split at read
    · cases read
    next sized =>
      split at read
      · cases read
      next summed =>
        obtain ⟨kind, known, rfl⟩ := Option.map_eq_some_iff.mp read
        have length : BitVec.ofNat 8 payload.length = l := by
          apply BitVec.eq_of_toNat_eq
          rw [BitVec.toNat_ofNat]
          omega
        refine ⟨?_, by dsimp only; omega⟩
        simp only [Frame.bytes, Frame.body, Kind.code_of_ofCode known, length]
        rw [← not_ne_iff.mp summed]
        rfl

end Sys2Proof.Machine
end

section
/-! # Resets and the boot (R19, R118, R161, R162, R168, R169, R180, R191) -/
namespace Sys2Proof.Machine

variable {c t : Part} {q : List Instr}

/-! ### What a reset cuts off -/

theorem Part.cutErase_of_ne (h : c.store.update ≠ .erasing) : c.cutErase = c := if_neg h

theorem Part.cutProgramming_of_none (h : c.mgmt.programming = none) : c.cutProgramming = c := by
  simp [Part.cutProgramming, h]

theorem Part.cutRecord_of_idle (h : c.store.write = .idle) : c.cutRecord = c := by
  simp [Part.cutRecord, h, RecordWrite.current]

/-- The watch of a contactor after a reset: it follows its feedback (R105). -/
def watchAfresh (closed : Bool) : ContactorState := { watch := if closed then .timing 50000#32 else .armed }

theorem Part.withContactor_self (k : Contactor) (c : Part) : c.withContactor k (c.seq.contactor k) = c := by
  cases k <;> rfl

theorem Part.updateWatch_fresh {k : Contactor} (active : c.power.state = .active) (fresh : c.seq.contactor k = {})
    (now : c.now = 0#32) (debounce : c.tables.params.debounceMs = 50) :
    c.updateWatch k = c.withContactor k (watchAfresh (c.feedback k)) := by
  cases feedback : c.feedback k with
  | false =>
    have same := c.withContactor_self k
    rw [fresh] at same
    simp [Part.updateWatch, active, fresh, feedback, watchAfresh, same]
  | true => simp [Part.updateWatch, active, fresh, feedback, watchAfresh, now, debounce, laterMs, later]

theorem Part.updateWatches_afresh (c : Part) : c.afresh.updateWatches =
    { c.afresh with
      seq := { kPos := watchAfresh c.lines.feedback.kPos, kNeg := watchAfresh c.lines.feedback.kNeg,
               kPre := watchAfresh c.lines.feedback.kPre } } := by
  rw [Part.updateWatches, Part.updateWatch_fresh (k := .kPos) rfl rfl rfl rfl,
    Part.updateWatch_fresh (k := .kNeg) rfl rfl rfl rfl, Part.updateWatch_fresh (k := .kPre) rfl rfl rfl rfl] <;> rfl

/-- RESTART_EFFECT in each state of a taken RESTART (R191). -/
theorem Part.restartEffect_of_answered {ends : Time} (h : c.mgmt.restart = .answered ends) : c.restartEffect =
    if atOrAfter c.now ends = true ∧ c.store.write = .idle then c.resetPart else c := by
  simp [Part.restartEffect, h]

/-- Settles O22: with nothing in progress a reset cuts off nothing, and the fresh part is evaluated. -/
theorem resetTakesEveryBlockToItsResetValues : Obligations.ResetTakesEveryBlockToItsResetValues := by
  intro c q watch t
  refine ⟨fun idle noErase noProgramming => ?_, ?_, fun early => ?_⟩
  · have fresh : c.resetPart = t := by
      rw [Part.resetPart_eq, Part.cutErase_of_ne noErase, Part.cutProgramming_of_none noProgramming,
        Part.cutRecord_of_idle idle, Part.updateWatches_afresh] <;> rfl
    refine ⟨exec_eq_next rfl fresh, exec_eq_next rfl fresh, fun ends answered ended => exec_eq_next rfl ?_⟩
    exact (Part.restartEffect_of_answered answered).trans ((if_pos ⟨ended, idle⟩).trans fresh)
  · have zero : t.counters = List.replicate t.counters.length 0 := rfl
    and_intros
    all_goals first | rfl | exact fun n h => List.eq_of_mem_replicate (zero ▸ h)
  · refine exec_eq_next rfl ?_
    show c.restartEffect = c
    cases restart : c.mgmt.restart with
    | answered ends =>
      rw [Part.restartEffect_of_answered restart, if_neg]
      rintro ⟨ended, idle⟩
      simp_all [Part.now]
    | notTaken => simp [Part.restartEffect, restart]
    | taken => simp [Part.restartEffect, restart]

theorem Memory.read_erase_of_ne {a x : Nat} (other : x ≠ a) (m : Memory) : (m.erase a).read x = m.read x := by
  induction m with
  | nil => rfl
  | cons cell rest ih =>
    unfold Memory.erase
    split
    next at_a => simp [Memory.read, at_a, Ne.symm other]
    next => simp [Memory.read, ih]

theorem Memory.read_write_of_ne {a x : Nat} (other : x ≠ a) (m : Memory) (b : Byte) : (m.write a b).read x = m.read x := by
  unfold Memory.write
  split
  · exact Memory.read_erase_of_ne other m
  · simp [Memory.read_insert, other]

/-- A run of writes leaves every byte outside it. -/
theorem Memory.read_writeAll_of_outside {x : Nat} (bs : List Byte) (m : Memory) (a : Nat)
    (outside : x < a ∨ a + bs.length ≤ x) : (m.writeAll a bs).read x = m.read x := by
  induction bs generalizing m a with
  | nil => rfl
  | cons b bs ih =>
    rw [List.length_cons] at outside
    rw [Memory.writeAll, ih _ _ (by omega), Memory.read_write_of_ne (by omega)]

/-- A programming that is cut off leaves every byte of the target bank that it was not to reach. -/
theorem Part.cutProgramming_read {a : Nat}
    (outside : ∀ p, c.mgmt.programming = some p → a < p.offset ∨ p.offset + p.data.length ≤ a) :
    (c.cutProgramming.store.bank c.store.target).bytes.read a = (c.store.bank c.store.target).bytes.read a := by
  unfold Part.cutProgramming
  split
  · rfl
  next p programming =>
    split
    · dsimp only
      rw [Store.bank_setBank_self]
      refine Memory.read_writeAll_of_outside _ _ _ ?_
      simpa [freeBytes] using outside p programming
    · rfl

theorem Part.resetPart_stores (c : Part) : c.Stores c.resetPart :=
  stores_of_exec (i := .resetN) (q := []) (q' := []) rfl

/-- Settles O23: what is cut off is the record write, the erase and the programming; the rest of the store is fresh. -/
theorem resetCutsOffMemoryWrites : Obligations.ResetCutsOffMemoryWrites := by
  intro i c q row
  have exec : exec i ⟨c, q⟩ = .next ⟨c.resetPart, q⟩ := by
    obtain rfl | rfl := row <;> rfl
  refine ⟨c.resetPart, exec, ?_, fun n a apart => ?_, ?_⟩
  · have write : c.cutErase.cutProgramming.store.write = c.store.write := by simp
    have record : c.cutErase.cutProgramming.store.record = c.store.record := by simp
    have memory : c.resetPart.store.record = c.cutErase.cutProgramming.cutRecord.store.record := by
      rw [Part.resetPart_eq, Part.updateWatches_afresh] <;> rfl
    rw [memory]
    obtain same | ⟨r, d, writing, lands, now⟩ := Part.cutRecord_record c.cutErase.cutProgramming
    · exact .inl (same.trans record)
    · rw [write] at writing
      rw [ServiceRecord.mayLand, Store.recordAsRead, record] at lands
      refine .inr ⟨r, d, ?_, now, ?_⟩
      · cases state : c.store.write <;> simp_all [RecordWrite.current]
      · grind
  · by_cases target : n = c.store.target
    · obtain other | ⟨noErase, outside⟩ := apart
      · exact absurd target other
      · rw [target, Part.resetPart_bytes, Part.cutErase_of_ne noErase, Part.cutProgramming_read outside]
    · obtain same | ⟨m, -, stored⟩ := c.resetPart_stores
      · rw [same]
      · rw [stored, if_neg target]
  · rw [Part.resetPart_eq, Part.updateWatches_afresh]
    exact ⟨rfl, rfl, rfl, rfl⟩

end Sys2Proof.Machine
end

section
/-! # The boot (R159, R160, R162, R163) -/
namespace Sys2Proof.Machine

variable {c d t : Part} {q : List Instr}

/-! ### The lockout flag of the record copy follows the entry to LOCKED_OUT (R118) -/

/-- The flag is set exactly by an entry to LOCKED_OUT, which is not left. -/
structure Locks (c d : Part) : Prop where
  stays : c.seq.conn = .lockedOut → d.seq.conn = .lockedOut
  flag : d.store.copy.lockout = (c.store.copy.lockout || decide (c.seq.conn ≠ .lockedOut ∧ d.seq.conn = .lockedOut))

theorem Locks.trans {e : Part} (h : Locks c d) (h' : Locks d e) : Locks c e := by
  refine ⟨h'.stays ∘ h.stays, ?_⟩
  have stays := h.stays
  have stays' := h'.stays
  rw [h'.flag, h.flag, Bool.or_assoc, ← Bool.decide_or]
  congr 2
  grind

theorem Locks.of_same (conn : d.seq.conn = c.seq.conn) (copy : d.store.copy.lockout = c.store.copy.lockout) : Locks c d :=
  ⟨conn.trans, by simp [conn, copy]⟩

theorem Locks.refl (c : Part) : Locks c c := .of_same rfl rfl

theorem Locks.after {e : Part} (h : Locks d e) (conn : d.seq.conn = c.seq.conn)
    (copy : d.store.copy.lockout = c.store.copy.lockout) : Locks c e := (Locks.of_same conn copy).trans h

/-- A move that LOCKED_OUT has no part in. -/
theorem Locks.of_control {k : ConnState} {v : Bool × Bool × Bool} (left : c.seq.conn ≠ .lockedOut) (entered : k ≠ .lockedOut)
    (shape : d.control = { c.control with conn := k, drives := v }) : Locks c d := by
  have conn : d.seq.conn = k := congrArg (·.conn) shape
  have copy : d.store.copy = c.store.copy := congrArg (·.copy) shape
  exact ⟨(absurd · left), by simp [conn, entered, copy]⟩

/-- LOCKED_OUT is entered, with the flag (R118). -/
theorem Locks.enterLockedOut (left : c.seq.conn ≠ .lockedOut) (before : ConnState) (d : Part) :
    Locks c (d.enterLockedOut before) := by
  obtain ⟨w, shape, -⟩ := Part.enterLockedOut_control before d
  have conn : (d.enterLockedOut before).seq.conn = .lockedOut := congrArg (·.conn) shape
  have copy : (d.enterLockedOut before).store.copy.lockout = true := congrArg (·.copy.lockout) shape
  exact ⟨fun _ => conn, by simp [conn, copy, left]⟩

theorem Part.endOpening_locks (opening : c.seq.conn = .opening) : Locks c c.endOpening := by
  have left : c.seq.conn ≠ .lockedOut := by simp [opening]
  unfold Part.endOpening
  dsimp only
  by_cases pending : c.seq.pendingLockout.isSome = true
  · rw [if_pos pending]
    exact .enterLockedOut left ..
  · rw [if_neg pending]
    refine ⟨(absurd · left), ?_⟩
    simp only [if_neg pending]
    split <;> simp

theorem Part.advanceOpening_locks (c : Part) : Locks c c.advanceOpening := by
  unfold Part.advanceOpening
  have goes : Locks c (if c.seq.conn = .opening ∧ c.feedback .kPos = false then c.drive .kNeg false else c) := by
    split
    · exact .of_same (by simp) (by simp)
    · exact .refl c
  revert goes
  generalize (if c.seq.conn = .opening ∧ c.feedback .kPos = false then c.drive .kNeg false else c) = c1
  intro goes
  dsimp only
  split
  next ends => exact goes.trans (Part.endOpening_locks ends.1)
  next => exact goes

theorem Part.startOpening_locks (cause : Cause) (left : c.seq.conn ≠ .lockedOut) : Locks c (c.startOpening cause) :=
  (Locks.of_control left (by simp) (c.enterOpening_control cause)).trans (Part.advanceOpening_locks _)

theorem Part.takeAction_locks (x : Action) (c : Part) : Locks c (c.takeAction x) := by
  unfold Part.takeAction
  dsimp only
  split
  · exact .refl c
  · generalize (c.dueClass x).getD .contactorFault = due
    generalize pending : (if x = .lockout ∧ c.seq.conn ≠ .lockedOut then { c with seq.pendingLockout := some due } else c : Part) = c1
    have control : c1.control = c.control := by subst pending; split <;> rfl
    have conn : c1.seq.conn = c.seq.conn := congrArg ControlView.conn control
    have kept : Locks c c1 := .of_same conn (congrArg (·.copy.lockout) control)
    have opens (left : c.seq.conn ≠ .lockedOut) : Locks c (c1.startOpening (.cls due)) :=
      kept.trans (Part.startOpening_locks _ (conn ▸ left))
    have aborts (left : c.seq.conn ≠ .lockedOut) :
        Locks c (if x = .lockout then (c1.abortToOpen (.cls due)).enterLockedOut .opened else c1.abortToOpen (.cls due)) := by
      split
      · exact .enterLockedOut left ..
      · exact kept.trans (.of_control (conn ▸ left) (by simp) (c1.abortToOpen_control _))
    cases state : c.seq.conn
    case opened =>
      dsimp only
      split
      · exact .enterLockedOut (by simp [state]) ..
      · exact kept
    case negClosing => exact aborts (by simp [state])
    case precharging => exact aborts (by simp [state])
    case mainClosing => exact opens (by simp [state])
    case closed =>
      cases x
      case openSoft => exact kept.trans (.of_control (k := .softOpening) (v := c1.control.drives) (by simp [conn, state]) (by simp) rfl)
      case openNow => exact opens (by simp [state])
      case lockout => exact opens (by simp [state])
      all_goals exact kept
    case softOpening =>
      cases x
      case openNow => exact opens (by simp [state])
      case lockout => exact opens (by simp [state])
      all_goals exact kept
    case opening => exact kept
    case lockedOut => exact kept

theorem Part.driveFaultOut_locks (c : Part) : Locks c c.driveFaultOut := .of_same rfl rfl

theorem Part.refreshAction_locks (c : Part) : Locks c c.refreshAction := by
  unfold Part.refreshAction
  dsimp only
  split
  · exact .of_same rfl rfl
  · exact ((Part.takeAction_locks ..).trans (Part.driveFaultOut_locks _)).after rfl rfl

theorem Part.formAction_locks (f : Forming) (c : Part) : Locks c (c.formAction f) := by
  cases f
  · exact c.refreshAction_locks
  · exact .refl c

theorem Part.countTrip_locks (o : FaultObject) (c : Part) : Locks c (c.countTrip o) := by
  unfold Part.countTrip
  split
  · exact .refl _
  · exact (Part.formAction_locks ..).after rfl rfl

theorem Part.tripObject_locks (o : FaultObject) (c : Part) : Locks c (c.tripObject o) := by
  unfold Part.tripObject
  split
  · exact c.countTrip_locks o
  · exact (c.countTrip_locks o).trans (.of_same (by simp) (by simp))

theorem Part.setCondition_locks (k : FaultClass) (c : Part) : Locks c (c.setCondition k) :=
  (Part.tripObject_locks ..).after (by simp) (by simp)

/-! ### The boot's steps -/

section tables

variable (s : Store)

theorem Store.bootTables_eq : ∃ k tables v, s.bootTables = { s with state := k, tables := tables, versionInUse := v } := by
  unfold Store.bootTables
  dsimp only
  repeat' split
  all_goals exact ⟨_, _, _, rfl⟩

/-- The active image passes: its tables are taken into use (R162). -/
theorem Store.bootTables_of_staged {n : BankName} (active : s.copy.active = some n)
    (passes : checkImage (s.bank n).bytes (fun v => decide (v = s.copy.floor)) = .staged) : s.bootTables =
    { s with state := .configured, tables := loadTables (s.bank n).bytes, versionInUse := some (imageVersion (s.bank n).bytes) } := by
  simp [Store.bootTables, active, passes]

/-- There is no active image, or it fails (R163). -/
theorem Store.bootTables_of_none
    (fails : ∀ n, s.copy.active = some n → checkImage (s.bank n).bytes (fun v => decide (v = s.copy.floor)) ≠ .staged) :
    s.bootTables = { s with state := .unconfigured, tables := Tables.empty } := by
  unfold Store.bootTables
  split
  · rfl
  next n active => exact if_neg (fails n active)

end tables

/-- The record that the boot works with: the copy, or the record as read (R160, R162). -/
def Part.bootRecord (c : Part) : ServiceRecord := if c.store.recordRead then c.store.copy else c.store.record.getD {}

/-- The part with a record in its copy, and in LOCKED_OUT if the record says so (R101). -/
def Part.withRecord (r : ServiceRecord) (c : Part) : Part :=
  let copied : Part := { c with store.copy := r, store.recordRead := true }
  if r.lockout then { copied.openDrives with seq.conn := .lockedOut } else copied

theorem Part.readRecord_of_read (read : c.store.recordRead = true) : c.readRecord = c := if_pos read

/-- Boot step 1 on a record that has not been read: what it takes of the record, with LOCKED_OUT, and TAMPER (R101). -/
theorem Part.readRecord_of_unread (unread : c.store.recordRead = false) : c.readRecord =
    (if c.bootRecord.tamper then (c.withRecord c.bootRecord).setCondition .tamper
      else c.withRecord c.bootRecord).driveFaultOut := by
  have record : c.bootRecord = c.store.recordAsRead := by simp [Part.bootRecord, unread, Store.recordAsRead]
  rw [record]
  exact if_neg (by simp [unread])

theorem Part.withRecord_copy (r : ServiceRecord) (c : Part) :
    (c.withRecord r).store.copy = r ∧ (c.withRecord r).interlock = c.interlock := by
  unfold Part.withRecord
  dsimp only
  split <;> simp

theorem Part.withRecord_locked {r : ServiceRecord} (lockout : r.lockout = true) : (c.withRecord r).control =
    { c.control with conn := .lockedOut, drives := (false, false, false), copy := r, recordRead := true } := by
  let copied : Part := { c with store.copy := r, store.recordRead := true }
  have taken : c.withRecord r = { copied.openDrives with seq.conn := .lockedOut } := if_pos lockout
  calc (c.withRecord r).control = { copied.openDrives.control with conn := .lockedOut } := by rw [taken]; rfl
    _ = _ := by rw [Part.openDrives_control]; rfl

theorem Part.withRecord_flag (r : ServiceRecord) (c : Part) :
    r.lockout = (r.lockout || decide (c.seq.conn ≠ .lockedOut ∧ (c.withRecord r).seq.conn = .lockedOut)) := by
  cases lockout : r.lockout
  · have taken : (c.withRecord r).seq.conn = c.seq.conn := by simp [Part.withRecord, lockout]
    simp [taken]
  · rfl

theorem Part.readRecord_copy (c : Part) : c.readRecord.store.copy.active = c.bootRecord.active ∧
    c.readRecord.store.copy.floor = c.bootRecord.floor ∧ c.readRecord.store.copy.tamper = c.bootRecord.tamper := by
  obtain read | unread := Bool.eq_false_or_eq_true c.store.recordRead
  · simp [Part.readRecord_of_read read, Part.bootRecord, read]
  · rw [Part.readRecord_of_unread unread]
    split <;> simp [Part.withRecord_copy]

theorem Part.readRecord_locks (c : Part) : (c.seq.conn = .lockedOut → c.readRecord.seq.conn = .lockedOut) ∧
    c.readRecord.store.copy.lockout =
      (c.bootRecord.lockout || decide (c.seq.conn ≠ .lockedOut ∧ c.readRecord.seq.conn = .lockedOut)) := by
  obtain read | unread := Bool.eq_false_or_eq_true c.store.recordRead
  · simp [Part.readRecord_of_read read, Part.bootRecord, read]
  · have told : Locks (c.withRecord c.bootRecord) c.readRecord := by
      rw [Part.readRecord_of_unread unread]
      split
      · exact (Part.setCondition_locks ..).trans (Part.driveFaultOut_locks _)
      · exact Part.driveFaultOut_locks _
    have start : Locks { c with store.copy := c.bootRecord } (c.withRecord c.bootRecord) := by
      refine ⟨fun locked => ?_, ?_⟩
      · unfold Part.withRecord
        dsimp only
        split
        · rfl
        · exact locked
      · rw [(c.withRecord_copy _).1]
        exact c.withRecord_flag _
    exact ⟨(start.trans told).stays, (start.trans told).flag⟩

/-- A record with the lockout flag leads to LOCKED_OUT, every drive open. -/
theorem Part.readRecord_locked (unread : c.store.recordRead = false) (lockout : c.bootRecord.lockout = true) :
    c.readRecord.seq.conn = .lockedOut ∧ c.readRecord.contactorLaws = true := by
  have shape := Part.withRecord_locked (c := c) lockout
  have told : Calm .now (c.withRecord c.bootRecord) c.readRecord := by
    rw [Part.readRecord_of_unread unread]
    split
    · exact ((Calm.refl ..).setCondition .tamper).driveFaultOut
    · exact (Calm.refl ..).driveFaultOut
  have conn : (c.withRecord c.bootRecord).seq.conn = .lockedOut := congrArg (·.conn) shape
  refine ⟨told.lockedOut conn, told.contactors ?_⟩
  rw [Part.contactorLaws_iff, Part.drivesFit_eq, shape, conn]
  exact ⟨rfl, .inr rfl, .inr rfl⟩

/-- An object that trips is counted. -/
theorem Part.mem_tripObject (o : FaultObject) (c : Part) : o ∈ (c.tripObject o).interlock.tripped := by
  have counted : o ∈ (c.countTrip o).interlock.tripped := by
    unfold Part.countTrip
    split
    next tripped => simpa using tripped
    · simp
  unfold Part.tripObject
  split
  · exact counted
  · simpa using counted

theorem Part.readRecord_tamper (unread : c.store.recordRead = false) (tamper : c.bootRecord.tamper = true) :
    packObject .tamper ∈ c.readRecord.interlock.tripped := by
  rw [Part.readRecord_of_unread unread, if_pos tamper]
  exact Part.mem_tripObject ..

theorem Part.readRecord_tripped (h : c.store.recordRead = true ∨ c.bootRecord.tamper = false) :
    c.readRecord.interlock.tripped = c.interlock.tripped := by
  obtain read | unread := Bool.eq_false_or_eq_true c.store.recordRead
  · rw [Part.readRecord_of_read read]
  · have clear : c.bootRecord.tamper = false := h.resolve_left (by simp [unread])
    rw [Part.readRecord_of_unread unread, if_neg (by simp [clear])]
    exact congrArg (·.tripped) (c.withRecord_copy _).2

/-- What the forming of the action leaves of the part whose tables have changed, the bank states and tables with it. -/
theorem Part.tablesChanged_throttled (c : Part) : c.tablesChanged.sched.throttled =
    throttleFor c.tablesChanged.store.tables.header c.tablesChanged.reports.queue.length c.refreshAction.sched.throttled := rfl

theorem throttleFor_high {h : ScheduleHeader} {fill : Nat} {old : Bool} (full : h.highMark ≤ fill) :
    throttleFor h fill old = true := if_pos full

theorem throttleFor_low {h : ScheduleHeader} {fill : Nat} {old : Bool} (low : fill ≤ h.lowMark) (below : fill < h.highMark) :
    throttleFor h fill old = false := (if_neg (not_le.mpr below)).trans (if_pos low)

theorem Part.readRecord_banks (c : Part) : c.readRecord.store.bankA = c.store.bankA ∧
    c.readRecord.store.bankB = c.store.bankB := by simp

/-- Settles O24: the record's part of the boot, then the tables', then the action's. -/
theorem bootTakesTheActiveImage : Obligations.BootTakesTheActiveImage := by
  intro c q r stateOf
  refine ⟨fun loading => ⟨c.boot, rfl, ?_⟩, fun loaded => exec_eq_next rfl (if_neg loaded)⟩
  have record : c.bootRecord = r := rfl
  let c1 := c.readRecord
  let c2 : Part := { c1 with store := c1.store.findBanks.bootTables }
  have boot : c.boot = c2.tablesChanged := if_pos loading
  obtain ⟨active, floor, tamper⟩ : c1.store.copy.active = r.active ∧ c1.store.copy.floor = r.floor ∧
      c1.store.copy.tamper = r.tamper := record ▸ c.readRecord_copy
  have flag : c1.store.copy.lockout = (r.lockout || decide (c.seq.conn ≠ .lockedOut ∧ c1.seq.conn = .lockedOut)) :=
    record ▸ c.readRecord_locks.2
  have stays : c.seq.conn = .lockedOut → c1.seq.conn = .lockedOut := c.readRecord_locks.1
  have locked (unread : c.store.recordRead = false) (lockout : r.lockout = true) :
      c1.seq.conn = .lockedOut ∧ c1.contactorLaws = true := Part.readRecord_locked unread lockout
  have isSet (unread : c.store.recordRead = false) (tamper : r.tamper = true) : packObject .tamper ∈ c1.interlock.tripped :=
    Part.readRecord_tamper unread tamper
  have kept (h : c.store.recordRead = true ∨ r.tamper = false) : c1.interlock.tripped = c.interlock.tripped :=
    Part.readRecord_tripped h
  have read : c1.store.recordRead = true := c.readRecord_read
  have bankA : c1.store.bankA = c.store.bankA := c.readRecord_banks.1
  have bankB : c1.store.bankB = c.store.bankB := c.readRecord_banks.2
  clear_value c1 r
  let s := c1.store.findBanks
  have bank (n : BankName) : (s.bank n).bytes = (c.store.bank n).bytes := by
    cases n
    · show c1.store.bankA.bytes = c.store.bankA.bytes
      rw [bankA]
    · show c1.store.bankB.bytes = c.store.bankB.bytes
      rw [bankB]
  have stateA : s.bankA = { bytes := c.store.bankA.bytes, state := stateOf .a c.store.bankA } := by
    rw [← bankA]
    show Bank.mk c1.store.bankA.bytes (bootState c1.store.copy.active .a c1.store.bankA.bytes) = _
    rw [active] <;> rfl
  have stateB : s.bankB = { bytes := c.store.bankB.bytes, state := stateOf .b c.store.bankB } := by
    rw [← bankB]
    show Bank.mk c1.store.bankB.bytes (bootState c1.store.copy.active .b c1.store.bankB.bytes) = _
    rw [active] <;> rfl
  have copied : s.copy = c1.store.copy := rfl
  have readNow : s.recordRead = true := read
  have update : s.update = c1.store.update := rfl
  have store : c2.store = s.bootTables := rfl
  have seq : c2.seq = c1.seq := rfl
  have interlock : c2.interlock = c1.interlock := rfl
  have power : c2.power = c1.power := rfl
  clear_value c2 s
  obtain ⟨k, tables, v, found⟩ := s.bootTables_eq
  have locks : Locks c1 c2.tablesChanged := by
    refine Locks.after (d := c2) ((Part.refreshAction_locks c2).trans (.of_same rfl rfl)) (by rw [seq]) ?_
    simp [store, found, copied]
  have lawful : c1.contactorLaws = true → c2.contactorLaws = true := by
    have same : c2.store.update = c1.store.update := by simp [store, found, update]
    rw [Part.contactorLaws_iff, Part.contactorLaws_iff, same, power, seq]
    simp only [Part.drivesFit, seq]
    exact id
  have calm : Calm .now c2 c2.tablesChanged := ((Calm.refl .later c2).refreshAction).handFill
  have formed : c2.tablesChanged.formed := ((Calm.refl .now c2.refreshAction).handFill).formed rfl c2.refreshAction_formed
  have levelled : c2.tablesChanged.levelled := ((Calm.refl .now c2.refreshAction).handFill).levelled c2.refreshAction_levelled
  rw [boot]
  refine ⟨?_, ?_, ?_, ?_, ?_, ?_, fun n is passes => ?_, fun fails => ?_, ?_, fun unread lockout => ?_,
    fun unread tampered => ?_, fun h => ?_, formed, ?_, fun full => throttleFor_high full,
    fun low below => throttleFor_low low below⟩
  · simp [store, found, readNow]
  · simp [store, found, copied, active]
  · simp [store, found, copied, floor]
  · simp [store, found, copied, tamper]
  · simp [store, found, stateA]
  · simp [store, found, stateB]
  · have taken := s.bootTables_of_staged (n := n) (by rw [copied, active, is]) (by rw [bank, copied, floor]; exact passes)
    simp [store, taken, bank]
  · have taken := s.bootTables_of_none fun n is passes => by
      rw [bank, copied, floor] at passes
      rw [copied, active] at is
      obtain none | ⟨m, is', fails⟩ := fails
      · simp [none] at is
      · obtain rfl : m = n := Option.some.inj (is'.symm.trans is)
        exact fails passes
    simp [store, taken]
  · rw [locks.flag, flag, Bool.or_assoc, ← Bool.decide_or]
    congr 2
    have := locks.stays
    grind
  · obtain ⟨conn, laws⟩ := locked unread lockout
    have still := calm.lockedOut (by rw [seq]; exact conn)
    have fits := ((Part.contactorLaws_iff _).mp (calm.contactors (lawful laws))).1
    simp only [Part.drivesFit, still] at fits
    grind
  · simpa [interlock] using isSet unread tampered
  · simpa [interlock] using kept h
  · rw [levelled, Part.faultLevel, ← Bool.decide_or]
    rfl

end Sys2Proof.Machine
end

section
/-!
The south link: what it receives (R2, R5, R8, R11, R31 to R33, R52) and the loss of the link (R13, R37).
-/
namespace Sys2Proof.Machine

variable {c : Part}

/-! ### Sorting (R5) -/

/-- A south frame that passes the check, by destination, source and kind. -/
theorem sortSouth_of_checked {r : Reception} {f : Frame} (checked : checkReception r = some f) : sortSouth r =
    if f.dest ≠ 0 then .discard
    else match f.kind with
      | .command => .spoof
      | .mgmtReq => .spoof
      | .response => if 1 ≤ f.source.toNat ∧ f.source.toNat ≤ 16 then .response f.source.toNat f else .discard
      | .sample => if 1 ≤ f.source.toNat ∧ f.source.toNat ≤ 16 then .sample f.source.toNat f else .discard
      | .enumReply => if 1 ≤ f.source.toNat ∧ f.source.toNat ≤ 16 then .enumReply f.source.toNat f else .discard
      | _ => .discard := by
  rw [sortSouth, checked]
  cases kind : f.kind <;> simp [kind]

theorem Part.receiveSouth_off (r : Reception) (off : c.south.link = .off) : c.receiveSouth r = c := if_pos off

theorem Part.receiveSouth_running {r : Reception} (running : c.south.link ≠ .off) : c.receiveSouth r =
    match sortSouth r with
    | .checkFail => c.southCheckFail
    | .discard => c.goodFrame.kindDiscard
    | .spoof => c.goodFrame.takeSpoof
    | .response p f => c.goodFrame.takeResponse p f
    | .sample p f => c.goodFrame.takeSample p f
    | .enumReply p f => c.goodFrame.takeEnumReply p f := if_neg running

/-! ### The good-frame run (R11) -/

theorem Part.goodFrame_of_not_up (down : c.south.link ≠ .up) : c.goodFrame = c := if_neg down

theorem Part.goodFrame_of_short_run (up : c.south.link = .up) (short : c.south.goodRun + 1 < 64) :
    c.goodFrame = { c with south.goodRun := c.south.goodRun + 1 } :=
  (if_pos up).trans (if_neg (Nat.not_le.mpr short))

theorem Part.goodFrame_of_full_run (up : c.south.link = .up) (full : 64 ≤ c.south.goodRun + 1) :
    c.goodFrame = { c with south.errorCount := 0, south.goodRun := 0 } :=
  (if_pos up).trans (if_pos full)

/-- Settles O31: the sort by the frame's own fields, and the count of R11 before the discard. -/
theorem southFramesOfNoUseAreCounted : Obligations.SouthFramesOfNoUseAreCounted := by
  refine ⟨fun bs f parsed => ?_, fun r failed => by rw [sortSouth, failed], fun c q bs useless => ?_⟩
  · obtain ⟨rfl, -⟩ := framesAreReadBack.2.2 bs f parsed
    have sorted := sortSouth_of_checked (r := .frame f.bytes) parsed
    have kind : ((f.bytes.getD 2 0).toNat) = f.kind.code := by
      change (BitVec.ofNat 8 f.kind.code).toNat = _
      cases f.kind <;> rfl
    have source : f.bytes.getD 1 0 = f.source := rfl
    have dest : f.bytes.getD 0 0 = f.dest := rfl
    dsimp only
    rw [kind, source, dest, sorted]
    refine ⟨fun other => if_pos other, fun ours spoof => ?_, fun ours sender => ?_, fun ours stranger useful => ?_,
      fun ours useless => ?_⟩
    · rw [if_neg (not_not.mpr ours)]
      cases kind : f.kind <;> simp [kind, Kind.code] at spoof ⊢
    · rw [if_neg (not_not.mpr ours)]
      cases kind : f.kind <;> simp [Kind.code, sender]
    · rw [if_neg (not_not.mpr ours)]
      cases kind : f.kind <;> simp [kind, Kind.code, stranger] at useful ⊢
    · rw [if_neg (not_not.mpr ours)]
      cases kind : f.kind <;> simp [kind, Kind.code] at useless ⊢
  · have effect (running : c.south.link ≠ .off) :
        exec (.southFrameDiscard bs) ⟨c, q⟩ = .next ⟨c.goodFrame.kindDiscard, q⟩ :=
      exec_eq_next rfl ((Part.receiveSouth_running running).trans (by rw [useless]))
    refine ⟨fun off => exec_eq_next rfl (Part.receiveSouth_off _ off), fun down => ?_, fun up short => ?_,
      fun up full => ?_⟩
    · have not_up : c.south.link ≠ .up := by rintro up; simp [up] at down
      have running : c.south.link ≠ .off := by rintro off; simp [off] at down
      exact exec_eq_next (effect running) (by rw [Part.goodFrame_of_not_up not_up] <;> rfl)
    · exact exec_eq_next (effect (by simp [up])) (by rw [Part.goodFrame_of_short_run up short] <;> rfl)
    · exact exec_eq_next (effect (by simp [up])) (by rw [Part.goodFrame_of_full_run up full] <;> rfl)

/-! ### Responses and deadlines (R30 to R33) -/

/-- The record that a search finds where no other has its sequence number. -/
theorem find_record {p : TxRecord → Bool} {before after : List TxRecord} {r : TxRecord}
    (apart : ∀ x ∈ before, x.seq ≠ r.seq) (only : ∀ x, p x = true → x.seq = r.seq) (here : p r = true) :
    (before ++ r :: after).find? p = some r := by
  have none_before : before.find? p = none :=
    List.find?_eq_none.mpr fun x mem found => apart x mem (only x found)
  rw [List.find?_append, none_before, List.find?_cons_of_pos here]
  rfl

/-- The tracker without the record of a sequence number that no other has. -/
theorem filter_record {before after : List TxRecord} {r : TxRecord} (apart : ∀ x ∈ before, x.seq ≠ r.seq)
    (apart' : ∀ x ∈ after, x.seq ≠ r.seq) :
    (before ++ r :: after).filter (fun x => decide (x.seq ≠ r.seq)) = before ++ after := by
  rw [List.filter_append, List.filter_cons_of_neg (by simp), List.filter_eq_self.mpr (by simpa using apart),
    List.filter_eq_self.mpr (by simpa using apart')]

theorem Part.takeResponse_of_found {r : TxRecord} {p : Nat} {f : Frame}
    (found : c.router.tracker.find? (fun r => r.answeredBy p f) = some r) : c.takeResponse p f =
      Part.addOutcome (r.rewrite f)
        { c with router.tracker := c.router.tracker.filter (fun x => decide (x.seq ≠ r.seq)) } := by
  rw [Part.takeResponse, found]

theorem Part.takeResponse_of_absent {p : Nat} {f : Frame}
    (absent : c.router.tracker.find? (fun r => r.answeredBy p f) = none) : c.takeResponse p f =
      { c with router.late := bump16 c.router.late } := by
  rw [Part.takeResponse, absent]

theorem TxRecord.answeredBy_iff {r : TxRecord} {p : Nat} {f : Frame} :
    r.answeredBy p f = true ↔ r.state ≠ .queued ∧ r.position = p ∧ r.seq = f.seq := by
  cases state : r.state <;> simp [TxRecord.answeredBy, TxState.isSent, state]

/-- Settles O32: the search of R31 finds the one SENT record, or none. -/
theorem responseIsReturnedOrLate : Obligations.ResponseIsReturnedOrLate := by
  intro c q bs p f running sorted
  have effect : exec (.southResponse bs) ⟨c, q⟩ = .next ⟨c.goodFrame.takeResponse p f, q⟩ :=
    exec_eq_next rfl ((Part.receiveSouth_running running).trans (by rw [sorted]))
  have tracker : c.goodFrame.router = c.router := by simp
  refine ⟨fun before after r d split apart apart' sent place seq => exec_eq_next effect ?_,
    fun waiting => exec_eq_next effect ?_⟩
  · have found : c.goodFrame.router.tracker.find? (fun r => r.answeredBy p f) = some r := by
      rw [tracker, split]
      refine find_record apart (fun x answered => ?_) (TxRecord.answeredBy_iff.mpr ⟨by simp [sent], place, seq⟩)
      exact (TxRecord.answeredBy_iff.mp answered).2.2.trans seq.symm
    rw [Part.takeResponse_of_found found, ← filter_record apart apart', ← split, ← tracker]
    rfl
  · have absent : c.goodFrame.router.tracker.find? (fun r => r.answeredBy p f) = none := by
      rw [tracker]
      refine List.find?_eq_none.mpr fun x mem answered => ?_
      obtain ⟨sent, place, seq⟩ := TxRecord.answeredBy_iff.mp answered
      exact sent (waiting x mem seq place)
    rw [Part.takeResponse_of_absent absent, ← tracker]
    rfl

theorem Part.endedSouth_of_due {w : OnWire} (wire : c.south.wire = some w) (owed : w.endTaken = false)
    (due : w.ended c.now = true) : c.endedSouth = some w := by
  simp only [Part.endedSouth, wire, due, owed, and_self, if_true]

theorem Part.endedSouth_of_early {w : OnWire} (wire : c.south.wire = some w) (early : w.ended c.now = false) :
    c.endedSouth = none := by
  simp [Part.endedSouth, wire, early]

theorem Part.commandEnd_of_ended {w : OnWire} {n : Byte} (ended : c.endedSouth = some w) (tag : w.tag = .tracked n) :
    c.commandEnd = Part.markSent n w.endTime { c with south.wire := some w.taken } := by
  simp only [Part.commandEnd, ended, tag]

theorem Part.commandEnd_of_none (none_ended : c.endedSouth = none) : c.commandEnd = c := by
  simp only [Part.commandEnd, none_ended]

/-- Settles O33: a frame's end and a deadline, each at its moment and before it. -/
theorem transactionTimesAreKept : Obligations.TransactionTimesAreKept := by
  intro c q
  refine ⟨fun w n wire tag owed => ?_, fun before after r d split apart apart' sent => ?_⟩
  · have ends : w.ended c.now =
        atOrAfter c.sched.packTime (w.start + BitVec.ofNat 32 (4 * (8 + w.frame.payload.length) + 8)) := rfl
    refine ⟨fun due => ?_, fun early => ?_⟩
    · have ended := Part.endedSouth_of_due wire owed (ends.trans due)
      exact exec_eq_next rfl ((Part.commandEnd_of_ended ended tag).trans rfl)
    · exact exec_eq_next rfl (Part.commandEnd_of_none (Part.endedSouth_of_early wire (ends.trans early)))
  · have lookup : c.expired r.seq = if atOrAfter c.sched.packTime d = true then some r else none := by
      rw [Part.expired, split]
      by_cases due : atOrAfter c.sched.packTime d = true
      · rw [if_pos due]
        exact find_record apart (fun x found => by simp at found; exact found.1) (by simp [sent, Part.now, due])
      · rw [if_neg due]
        refine List.find?_eq_none.mpr fun x mem found => ?_
        have seq : x.seq = r.seq := by simp at found; exact found.1
        rcases List.mem_append.mp mem with mem | mem
        · exact apart x mem seq
        · rcases List.mem_cons.mp mem with rfl | mem
          · simp only [sent, Part.now, due] at found
            simp at found
          · exact apart' x mem seq
    refine ⟨fun due => exec_eq_next rfl ?_, fun early => exec_eq_next rfl ?_⟩
    · rw [if_pos due] at lookup
      simp only [Part.expireRecord, lookup]
      rw [split, filter_record apart apart']
      rfl
    · rw [if_neg (by simp [early])] at lookup
      simp only [Part.expireRecord, lookup]

/-! ### Samples (R52) -/

theorem Part.takeSample_of_malformed {p : Nat} {f : Frame} (bad : parseSample f.payload = none) :
    c.takeSample p f = c.kindDiscard := by
  rw [Part.takeSample, bad]

theorem Part.takeSample_of_late {p : Nat} {f : Frame} {d : SampleData} (read : parseSample f.payload = some d)
    (closed : c.sched.sweep d.sweep = none) :
    c.takeSample p f = { c with sched.lateSamples := bump16 c.sched.lateSamples } := by
  simp only [Part.takeSample, read, closed]

theorem Part.takeSample_of_sweep {p : Nat} {f : Frame} {d : SampleData} {w : Sweep}
    (read : parseSample f.payload = some d) (found : c.sched.sweep d.sweep = some w) : c.takeSample p f =
      if hasPos w.target p = false then { c with sched.unsolicited := bump16 c.sched.unsolicited }
      else if hasPos w.replied p then { c with sched.duplicates := bump16 c.sched.duplicates }
      else c.storeSample w p d := by
  simp only [Part.takeSample, read, found]

/-- Settles O34: the tests of R52 in order. -/
theorem sampleIsStoredOrCounted : Obligations.SampleIsStoredOrCounted := by
  intro c q bs p f running sorted g
  have effect : exec (.sample bs) ⟨c, q⟩ = .next ⟨g.takeSample p f, q⟩ :=
    exec_eq_next rfl ((Part.receiveSouth_running running).trans (by rw [sorted]))
  have sched : g.sched = c.sched := by simp [g]
  have tables : g.tables = c.store.tables := by simp [g, Part.tables]
  have discards : g.kindDiscards = c.kindDiscards := by simp [g]
  clear_value g
  refine ⟨fun bad => exec_eq_next effect ?_, fun d read => ⟨fun closed => exec_eq_next effect ?_, fun w found => ?_⟩⟩
  · rw [Part.takeSample_of_malformed bad, Part.kindDiscard, discards]
    rfl
  · have absent : g.sched.sweep d.sweep = none := by
      rw [sched]
      exact List.find?_eq_none.mpr fun w mem => by simpa using closed w mem
    rw [Part.takeSample_of_late read absent, sched]
    rfl
  · have number : w.number = d.sweep := by simpa using List.find?_some found
    have cases := Part.takeSample_of_sweep (p := p) read ((congrArg (·.sweep d.sweep) sched).trans found)
    refine ⟨fun other => exec_eq_next effect ?_, fun mine again => exec_eq_next effect ?_,
      fun mine first more => exec_eq_next effect ?_⟩
    · rw [cases, if_pos other, sched]
      rfl
    · rw [cases, if_neg (by simp [mine]), if_pos again, sched]
      rfl
    · rw [cases, if_neg (by simp [mine]), if_neg (by simp [first]), Part.storeSample]
      exact (if_neg more).trans (by rw [← sched, ← tables, ← number] <;> rfl)

/-! ### Enumeration replies (R5, R8) -/

theorem atPos_setPos_self {α : Type} (v : Vector α 16) (d x : α) {p : Nat} (low : 1 ≤ p) (high : p ≤ 16) :
    atPos (setPos v p x) d p = x := by
  have positive : p ≠ 0 := Nat.one_le_iff_ne_zero.mp low
  have inside : p - 1 < 16 := by omega
  simp [atPos, setPos, positive, Vector.getD, inside]

theorem atPos_setPos_of_ne {α : Type} (v : Vector α 16) (d x : α) {p n : Nat} (other : n ≠ p) :
    atPos (setPos v p x) d n = atPos v d n := by
  rcases Nat.eq_zero_or_pos n with rfl | positive
  · rfl
  rcases Nat.eq_zero_or_pos p with rfl | positive'
  · rfl
  have apart : p - 1 ≠ n - 1 := by omega
  simp [atPos, setPos, Nat.ne_of_gt positive, Nat.ne_of_gt positive', Vector.getD, Vector.getElem_setIfInBounds, apart]

theorem sortSouth_enumReply {bs : List Byte} {p : Nat} {f : Frame} (sorted : sortSouth (.frame bs) = .enumReply p f) :
    1 ≤ p ∧ p ≤ 16 := by
  cases checked : checkReception (.frame bs) with
  | none => simp [sortSouth, checked] at sorted
  | some g =>
    rw [sortSouth_of_checked checked] at sorted
    split at sorted
    · cases sorted
    · split at sorted <;> (try split at sorted) <;> cases sorted
      assumption

/-- Settles O35: the reply is stored at its own position alone. -/
theorem enumReplyIsStoredOnce : Obligations.EnumReplyIsStoredOnce := by
  intro c q bs p f running sorted
  have effect : exec (.enumReply bs) ⟨c, q⟩ = .next ⟨c.goodFrame.takeEnumReply p f, q⟩ :=
    exec_eq_next rfl ((Part.receiveSouth_running running).trans (by rw [sorted]))
  obtain ⟨low, high⟩ := sortSouth_enumReply sorted
  refine ⟨fun r enumerating read vacant => ?_, fun refused => exec_eq_next effect ?_⟩
  · have stored : c.takeEnumReply p f = { c with south.replies := setPos c.south.replies p (some r) } := by
      rw [Part.takeEnumReply, if_pos enumerating, read, vacant]
    rw [Part.goodFrame_of_not_up (by simp [enumerating]), stored] at effect
    exact ⟨_, effect, rfl, atPos_setPos_self _ none _ low high, fun n other => atPos_setPos_of_ne _ none _ other⟩
  · have discarded : c.goodFrame.takeEnumReply p f = c.goodFrame.kindDiscard := by
      rw [Part.takeEnumReply]
      split
      next enumerating =>
        have link : c.south.link = .enumerating := by
          by_contra other
          unfold Part.goodFrame at enumerating
          (repeat' split at enumerating) <;> exact other enumerating
        rw [Part.goodFrame_of_not_up (by simp [link])]
        split
        next r read vacant => simp [link, read, vacant] at refused
        next => rfl
      next => rfl
    have discards : c.goodFrame.kindDiscards = c.kindDiscards := by simp
    rw [discarded, Part.kindDiscard, discards]
    rfl

end Sys2Proof.Machine
end

section
/-!
What the interlock unit and the south link do outside PATROL, where no activation notice escalates (R97, R153); and the
loss of the link by frames that fail the check (R11, R13, R37).
-/
namespace Sys2Proof.Machine

variable {c : Part}

/-! ### Trips and events outside PATROL -/

theorem Part.notice_of_not_patrol (awake : c.power.state ≠ .patrol) (k : FaultClass) : c.notice k = c :=
  if_neg fun asleep => awake asleep.1

theorem Part.tripObject_of_not_patrol (awake : c.power.state ≠ .patrol) (o : FaultObject) (f : Forming := .now) :
    c.tripObject o f = c.countTrip o f := by
  unfold Part.tripObject
  split
  · rfl
  · exact Part.notice_of_not_patrol (by simpa using awake) _

theorem Part.setCondition_of_not_patrol (awake : c.power.state ≠ .patrol) (k : FaultClass) :
    c.setCondition k = (c.recordTrip (packKey k) c.now none).countTrip (packObject k) :=
  Part.tripObject_of_not_patrol (by simpa using awake) _

theorem Part.setCondition_south (awake : c.power.state ≠ .patrol) (k : FaultClass) :
    (c.setCondition k).south = c.south := by
  rw [Part.setCondition_of_not_patrol awake]
  simp

theorem Part.setCondition_power (awake : c.power.state ≠ .patrol) (k : FaultClass) :
    (c.setCondition k).power = c.power := by
  rw [Part.setCondition_of_not_patrol awake]
  simp

theorem Part.eventClass_of_not_patrol (awake : c.power.state ≠ .patrol) (k : FaultClass) : c.eventClass k =
    let recorded := c.recordTrip (packKey k) c.now none
    Part.refreshAction { recorded with interlock.events := recorded.interlock.events ||| k.bit } := by
  unfold Part.eventClass
  dsimp only
  split
  · rfl
  · exact Part.notice_of_not_patrol (by simpa using awake) _

/-! ### The south link without UP: no SYNC falls due -/

theorem Part.supercycle_south (down : c.south.link ≠ .up) (t : Time) : (c.supercycle t).south = c.south := by
  unfold Part.supercycle Part.syncDue
  rw [if_neg down]
  split <;> rfl

theorem Part.settleRun_south (down : c.south.link ≠ .up) : c.settleRun.south = c.south := by
  unfold Part.settleRun
  split
  · rfl
  · split
    · exact Part.supercycle_south (c := { c with sched.run := some _ }) down _
    · rfl

theorem Part.abortSweeps_south (down : c.south.link ≠ .up) (p : Sweep → Bool) :
    (c.abortSweeps p).south = { c.south with sampling := (c.abortSweeps p).south.sampling } := by
  have settled := Part.settleRun_south (c := { c with
      sched.sweeps := c.sched.sweeps.filter (fun w => !p w),
      south.sampling := c.south.sampling.filter (fun f =>
        !(((c.sched.sweeps.filter p).map (·.number)).any (fun n => f.triggers n))) }) down
  rw [Part.abortSweeps, settled]

theorem Part.dropSampling_south (down : c.south.link ≠ .up) :
    c.dropSampling.south = { c.south with sampling := [] } := by
  have aborted := Part.abortSweeps_south down (fun w => c.south.sampling.any (fun f => f.triggers w.number))
  unfold Part.dropSampling
  rw [Part.settleRun_south (by dsimp only; rw [aborted]; exact down)]
  dsimp only
  rw [aborted]

/-! ### Sweeps that are aborted -/

theorem Part.settleRun_sweeps (c : Part) : c.settleRun.sched.sweeps = c.sched.sweeps := by simp

theorem Part.abortSweeps_sweeps (p : Sweep → Bool) (c : Part) :
    (c.abortSweeps p).sched.sweeps = c.sched.sweeps.filter (fun w => !p w) := Part.settleRun_sweeps _

theorem Part.dropSampling_sweeps_of_nil (none_open : c.sched.sweeps = []) : c.dropSampling.sched.sweeps = [] := by
  refine (Part.settleRun_sweeps _).trans ?_
  rw [Part.abortSweeps_sweeps, none_open, List.filter_nil]

/-! ### Entry to DOWN (R13, R37) -/

/-- The link-lost condition is set, if it is not set yet (R13). -/
def Part.loseLink (c : Part) : Part :=
  if c.south.linkLost then c else Part.setCondition .linkDown { c with south.linkLost := true }

/-- The tracker's records, the sweeps and the waiting SYNC and TRIGGER frames of a link that is lost (R18, R37, R56). -/
def Part.dropTraffic (c : Part) : Part := (c.completeAll.abortSweeps (fun _ => true)).dropSampling

/-- The link as R13 leaves it. -/
def Part.linkDown (startRetry : Bool) (c : Part) : Part :=
  { c with
    south.link := .down, south.downEvents := bump16 c.south.downEvents,
    south.retry := if startRetry then some (laterMs c.now 100) else none,
    south.window := none, south.bringAt := none, south.bringDue := none }

@[simp] theorem Part.loseLink_keeps (c : Part) : Part.Keeps [.south, .link, .linkLost, .sched, .run,
    .sweeps, .eval, .records, .interlock, .tripped, .latches, .supervision, .seq, .conn, .contactors, .eventQueue,
    .reports, .power, .powerState, .powerStep, .wakeCauses, .hostWake, .store, .copy, .write] c c.loseLink := by
  unfold Part.loseLink
  split <;> simp [Part.Keeps]

theorem Part.loseLink_south (awake : c.power.state ≠ .patrol) :
    c.loseLink.south = { c.south with linkLost := true } := by
  unfold Part.loseLink
  split
  next lost => rw [← lost]
  next => exact Part.setCondition_south (c := { c with south.linkLost := true }) awake _

theorem Part.loseLink_power (awake : c.power.state ≠ .patrol) : c.loseLink.power = c.power := by
  unfold Part.loseLink
  split
  next => rfl
  next => exact Part.setCondition_power (c := { c with south.linkLost := true }) awake _

@[simp] theorem Part.dropTraffic_keeps (c : Part) : Part.Keeps [.south, .southWire, .router, .tracker, .southQueue,
    .forward, .sched, .run, .sweeps] c c.dropTraffic := by
  simp [Part.Keeps, Part.dropTraffic]

theorem Part.dropTraffic_south (down : c.south.link ≠ .up) : c.dropTraffic.south =
    { c.south with wire := c.south.wire.map OnWire.forgetRecord, sampling := [] } := by
  have aborted := Part.abortSweeps_south (c := c.completeAll) down (fun _ => true)
  unfold Part.dropTraffic
  rw [Part.dropSampling_south (by rw [aborted]; exact down), aborted, Part.completeAll]

theorem Part.dropTraffic_sweeps (c : Part) : c.dropTraffic.sched.sweeps = [] := by
  refine Part.dropSampling_sweeps_of_nil ?_
  rw [Part.abortSweeps_sweeps]
  simp

theorem Part.dropTraffic_router (c : Part) : c.dropTraffic.router = c.completeAll.router := by
  simp [Part.dropTraffic]

theorem Part.enterDown_eq (retry : Bool) (c : Part) : c.enterDown retry =
    let dropped := (c.linkDown retry).loseLink.dropTraffic
    if dropped.power.state = .patrol then dropped.escalate .linkFailed none else dropped := rfl

theorem Part.enterDown_of_not_patrol (retry : Bool) (awake : c.power.state ≠ .patrol) :
    c.enterDown retry = (c.linkDown retry).loseLink.dropTraffic := by
  rw [Part.enterDown_eq]
  have kept : (c.linkDown retry).loseLink.dropTraffic.power = c.power :=
    (by simp : _ = (c.linkDown retry).loseLink.power).trans (Part.loseLink_power (c := c.linkDown retry) awake)
  exact if_neg (by rw [kept]; exact awake)

theorem Part.enterDown_south (retry : Bool) (awake : c.power.state ≠ .patrol) : (c.enterDown retry).south =
    { (c.linkDown retry).south with
      linkLost := true, wire := c.south.wire.map OnWire.forgetRecord, sampling := [] } := by
  have lost := Part.loseLink_south (c := c.linkDown retry) awake
  rw [Part.enterDown_of_not_patrol retry awake, Part.dropTraffic_south (by rw [lost]; exact nofun), lost]
  rfl

theorem Part.enterDown_router (retry : Bool) (awake : c.power.state ≠ .patrol) :
    (c.enterDown retry).router = c.completeAll.router := by
  have kept : (c.linkDown retry).loseLink.router = c.router := by simp [Part.linkDown]
  rw [Part.enterDown_of_not_patrol retry awake, Part.dropTraffic_router]
  simp only [Part.completeAll, kept]

theorem Part.enterDown_sweeps (retry : Bool) (awake : c.power.state ≠ .patrol) :
    (c.enterDown retry).sched.sweeps = [] := by
  rw [Part.enterDown_of_not_patrol retry awake, Part.dropTraffic_sweeps]

theorem Part.enterDown_power (retry : Bool) (awake : c.power.state ≠ .patrol) :
    (c.enterDown retry).power = c.power := by
  rw [Part.enterDown_of_not_patrol retry awake]
  exact (by simp : _ = (c.linkDown retry).loseLink.power).trans (Part.loseLink_power (c := c.linkDown retry) awake)

/-! ### Frames that fail the check (R11) -/

/-- Settles O30: the count of R11, and at the threshold the entry to DOWN. -/
theorem southCheckFailuresTakeTheLinkDown : Obligations.SouthCheckFailuresTakeTheLinkDown := by
  intro c q r failed counted
  have effect (running : c.south.link ≠ .off) : exec (.southFrameCheckFail r) ⟨c, q⟩ = .next ⟨c.southCheckFail, q⟩ :=
    exec_eq_next rfl ((Part.receiveSouth_running running).trans (by rw [sortSouth, failed]))
  refine ⟨fun off => exec_eq_next rfl (Part.receiveSouth_off _ off), fun down => ?_, fun up few => ?_,
    fun up many awake => ?_⟩
  · have running : c.south.link ≠ .off := by rintro off; simp [off] at down
    have not_up : c.south.link ≠ .up := by rintro up; simp [up] at down
    exact exec_eq_next (effect running) (if_neg not_up)
  · exact exec_eq_next (effect (by simp [up])) ((if_pos up).trans (if_neg (Nat.not_le.mpr few)))
  · let raised : Part :=
      { counted with south.errorCount := c.south.errorCount + 1, south.goodRun := 0 }
    have lost : c.southCheckFail = raised.enterDown true := (if_pos up).trans (if_pos many)
    have awake' : raised.power.state ≠ .patrol := awake
    have south := Part.enterDown_south true awake'
    have router := Part.enterDown_router true awake'
    refine ⟨raised.enterDown true, exec_eq_next (effect (by simp [up])) lost, ?_⟩
    rw [south, router, Part.enterDown_sweeps true awake', Part.enterDown_power true awake']
    refine ⟨rfl, rfl, rfl, rfl, rfl, rfl, rfl, rfl, rfl, ?_, ?_, rfl⟩ <;> simp [raised, counted]

end Sys2Proof.Machine
end

section
/-!
The management engine (chapter 10): what it answers before a request's own rule, and the requests that return what
stands.
-/
namespace Sys2Proof.Machine

variable {c : Part} {q : List Instr} {f : Frame} {rest : List Frame}

/-! ### How a request command reaches its rule (R183) -/

/-- The own rule of each request. -/
def Request.rule : Request → Frame → Part → Part
  | .status => Part.doStatus | .readCounters => Part.doReadCounters | .readFaults => Part.doReadFaults
  | .ackFaults => Part.doAckFaults | .readEvents => Part.doReadEvents | .connect => Part.doConnect
  | .disconnect => Part.doDisconnect | .disconnectNow => Part.doDisconnectNow
  | .clearLockout => Part.doClearLockout | .scheduleStart => Part.doScheduleStart
  | .scheduleStop => Part.doScheduleStop | .setTime => Part.doSetTime | .sleep => Part.doSleep
  | .keepalive => Part.doKeepalive | .updOpen => Part.doUpdOpen | .updErase => Part.doUpdErase
  | .updWrite => Part.doUpdWrite | .updCheck => Part.doUpdCheck | .updCommit => Part.doUpdCommit
  | .updAbort => Part.doUpdAbort | .updStatus => Part.doUpdStatus | .readImage => Part.doReadImage
  | .clearTamper => Part.doClearTamper | .resetSouth => Part.doResetSouth | .restart => Part.doRestart

theorem exec_command (r : Request) : exec r.command ⟨c, q⟩ = .next ⟨c.serve r r.rule, q⟩ := by cases r <;> rfl

theorem exec_command_of_executes {r : Request} (h : c.executes f rest r) :
    exec r.command ⟨c, q⟩ = .next ⟨r.rule f { c with mgmt.requests := rest }, q⟩ :=
  exec_eq_next (exec_command r) (Part.serve_of_executes h _)

theorem Part.headRequest_of_ready (queue : c.mgmt.requests = f :: rest) (programming : c.mgmt.programming = none)
    (restart : c.mgmt.restart = .notTaken) : c.headRequest = some f := by
  simp [Part.headRequest, queue, programming, restart]

theorem Part.popRequest_of_cons (queue : c.mgmt.requests = f :: rest) :
    c.popRequest = { c with mgmt.requests := rest } := by
  simp [Part.popRequest, queue]

theorem Part.serve_of_head {r : Request} (head : c.headRequest = some f) (rule : Frame → Part → Part) :
    c.serve r rule =
      if f.request ≠ some r then c
      else if c.store.state = .loading ∧ r ≠ .status then c.popRequest.respond f .busy []
      else if f.argumentsOk r = false then c.popRequest.respond f .badArgument []
      else rule f c.popRequest := by
  simp only [Part.serve, head]

/-- Settles O52: the tests of R183 in order. -/
theorem requestsAreCheckedFirst : Obligations.RequestsAreCheckedFirst := by
  intro c q f rest r queue
  have refusal (st : Status) : c.popRequest.respond f st [] = c.answered f rest st [] := by
    rw [Part.popRequest_of_cons queue, Part.respond_eq_answered]
  refine ⟨fun programming restart named loading other => ?_, fun programming restart named loaded wrong => ?_,
    fun programming restart unknown => ?_, fun unready => exec_eq_next (exec_command r) ?_⟩
  · have served := Part.serve_of_head (r := r) (Part.headRequest_of_ready queue programming restart) r.rule
    rw [if_neg (not_not.mpr named), if_pos ⟨loading, other⟩, refusal] at served
    exact exec_eq_next (exec_command r) served
  · have served := Part.serve_of_head (r := r) (Part.headRequest_of_ready queue programming restart) r.rule
    have ready : ¬ (c.store.state = .loading ∧ r ≠ .status) := fun ⟨loading, other⟩ =>
      loaded.elim (fun left => left loading) other
    rw [if_neg (not_not.mpr named), if_neg ready, if_pos wrong, refusal] at served
    exact exec_eq_next (exec_command r) served
  · have served : c.serveUnknown = c.popRequest.respond f .unknownRequest [] := by
      simp only [Part.serveUnknown, Part.headRequest_of_ready queue programming restart, unknown, if_true]
    exact exec_eq_next rfl (served.trans (refusal _))
  · by_cases ready : c.mgmt.programming = none ∧ c.mgmt.restart = .notTaken
    · obtain ⟨programming, restart⟩ := ready
      have other : f.request ≠ some r := by simpa [programming, restart] using unready
      rw [Part.serve_of_head (Part.headRequest_of_ready queue programming restart), if_pos other]
    · refine Part.serve_of_no_head (if_pos ?_) _ _
      rw [Option.isSome_iff_ne_none]
      by_contra none_waits
      rw [not_or, not_not, not_not] at none_waits
      exact ready none_waits

/-! ### The requests that return what stands (R130, R179, R186 to R189) -/

/-- Settles O53: each rule is its answer. -/
theorem readRequestsReturnWhatStands : Obligations.ReadRequestsReturnWhatStands := by
  intro c q f rest
  refine ⟨fun h => ?_, fun h => ?_, fun h => ?_, fun h => ?_, fun h => ?_⟩
  · exact exec_eq_next (exec_command_of_executes h) rfl
  · have effect := exec_command_of_executes (q := q) h
    refine ⟨fun keep => exec_eq_next effect (if_neg (by simp [keep])), fun clear => exec_eq_next effect (if_pos clear)⟩
  · exact exec_eq_next (exec_command_of_executes h) rfl
  · exact exec_eq_next (exec_command_of_executes h) rfl
  · have effect := exec_command_of_executes (q := q) h
    refine ⟨fun unnamed => exec_eq_next effect ?_, fun n named => exec_eq_next effect ?_⟩
    · simp only [Request.rule, Part.doReadImage, unnamed]
      rfl
    · simp only [Request.rule, Part.doReadImage, named]
      rfl

end Sys2Proof.Machine
end

section
/-!
The requests that act on the update, the schedule, the power state and the south link (R15, R41, R44, R46, R142, R167 to
R171, R175, R191).
-/
namespace Sys2Proof.Machine

variable {c : Part} {q : List Instr} {f : Frame} {rest : List Frame}

/-! ### The update (R166 to R171, R175) -/

theorem Part.normalRun_iff : c.normalRun = true ↔ ∃ r, c.sched.run = some r ∧ r.kind = .normal := by
  unfold Part.normalRun
  cases c.sched.run <;> simp

theorem Part.writable_iff (offset count : Nat) : c.writable offset count = true ↔
    ∀ i < count, (c.store.bank c.store.target).bytes.read (offset + i) = 0xFF := by
  simp [Part.writable, Memory.readAll, erasedByte, Store.targetBank]

theorem Part.startNormalRun_of_running (running : c.sched.state = .running) (hold : Bool) :
    c.startNormalRun hold = c.startRun .normal hold := if_pos running

/-- The run that a start makes: it begins at once unless a frame of the old run still waits (R45). -/
def Part.newRun (kind : RunKind) (begun : Bool) (c : Part) : Run :=
  { kind := kind, begun := begun, cycle := 0, cycleStart := c.sched.packTime, launched := [],
    cycles := (c.store.tables.params.power.map (fun p => p.cycles)).getD 0, launchEnded := false }

theorem Part.startRun_of_waiting (kind : RunKind) (hold : Bool) (waiting : c.south.sampling ≠ []) :
    c.startRun kind hold =
      { c with sched.run := some (c.newRun kind false), sched.hold := hold, sched.holdInEffect := false } := by
  have nonempty : ¬ c.south.sampling.isEmpty = true := by simpa using waiting
  refine (if_neg nonempty).trans ?_
  unfold Part.newRun Part.tables Part.now
  cases c.store.tables.params.power <;> rfl

theorem Part.startRun_of_clear (kind : RunKind) (hold : Bool) (clear : c.south.sampling = []) :
    c.startRun kind hold =
      Part.supercycle c.now
        { c with sched.run := some (c.newRun kind true), sched.hold := hold, sched.holdInEffect := false } := by
  refine (if_pos (by simp [clear])).trans ?_
  unfold Part.newRun Part.beginRun Part.tables Part.now
  cases c.store.tables.params.power <;> rfl

theorem Part.startRun_released (kind : RunKind) (clear : c.south.sampling = []) :
    c.startRun kind false =
      { c with sched.run := some (c.newRun kind true), sched.hold := false, sched.holdInEffect := false,
               south.sampling := if c.south.link = .up then [.sync c.sched.packTime] else [] } := by
  rw [Part.startRun_of_clear kind false clear]
  refine (if_neg Bool.false_ne_true).trans ?_
  by_cases up : c.south.link = .up
  · refine (if_pos up).trans ?_
    rw [if_pos up, clear]
    rfl
  · refine (if_neg up).trans ?_
    rw [if_neg up, ← clear]

theorem Part.releaseHold_of_pending (pending : c.sched.holdInEffect = false) :
    c.releaseHold = { c with sched.hold := false } := by
  have kept : c.sched.holdInEffect ≠ true := by simp [pending]
  refine (if_neg kept).trans ?_
  rw [← pending]

theorem Part.releaseHold_of_effect (effect : c.sched.holdInEffect = true) :
    c.releaseHold = Part.startNormalRun false { c with sched.hold := false, sched.holdInEffect := false } :=
  if_pos effect

/-- Settles O60: each request by the update state. -/
theorem updateRequestsFollowTheUpdateState : Obligations.UpdateRequestsFollowTheUpdateState := by
  intro c q f rest n b normal
  have normal_iff : c.normalRun = true ↔ normal := Part.normalRun_iff
  refine ⟨fun h => ?_, fun r four h => ?_, fun h ready => ?_, fun h ready => ?_, fun h ready => ?_, fun h ready => ?_,
    fun h => ?_⟩
  · intro active idle atRest service data
    have effect := exec_command_of_executes (q := q) h
    have refused {st : Status} (status : c.openStatus = st) (bad : st ≠ .ok) :
        exec .updOpen ⟨c, q⟩ = .next ⟨c.answered f rest st [], q⟩ := by
      subst status
      exact exec_eq_next effect (if_neg bad)
    have status : c.openStatus = if ¬ active then .notActive else if ¬ idle then .updating
        else if ¬ atRest then .state else if ¬ service then .noService
        else if c.store.copy.tamper = true then .tamper else .ok := by
      simp only [Part.openStatus, active, idle, atRest, service, ConnState.atRest_eq_false_iff, Bool.not_eq_true,
        ne_eq, not_or]
    refine ⟨fun asleep => refused ?_ nofun, fun a busy => refused ?_ nofun, fun a i closing => refused ?_ nofun,
      fun a i r locked => refused ?_ nofun, fun a i r s latched => refused ?_ nofun,
      fun a i r s clear => exec_eq_next effect ?_⟩
    · rw [status, if_pos asleep]
    · rw [status, if_neg (not_not.mpr a), if_pos busy]
    · rw [status, if_neg (not_not.mpr a), if_neg (not_not.mpr i), if_pos closing]
    · rw [status, if_neg (not_not.mpr a), if_neg (not_not.mpr i), if_neg (not_not.mpr r), if_pos locked]
    · rw [status, if_neg (not_not.mpr a), if_neg (not_not.mpr i), if_neg (not_not.mpr r), if_neg (not_not.mpr s),
        if_pos latched]
    · have ok : c.openStatus = .ok := by
        rw [status, if_neg (not_not.mpr a), if_neg (not_not.mpr i), if_neg (not_not.mpr r), if_neg (not_not.mpr s),
          if_neg (by simp [clear])]
      have flag : flagsByte [c.store.staged.isSome] = if c.store.staged = none then 0 else 1 := by
        cases c.store.staged <;> rfl
      have read : c.openData = data := by
        simp only [Part.openData, flag, data]
        rfl
      refine (if_pos ok).trans ?_
      rw [← read]
      rfl
  · have gate (busy : c.store.update.gate ≠ .ok) :
        r.rule f { c with mgmt.requests := rest } = c.answered f rest c.store.update.gate [] := by
      rcases four with rfl | rfl | rfl | rfl <;> exact if_neg busy
    refine ⟨fun closed => ?_, fun closed => ?_⟩
    · have status : c.store.update.gate = .state := by rcases closed with h | h <;> rw [h] <;> rfl
      exact exec_eq_next (exec_command_of_executes h) ((gate (by rw [status]; nofun)).trans (by rw [status]))
    · have status : c.store.update.gate = .busy := by rcases closed with h | h | h <;> rw [h] <;> rfl
      exact exec_eq_next (exec_command_of_executes h) ((gate (by rw [status]; nofun)).trans (by rw [status]))
  · have ok : c.store.update.gate = .ok := by rw [ready]; rfl
    exact exec_eq_next (exec_command_of_executes h) ((if_pos ok).trans (by simp [laterMs, later, Part.respond, Part.answered, Part.now]))
  · have ok : c.store.update.gate = .ok := by rw [ready]; rfl
    intro offset count
    have effect := exec_command_of_executes (q := q) h
    refine ⟨fun blank => exec_eq_next effect ?_, fun ⟨i, inside, taken⟩ => exec_eq_next effect ?_⟩
    · exact (if_pos ok).trans (if_pos ((Part.writable_iff offset count).mpr blank))
    · exact (if_pos ok).trans (if_neg fun blank => taken ((Part.writable_iff (c := c) offset count).mp blank i inside))
  · have ok : c.store.update.gate = .ok := by rw [ready]; rfl
    have effect := exec_command_of_executes (q := q) h
    exact ⟨fun written => exec_eq_next effect ((if_pos ok).trans (if_pos written)),
      fun other => exec_eq_next effect ((if_pos ok).trans (if_neg other))⟩
  · have ok : c.store.update.gate = .ok := by rw [ready]; rfl
    have effect := exec_command_of_executes (q := q) h
    let committed (hold : Bool) : Part :=
      { c.answered f rest .ok [] with store.update := .commitPending, sched.hold := hold }
    refine ⟨fun staged runs => exec_eq_next effect ((if_pos ok).trans ((if_pos staged).trans ?_)),
      fun staged rests => exec_eq_next effect ((if_pos ok).trans ((if_pos staged).trans ?_)),
      fun other => exec_eq_next effect ((if_pos ok).trans (if_neg other))⟩
    · have hold : (if c.normalRun = true then true else c.sched.hold) = true := if_pos (normal_iff.mpr runs)
      exact congrArg committed hold
    · have hold : (if c.normalRun = true then true else c.sched.hold) = c.sched.hold :=
        if_neg fun runs => rests (normal_iff.mp runs)
      exact congrArg committed hold
  · have effect := exec_command_of_executes (q := q) h
    refine ⟨fun idle => exec_eq_next effect ?_, fun ends => exec_eq_next effect ?_,
      fun pending held => exec_eq_next effect ?_, fun pending held running clear => ?_,
      fun busy => exec_eq_next effect ?_⟩
    · simp only [Request.rule, Part.doUpdAbort, idle]
      rfl
    · rcases ends with ready | checking
      · simp only [Request.rule, Part.doUpdAbort, ready]
        rfl
      · simp only [Request.rule, Part.doUpdAbort, checking]
        rfl
    · simp only [Request.rule, Part.doUpdAbort, pending]
      rw [Part.releaseHold_of_pending (c := { c with mgmt.requests := rest, store.update := .idle }) held]
      rfl
    · let idle : Part :=
        { c with mgmt.requests := rest, store.update := .idle, sched.hold := false, sched.holdInEffect := false }
      let begun : Part :=
        { idle with sched.run := some (idle.newRun .normal true), sched.hold := false, sched.holdInEffect := false,
                    south.sampling := if c.south.link = .up then [.sync c.sched.packTime] else [] }
      have started : idle.startRun .normal false = begun := Part.startRun_released (c := idle) .normal clear
      have released : Part.releaseHold { c with mgmt.requests := rest, store.update := .idle } = begun :=
        (Part.releaseHold_of_effect (c := { c with mgmt.requests := rest, store.update := .idle }) held).trans ((Part.startNormalRun_of_running (c := idle) running false).trans started)
      refine ⟨begun.respond f .ok [], exec_eq_next effect ?_, rfl, rfl, rfl, rfl, idle.newRun .normal true,
        rfl, rfl, rfl, rfl, rfl, rfl⟩
      simp only [Request.rule, Part.doUpdAbort, pending]
      rw [released]
    · rcases busy with erasing | switching
      · simp only [Request.rule, Part.doUpdAbort, erasing]
        rfl
      · simp only [Request.rule, Part.doUpdAbort, switching]
        rfl

end Sys2Proof.Machine
end

section
/-!
The requests on the schedule, pack time, the power state and the south link (R15, R41, R44 to R47, R142, R143, R190,
R191).
-/
namespace Sys2Proof.Machine

variable {c : Part} {q : List Instr} {f : Frame} {rest : List Frame}

/-! ### The schedule and pack time (R41, R44, R46) -/

theorem Part.endNormalRun_of_normal (normal : ∃ r, c.sched.run = some r ∧ r.kind = .normal) :
    c.endNormalRun = c.endRun := by
  obtain ⟨r, run, kind⟩ := normal
  simp only [Part.endNormalRun, run, kind, if_true]

theorem Part.endNormalRun_of_none (none_normal : ¬ ∃ r, c.sched.run = some r ∧ r.kind = .normal) :
    c.endNormalRun = c := by
  unfold Part.endNormalRun
  split
  · rfl
  next r run => exact if_neg fun kind => none_normal ⟨r, run, kind⟩

theorem ContactorState.move_watch_timing (d : BitVec 32) {x : ContactorState} {e : Time} (h : x.watch = .timing e) :
    (x.move d).watch = .timing (e + d) := by
  simp only [ContactorState.move, h]

theorem ContactorState.move_watch_still (d : BitVec 32) {x : ContactorState} (h : x.watch = .armed ∨ x.watch = .spent) :
    (x.move d).watch = x.watch := by
  rcases h with h | h <;> simp only [ContactorState.move, h]

theorem Part.setTime_contactor (v : Time) (c : Part) (k : Contactor) :
    (c.setTime v).seq.contactor k = (c.seq.contactor k).move (v - c.sched.packTime) := by
  cases k <;> rfl

theorem TxRecord.move_state (d : BitVec 32) (r : TxRecord) : (r.move d).state = match r.state with
    | .queued => .queued
    | .sent e => .sent (e + d) := rfl

theorem SwitchPhase.move_of_not_loading (d : BitVec 32) {p : SwitchPhase} (h : ∀ e, p ≠ .loading e) : p.move d = p := by
  cases p with
  | loading e => exact absurd rfl (h e)
  | none | waiting | writing => rfl

/-- Settles O58: the conditions of R44 and R41 in order, the run that a start makes, and every time that moves. -/
theorem scheduleIsStartedStoppedAndTimed : Obligations.ScheduleIsStartedStoppedAndTimed := by
  refine ⟨fun c v => ⟨rfl, ?_⟩, fun c q f rest => ⟨fun h => ?_, fun h => ?_, fun h => ?_⟩⟩
  · cases restart : c.mgmt.restart <;> simp [Part.setTime, RestartState.move, restart, Part.now]
  · intro configured active updating running
    have effect := exec_command_of_executes (q := q) h
    have refused {st : Status} (status : c.scheduleStartStatus = st) (bad : st ≠ .ok) :
        exec .scheduleStart ⟨c, q⟩ = .next ⟨c.answered f rest st [], q⟩ := by
      subst status
      exact exec_eq_next effect (if_neg bad)
    have status : c.scheduleStartStatus = if ¬ configured then .unconfigured else if ¬ active then .notActive
        else if updating then .updating else if c.sched.state = .running then .state else .ok := by
      simp only [Part.scheduleStartStatus, configured, active, updating, ne_eq, not_not]
    refine ⟨fun empty => refused ?_ nofun, fun full asleep => refused ?_ nofun,
      fun full awake busy => refused ?_ nofun, fun full awake free runs => refused ?_ nofun,
      fun full awake free stopped => ?_⟩
    · rw [status, if_pos empty]
    · rw [status, if_neg (not_not.mpr full), if_pos asleep]
    · rw [status, if_neg (not_not.mpr full), if_neg (not_not.mpr awake), if_pos busy]
    · rw [status, if_neg (not_not.mpr full), if_neg (not_not.mpr awake), if_neg free, if_pos runs]
    · have ok : c.scheduleStartStatus = .ok := by
        rw [status, if_neg (not_not.mpr full), if_neg (not_not.mpr awake), if_neg free, if_neg (by simp [stopped])]
      let started : Part := { c with mgmt.requests := rest, sched.state := .running }
      have taken : exec .scheduleStart ⟨c, q⟩ = .next ⟨(started.startRun .normal false).respond f .ok [], q⟩ :=
        exec_eq_next effect ((if_pos ok).trans rfl)
      refine ⟨fun clear => exec_eq_next taken ?_, fun waiting => exec_eq_next taken ?_⟩
      · rw [Part.startRun_released (c := started) .normal clear]
        rfl
      · rw [Part.startRun_of_waiting (c := started) .normal false waiting]
        rfl
  · have effect := exec_command_of_executes (q := q) h
    refine ⟨fun stopped => exec_eq_next effect ?_, fun running patrol => exec_eq_next effect ?_,
      fun running normal => exec_eq_next effect ?_⟩
    · have idle : ¬ c.sched.state = .running := by simp [stopped]
      simp only [Request.rule, Part.doScheduleStop, if_neg idle, Part.respond_eq_answered]
    · have none_normal : ¬ ∃ r, c.sched.run = some r ∧ r.kind = .normal := by
        rintro ⟨r, run, kind⟩
        simp [patrol r run] at kind
      simp only [Request.rule, Part.doScheduleStop, if_pos running]
      rw [Part.endNormalRun_of_none (c := { c with mgmt.requests := rest, sched.state := .stopped }) none_normal]
      rfl
    · simp only [Request.rule, Part.doScheduleStop, if_pos running]
      rw [Part.endNormalRun_of_normal (c := { c with mgmt.requests := rest, sched.state := .stopped }) normal]
      rfl
  · have effect := exec_command_of_executes (q := q) h
    have refused {st : Status} (status : c.setTimeStatus = st) (bad : st ≠ .ok) :
        exec .setTime ⟨c, q⟩ = .next ⟨c.answered f rest st [], q⟩ := by
      subst status
      exact exec_eq_next effect (if_neg bad)
    refine ⟨fun running => refused (if_pos running) nofun, fun stopped waiting => refused ?_ nofun,
      fun stopped clear => ?_⟩
    · exact (if_neg (by simp [stopped])).trans (if_pos (by simpa using waiting))
    · have ok : c.setTimeStatus = .ok := (if_neg (by simp [stopped])).trans (if_neg (by simp [clear]))
      let popped : Part := { c with mgmt.requests := rest }
      refine ⟨(popped.setTime (BitVec.ofNat 32 (f.field 1 4))).respond f .ok [], exec_eq_next effect (if_pos ok), ?_⟩
      refine ⟨rfl, rfl, rfl, rfl, rfl, rfl, rfl, rfl, fun k => ?_, fun w wire => ?_, fun w wire => ?_, fun wire => ?_,
        fun wire => ?_, fun g e write => ?_, fun g e write => ?_, fun write => ?_, fun e load => ?_, fun other => ?_,
        rfl, rfl, rfl, rfl, ?_, ?_, rfl, rfl, rfl, rfl, rfl, rfl, rfl⟩
      · have moved := Part.setTime_contactor (BitVec.ofNat 32 (f.field 1 4)) popped k
        refine ⟨(congrArg _ moved).trans rfl, (congrArg _ moved).trans rfl, fun e timing => (congrArg _ moved).trans ?_,
          fun still => (congrArg _ moved).trans ?_⟩
        · exact ContactorState.move_watch_timing _ timing
        · exact ContactorState.move_watch_still _ still
      · change c.south.wire.map _ = _
        rw [wire]
        rfl
      · change c.north.wire.map _ = _
        rw [wire]
        rfl
      · change c.south.wire.map _ = _
        rw [wire]
        rfl
      · change c.north.wire.map _ = _
        rw [wire]
        rfl
      · change c.store.write.move _ = _
        rw [write]
        rfl
      · change c.store.write.move _ = _
        rw [write]
        rfl
      · change c.store.write.move _ = _
        rw [write]
        rfl
      · change c.store.switch.move _ = _
        rw [load]
        rfl
      · exact SwitchPhase.move_of_not_loading _ other
      · change (c.eval.shunt.map _).map _ = _
        rw [Option.map_map]
        rfl
      · change (c.router.tracker.map (TxRecord.move _)).map _ = _
        rw [List.map_map]
        rfl

/-! ### SLEEP, RESTART and RESET_SOUTH -/

theorem Part.enterWaking_south (c : Part) : c.enterWaking.south = { c.south with
    link := .waking, retry := none, window := none, wakesSent := 0, enumSent := false, bringAt := none,
    bringDue := some c.sched.packTime, sampling := [] } :=
  Part.dropSampling_south (c := { c with
    south.link := .waking, south.retry := none, south.window := none, south.wakesSent := 0, south.enumSent := false,
    south.bringAt := none, south.bringDue := some c.now }) nofun

theorem Part.enterWaking_sweeps_of_nil (none_open : c.sched.sweeps = []) : c.enterWaking.sched.sweeps = [] :=
  Part.dropSampling_sweeps_of_nil none_open

/-- Settles O59: the conditions of R142 and R191 in order, and the way through DOWN to WAKING. -/
theorem sleepRestartAndResetSouth : Obligations.SleepRestartAndResetSouth := by
  intro c q f rest
  refine ⟨fun h => ?_, fun h => ?_, fun h => ?_⟩
  · intro ready normal entering
    have effect := exec_command_of_executes (q := q) h
    have refused {st : Status} (status : c.sleepStatus = st) (bad : st ≠ .ok) :
        exec .sleep ⟨c, q⟩ = .next ⟨c.answered f rest st [], q⟩ := by
      subst status
      exact exec_eq_next effect (if_neg bad)
    have status : c.sleepStatus = if ¬ ready then .state else if c.store.update ≠ .idle then .updating
        else if c.router.tracker ≠ [] then .busy else .ok := by
      have empty : c.router.tracker.isEmpty = false ↔ c.router.tracker ≠ [] := by simp
      simp only [Part.sleepStatus, ready, ← ConnState.atRest_iff, empty]
      by_cases active : c.power.state = .active <;> cases c.seq.conn.atRest <;> simp [active]
    refine ⟨fun unready => refused ?_ nofun, fun awake busy => refused ?_ nofun,
      fun awake idle waits => refused ?_ nofun, fun awake idle clear runs => exec_eq_next effect ?_,
      fun awake idle clear rests => exec_eq_next effect ?_⟩
    · rw [status, if_pos unready]
    · rw [status, if_neg (not_not.mpr awake), if_pos busy]
    · rw [status, if_neg (not_not.mpr awake), if_neg (not_not.mpr idle), if_pos waits]
    · have ok : c.sleepStatus = .ok := by
        rw [status, if_neg (not_not.mpr awake), if_neg (not_not.mpr idle), if_neg (not_not.mpr clear)]
      refine (if_pos ok).trans ?_
      simp only [Part.beginSleep]
      rw [Part.endNormalRun_of_normal (by exact runs)]
      rfl
    · have ok : c.sleepStatus = .ok := by
        rw [status, if_neg (not_not.mpr awake), if_neg (not_not.mpr idle), if_neg (not_not.mpr clear)]
      refine (if_pos ok).trans ?_
      simp only [Part.beginSleep]
      rw [Part.endNormalRun_of_none (by exact rests)]
      rfl
  · intro atRest
    have effect := exec_command_of_executes (q := q) h
    have refused {st : Status} (status : c.restartStatus = st) (bad : st ≠ .ok) :
        exec .restart ⟨c, q⟩ = .next ⟨c.answered f rest st [], q⟩ := by
      subst status
      exact exec_eq_next effect (if_neg bad)
    have status : c.restartStatus = if ¬ atRest then .state else if c.store.update ≠ .idle then .updating else .ok := by
      simp only [Part.restartStatus, atRest, ← ConnState.atRest_iff, Bool.not_eq_true]
    refine ⟨fun closing => refused ?_ nofun, fun rests busy => refused ?_ nofun,
      fun rests idle => exec_eq_next effect ?_⟩
    · rw [status, if_pos closing]
    · rw [status, if_neg (not_not.mpr rests), if_pos busy]
    · have ok : c.restartStatus = .ok := by
        rw [status, if_neg (not_not.mpr rests), if_neg (not_not.mpr idle)]
      exact (if_pos ok).trans rfl
  · have effect := exec_command_of_executes (q := q) h
    let popped : Part := { c with mgmt.requests := rest }
    refine ⟨fun off => exec_eq_next effect ?_, fun running awake => ?_⟩
    · have still : popped.resetSouth = popped := if_pos off
      change popped.resetSouth.respond f .ok [byte popped.resetSouth.south.link.code] = _
      rw [still]
      change popped.respond f .ok [byte c.south.link.code] = _
      rw [off]
      rfl
    · let down := popped.enterDown false
      let cleared : Part := { down with sched.missed := Vector.replicate 16 0 }
      have waked : popped.resetSouth = cleared.enterWaking := if_neg running
      have south : down.south = _ := Part.enterDown_south (c := popped) false awake
      have router : down.router = _ := Part.enterDown_router (c := popped) false awake
      have sweeps : cleared.enterWaking.sched.sweeps = [] :=
        Part.enterWaking_sweeps_of_nil (c := cleared) (Part.enterDown_sweeps (c := popped) false awake)
      have power : down.power = c.power := Part.enterDown_power (c := popped) false awake
      have time : down.sched.packTime = c.sched.packTime := by simp [down, popped]
      have tables : down.store.tables = c.store.tables := by simp [down, popped]
      have mgmt : down.mgmt = popped.mgmt := by simp [down]
      have woken : cleared.enterWaking.south = _ := Part.enterWaking_south cleared
      have south' : cleared.south = _ := south
      rw [south'] at woken
      refine ⟨popped.resetSouth.respond f .ok [byte popped.resetSouth.south.link.code], exec_eq_next effect rfl, ?_⟩
      rw [waked]
      have router_of_cleared : cleared.router = popped.completeAll.router := router
      have mgmt_of_cleared : cleared.mgmt = popped.mgmt := mgmt
      have kept : cleared.enterWaking.router = down.router ∧ cleared.enterWaking.power = down.power ∧
          cleared.enterWaking.store.tables = down.store.tables ∧ cleared.enterWaking.mgmt = down.mgmt ∧
          cleared.enterWaking.sched.missed = Vector.replicate 16 0 := by simp [cleared]
      obtain ⟨router', power', tables', mgmt', missed⟩ := kept
      simp only [Part.respond, woken, sweeps, router', power', tables', mgmt', missed, router, mgmt, true_and]
      exact ⟨congrArg some time, rfl, rfl, rfl, rfl, rfl, rfl, rfl, rfl, congrArg _ power, tables⟩

end Sys2Proof.Machine
end

section
/-!
Rules of the contactor sequencer: what a drive, a check, a watch and an event record do (R103 to R105, R121, R122).
-/
namespace Sys2Proof.Machine

variable {c : Part} {k : Contactor} {v : Bool}

/-! ### One contactor's fields -/

@[simp] theorem Sequencer.contactor_kPos (s : Sequencer) : s.contactor .kPos = s.kPos := rfl
@[simp] theorem Sequencer.contactor_kNeg (s : Sequencer) : s.contactor .kNeg = s.kNeg := rfl
@[simp] theorem Sequencer.contactor_kPre (s : Sequencer) : s.contactor .kPre = s.kPre := rfl

@[simp] theorem Part.feedback_kPos (c : Part) : c.feedback .kPos = c.lines.feedback.kPos := rfl
@[simp] theorem Part.feedback_kNeg (c : Part) : c.feedback .kNeg = c.lines.feedback.kNeg := rfl
@[simp] theorem Part.feedback_kPre (c : Part) : c.feedback .kPre = c.lines.feedback.kPre := rfl

@[simp] theorem Sequencer.contactor_withContactor (s : Sequencer) (k : Contactor) (x : ContactorState) :
    (s.withContactor k x).contactor k = x := by
  cases k <;> rfl

@[simp] theorem Sequencer.withContactor_withContactor (s : Sequencer) (k : Contactor) (x y : ContactorState) :
    (s.withContactor k x).withContactor k y = s.withContactor k y := by
  cases k <;> rfl

theorem Sequencer.withContactor_conn (s : Sequencer) (k : Contactor) (x : ContactorState) :
    (s.withContactor k x).conn = s.conn := by
  cases k <;> rfl

@[simp] theorem ContactorFlags.get_set (s : ContactorFlags) (k : Contactor) (v : Bool) : (s.set k v).get k = v := by
  cases k <;> rfl

/-! ### Drives (R103, R104) -/

theorem Part.drive_of_same (same : (c.seq.contactor k).drive = v) : c.drive k v = c := if_pos same

theorem Part.drive_of_change (change : (c.seq.contactor k).drive ≠ v) : c.drive k v = c.withContactor k
    { drive := v, watch := .armed,
      timer := if c.feedback k = v then none
        else some { expiry := laterMs c.now c.tables.params.feedbackMs, target := v } } := if_neg change

/-- A drive that the feedback already follows: its check passes at the change. -/
theorem Part.drive_settled (change : (c.seq.contactor k).drive ≠ v) (follows : c.feedback k = v) :
    c.drive k v = c.withContactor k { drive := v, timer := none, watch := .armed } := by
  rw [Part.drive_of_change change, if_pos follows]

/-- A drive whose check runs. -/
theorem Part.drive_waiting (change : (c.seq.contactor k).drive ≠ v) (other : c.feedback k ≠ v) :
    c.drive k v = c.withContactor k
      { drive := v, timer := some { expiry := laterMs c.now c.tables.params.feedbackMs, target := v },
        watch := .armed } := by
  rw [Part.drive_of_change change, if_neg other]

/-- A drive changes the sequencer alone. -/
theorem Part.drive_only_seq (k : Contactor) (v : Bool) (c : Part) :
    c.drive k v = { c with seq := (c.drive k v).seq } := by
  unfold Part.drive
  split <;> rfl

/-- A drive changes its own contactor alone. -/
theorem Part.drive_seq (k : Contactor) (v : Bool) (c : Part) :
    (c.drive k v).seq = c.seq.withContactor k ((c.drive k v).seq.contactor k) := by
  unfold Part.drive
  split
  · cases k <;> rfl
  · cases k <;> rfl

@[simp] theorem Part.drive_drive (k : Contactor) (v : Bool) (c : Part) :
    ((c.drive k v).seq.contactor k).drive = v := by
  unfold Part.drive
  split
  next same => exact same
  next => cases k <;> rfl

theorem Part.openDrives_of_open (pos : c.seq.kPos.drive = false) (neg : c.seq.kNeg.drive = false)
    (pre : c.seq.kPre.drive = false) : c.openDrives = c := by
  rw [Part.openDrives, Part.drive_of_same (k := .kPos) pos, Part.drive_of_same (k := .kPre) pre,
    Part.drive_of_same (k := .kNeg) neg]

theorem Part.openDrives_only_seq (c : Part) : c.openDrives = { c with seq := c.openDrives.seq } := by
  rw [Part.openDrives, Part.drive_only_seq .kNeg, Part.drive_only_seq .kPre, Part.drive_only_seq .kPos]

/-- The three drives read open after `openDrives`. -/
theorem Part.openDrives_drives (c : Part) : c.openDrives.seq.kPos.drive = false ∧
    c.openDrives.seq.kNeg.drive = false ∧ c.openDrives.seq.kPre.drive = false := by
  have drives := congrArg ControlView.drives (Part.openDrives_control c)
  simpa only [Part.control, Prod.mk.injEq] using drives

theorem Part.openDrives_contactors (c : Part) : c.openDrives.seq = { c.seq with
    kPos := c.openDrives.seq.kPos, kNeg := c.openDrives.seq.kNeg, kPre := c.openDrives.seq.kPre } := by
  rw [Part.openDrives, Part.drive_seq .kNeg, Part.drive_seq .kPre, Part.drive_seq .kPos]
  rfl

/-! ### Checks and watches (R104, R105) -/

/-- A check passes when its feedback reads the value it waits for. -/
theorem Part.passCheck_eq (k : Contactor) (c : Part) : c.passCheck k = c.withContactor k
    { c.seq.contactor k with timer := (c.seq.contactor k).timer.filter (fun t => t.target != c.feedback k) } := by
  unfold Part.passCheck
  split
  next none_runs =>
    have same : ({ c.seq.contactor k with timer := Option.filter (fun t => t.target != c.feedback k) none } :
        ContactorState) = c.seq.contactor k := by
      rw [Option.filter_none, ← none_runs]
    rw [none_runs, same, Part.withContactor_self]
  next t runs =>
    split
    next reads => rw [runs, Option.filter_some_neg (by simp [reads])]
    next waits =>
      have same : ({ c.seq.contactor k with timer := Option.filter (fun t => t.target != c.feedback k) (some t) } :
          ContactorState) = c.seq.contactor k := by
        rw [Option.filter_some_pos (by simpa using waits), ← runs]
      rw [runs, same, Part.withContactor_self]

/-- The watch of a contactor whose timer, drive and feedback are known. -/
def Part.watchAfter (c : Part) (k : Contactor) (x : ContactorState) : Watch :=
  if x.timer.isSome then x.watch
  else if x.drive = c.feedback k then .armed
  else if x.watch = .armed then .timing (laterMs c.now c.tables.params.debounceMs)
  else x.watch

theorem Part.updateWatch_eq (k : Contactor) (awake : c.power.state ≠ .deep) : c.updateWatch k =
    c.withContactor k { c.seq.contactor k with watch := c.watchAfter k (c.seq.contactor k) } := by
  have kept (same : c.watchAfter k (c.seq.contactor k) = (c.seq.contactor k).watch) : c =
      c.withContactor k { c.seq.contactor k with watch := c.watchAfter k (c.seq.contactor k) } := by
    rw [same]
    exact (Part.withContactor_self k c).symm
  unfold Part.updateWatch
  dsimp only
  generalize contactor : c.seq.contactor k = x at kept ⊢
  by_cases runs : x.timer.isSome = true
  · rw [if_pos (.inr runs)]
    exact kept (if_pos runs)
  · rw [if_neg (by simp only [awake, runs]; decide)]
    by_cases agrees : x.drive = c.feedback k
    · have armed : c.watchAfter k x = .armed := (if_neg runs).trans (if_pos agrees)
      cases watch : x.watch with
      | armed => simpa [agrees] using kept (armed.trans watch.symm)
      | timing e => simp [agrees, armed]
      | spent => simp [agrees, armed]
    · have open_feedback : (c.feedback k == x.drive) = false := by simpa using Ne.symm agrees
      have still : c.watchAfter k x = if x.watch = .armed then .timing (laterMs c.now c.tables.params.debounceMs)
          else x.watch := (if_neg runs).trans (if_neg agrees)
      cases watch : x.watch with
      | armed => simp [open_feedback, still, watch]
      | timing e => simpa [open_feedback] using kept (still.trans (if_neg (by simp [watch])))
      | spent => simpa [open_feedback] using kept (still.trans (if_neg (by simp [watch])))

/-- A feedback takes a level outside DEEP: its check, its watch, and then the step that waits. -/
theorem Part.feedbackChange_eq (q : List Instr) (k : Contactor) (closed : Bool) (awake : c.power.state ≠ .deep) :
    c.feedbackChange q k closed =
      let x := c.seq.contactor k
      let timer := x.timer.filter (fun t => t.target != closed)
      let watch : Watch :=
        if timer.isSome then x.watch
        else if x.drive = closed then .armed
        else if x.watch = .armed then .timing (laterMs c.now c.tables.params.debounceMs)
        else x.watch
      Part.advance { c with
        lines.feedback := c.lines.feedback.set k closed,
        seq := c.seq.withContactor k { drive := x.drive, timer := timer, watch := watch } } := by
  unfold Part.feedbackChange
  rw [if_neg awake]
  dsimp only
  rw [Part.passCheck_eq, Part.updateWatch_eq k (by simpa [Part.withContactor] using awake)]
  simp only [Part.withContactor, Part.watchAfter, Part.feedback, ContactorFlags.get_set,
    Sequencer.contactor_withContactor, Sequencer.withContactor_withContactor]
  rfl

/-! ### Event records (R121, R122) -/

theorem Part.offerAnswer_seq (payload : List Byte) (c : Part) : (c.offerAnswer payload).seq = c.seq := by simp

/-- The newest record of the queue is the one appended. -/
theorem Part.appendEvent_last (kind : EventKind) (k : Option Contactor) (cause : Cause) (before after : ConnState)
    (current linkVoltage : Option Int) (c : Part) :
    (c.appendEvent kind k cause before after current linkVoltage).seq.events.getLast? = some
      { number := c.seq.nextEvent, time := c.sched.packTime, kind := kind, contactor := k, cause := cause,
        before := before, after := after, current := current, linkVoltage := linkVoltage } := by
  unfold Part.appendEvent
  dsimp only
  rw [Part.offerAnswer_seq, List.getLast?_concat]
  rfl

/-- The newest record is still in the queue after the next one. -/
theorem Part.appendEvent_keeps_newest {e : EventRecord} (kind : EventKind) (k : Option Contactor) (cause : Cause)
    (before after : ConnState) (current linkVoltage : Option Int) (newest : c.seq.events.getLast? = some e) :
    e ∈ (c.appendEvent kind k cause before after current linkVoltage).seq.events := by
  obtain ⟨older, queue⟩ := List.getLast?_eq_some_iff.mp newest
  unfold Part.appendEvent
  dsimp only
  rw [Part.offerAnswer_seq]
  refine List.mem_append_left _ ?_
  rw [queue]
  cases older with
  | nil => simp
  | cons first others =>
    split <;> simp

/-- What an appended record leaves of the sequencer. -/
theorem Part.appendEvent_seq (kind : EventKind) (k : Option Contactor) (cause : Cause) (before after : ConnState)
    (current linkVoltage : Option Int) (c : Part) :
    let t := c.appendEvent kind k cause before after current linkVoltage
    t.seq = { c.seq with events := t.seq.events, nextEvent := t.seq.nextEvent, overwritten := t.seq.overwritten } := by
  unfold Part.appendEvent
  dsimp only
  rw [Part.offerAnswer_seq]

theorem Part.logEvent_last (kind : EventKind) (k : Option Contactor) (cause : Cause) (before after : ConnState)
    (c : Part) : ∃ e, (c.logEvent kind k cause before after).seq.events.getLast? = some e ∧ e.kind = kind ∧
      e.contactor = k ∧ e.cause = cause ∧ e.before = before ∧ e.after = after ∧ e.time = c.sched.packTime :=
  ⟨_, Part.appendEvent_last .., rfl, rfl, rfl, rfl, rfl, rfl⟩

theorem Part.logEvent_seq (kind : EventKind) (k : Option Contactor) (cause : Cause) (before after : ConnState)
    (c : Part) : (c.logEvent kind k cause before after).seq = { c.seq with
      events := (c.logEvent kind k cause before after).seq.events,
      nextEvent := (c.logEvent kind k cause before after).seq.nextEvent,
      overwritten := (c.logEvent kind k cause before after).seq.overwritten } := Part.appendEvent_seq ..

end Sys2Proof.Machine
end

section
/-!
The steps of a close and of an opening, by the feedbacks and by requests (R103, R104, R107, R108, R111, R112, R114 to
R117).
-/
namespace Sys2Proof.Machine

variable {c : Part} {q : List Instr} {f : Frame} {rest : List Frame}

/-! ### Feedback changes (R104, R105) -/

/-- Settles O43: no step waits, so the check and the watch are all that moves. -/
theorem feedbackChangesMoveCheckAndWatch : Obligations.FeedbackChangesMoveCheckAndWatch := by
  intro c q k closed awake neg main opening x timer watch
  refine exec_eq_next rfl ((Part.feedbackChange_eq q k closed awake).trans ?_)
  let moved : Part := { c with
    lines.feedback := c.lines.feedback.set k closed,
    seq := c.seq.withContactor k { drive := x.drive, timer := timer, watch := watch } }
  have conn : moved.seq.conn = c.seq.conn := Sequencer.withContactor_conn ..
  change moved.advance = moved
  unfold Part.advance
  split
  next closing => exact absurd (conn.symm.trans closing) neg
  next closing => exact absurd (conn.symm.trans closing) main
  next closing => exact absurd (conn.symm.trans closing) opening
  all_goals rfl

/-- A feedback that reads what the check of its contactor waits for. -/
theorem Part.feedbackChange_of_waiting {k : Contactor} {v : Bool} (awake : c.power.state ≠ .deep)
    (drive : (c.seq.contactor k).drive = v) (waits : ∃ e, (c.seq.contactor k).timer = some { expiry := e, target := v }) :
    c.feedbackChange q k v = Part.advance { c with
      lines.feedback := c.lines.feedback.set k v,
      seq := c.seq.withContactor k { drive := v, timer := none, watch := .armed } } := by
  obtain ⟨e, timer⟩ := waits
  rw [Part.feedbackChange_eq q k v awake]
  simp [timer, drive, Option.filter]

/-! ### The steps that wait (R108, R111, R116) -/

theorem Part.advanceNeg_of_settled (closing : c.seq.conn = .negClosing) (settled : c.settled .kNeg = true) :
    c.advanceNeg =
      let c1 := c.drive .kPre true
      if c1.seq.conn = .negClosing ∧ c1.settled .kNeg ∧ c1.seq.kPre.drive = true ∧ c1.settled .kPre then
        c1.enterPrecharging
      else c1 := by
  have first : (if c.seq.conn = .negClosing ∧ c.settled .kNeg = true then c.drive .kPre true else c) =
      c.drive .kPre true := if_pos ⟨closing, settled⟩
  simp only [Part.advanceNeg, first]

theorem Part.advanceNeg_of_unsettled (unsettled : c.settled .kNeg = false) : c.advanceNeg = c := by
  have first : (if c.seq.conn = .negClosing ∧ c.settled .kNeg = true then c.drive .kPre true else c) = c :=
    if_neg (by simp [unsettled])
  simp only [Part.advanceNeg, first]
  exact if_neg (by simp [unsettled])

theorem Part.advanceMain_of_settled (closing : c.seq.conn = .mainClosing) (settled : c.settled .kPos = true) :
    c.advanceMain =
      let c1 := c.drive .kPre false
      if c1.seq.conn = .mainClosing ∧ c1.settled .kPos ∧ c1.seq.kPre.drive = false ∧ c1.settled .kPre then
        c1.enterClosed
      else c1 := by
  have first : (if c.seq.conn = .mainClosing ∧ c.settled .kPos = true then c.drive .kPre false else c) =
      c.drive .kPre false := if_pos ⟨closing, settled⟩
  simp only [Part.advanceMain, first]

/-- With FB_POS open DRV_NEG opens, and with FB_NEG open too the opening ends (R116). -/
theorem Part.advanceOpening_of_open (opening : c.seq.conn = .opening) (pos : c.lines.feedback.kPos = false) :
    c.advanceOpening =
      let c1 := c.drive .kNeg false
      if c.lines.feedback.kNeg = false then c1.endOpening else c1 := by
  have only := Part.drive_only_seq .kNeg false c
  have conn : (c.drive .kNeg false).seq.conn = .opening := by
    rw [Part.drive_seq, Sequencer.withContactor_conn, opening]
  have drive : (c.drive .kNeg false).seq.kNeg.drive = false := Part.drive_drive .kNeg false c
  have lines : (c.drive .kNeg false).feedback .kNeg = c.lines.feedback.kNeg := by rw [only, Part.feedback_kNeg]
  have first : (if c.seq.conn = .opening ∧ c.feedback .kPos = false then c.drive .kNeg false else c) =
      c.drive .kNeg false := if_pos ⟨opening, pos⟩
  simp only [Part.advanceOpening, first, conn, drive, lines, true_and]

theorem Part.advanceOpening_of_closed (pos : c.lines.feedback.kPos = true) (drive : c.seq.kNeg.drive = true) :
    c.advanceOpening = c := by
  have first : (if c.seq.conn = .opening ∧ c.feedback .kPos = false then c.drive .kNeg false else c) = c :=
    if_neg (by simp [pos])
  simp only [Part.advanceOpening, first]
  exact if_neg (by simp [drive])

theorem Part.advance_of_opening (opening : c.seq.conn = .opening) : c.advance = c.advanceOpening := by
  simp only [Part.advance, opening]

theorem Part.advance_of_negClosing (closing : c.seq.conn = .negClosing) : c.advance = c.advanceNeg := by
  simp only [Part.advance, closing]

theorem Part.advance_of_mainClosing (closing : c.seq.conn = .mainClosing) : c.advance = c.advanceMain := by
  simp only [Part.advance, closing]

/-! ### The end of an opening (R117) and LOCKED_OUT (R118) -/

/-- The record of an opening: OPENED_UNDER_LOAD with the reading that was kept, and otherwise OPEN_DONE (R117). -/
def Part.logOpening (after : ConnState) (underLoad : Option (Int × Int)) (cause : Cause) (c : Part) : Part :=
  match underLoad with
  | some u => c.appendEvent .openedUnderLoad none cause .opening after (some u.1) (some u.2)
  | none => c.logEvent .openDone none cause .opening after

/-- The opening's record and the references it sets absent. -/
def Part.opened (after : ConnState) (c : Part) : Part :=
  let c1 : Part := { c.openDrives with seq.conn := after, seq.tSo := none }
  let c2 := c1.logOpening after c.seq.underLoad (c.seq.openingCause.getD .request)
  { c2 with seq.underLoad := none, seq.openingCause := none }

theorem Part.endOpening_of_none (clear : c.seq.pendingLockout = none) : c.endOpening = c.opened .opened := by
  simp only [Part.endOpening, Part.opened, Part.logOpening, clear, Option.isSome_none, Bool.false_eq_true, if_false]
    <;> cases c.seq.underLoad <;> rfl

theorem Part.endOpening_of_pending {k : FaultClass} (pending : c.seq.pendingLockout = some k) :
    c.endOpening = (c.opened .lockedOut).enterLockedOut .opening := by
  simp only [Part.endOpening, Part.opened, Part.logOpening, pending, Option.isSome_some, if_true]
    <;> cases c.seq.underLoad <;> rfl

theorem Part.logOpening_last (after : ConnState) (u : Option (Int × Int)) (cause : Cause) (c : Part) :
    ∃ e, (c.logOpening after u cause).seq.events.getLast? = some e ∧ e.cause = cause ∧ e.after = after ∧
      e.kind = if u = none then .openDone else .openedUnderLoad := by
  cases u with
  | none => exact ⟨_, Part.appendEvent_last .., rfl, rfl, rfl⟩
  | some u => exact ⟨_, Part.appendEvent_last .., rfl, rfl, rfl⟩

theorem Part.logOpening_seq (after : ConnState) (u : Option (Int × Int)) (cause : Cause) (c : Part) :
    (c.logOpening after u cause).seq = { c.seq with
      events := (c.logOpening after u cause).seq.events, nextEvent := (c.logOpening after u cause).seq.nextEvent,
      overwritten := (c.logOpening after u cause).seq.overwritten } := by
  cases u <;> exact Part.appendEvent_seq ..

theorem Part.opened_of_open {after : ConnState} (pos : c.seq.kPos.drive = false) (neg : c.seq.kNeg.drive = false)
    (pre : c.seq.kPre.drive = false) : c.opened after =
      { Part.logOpening after c.seq.underLoad (c.seq.openingCause.getD .request)
          { c with seq.conn := after, seq.tSo := none } with
        seq.underLoad := none, seq.openingCause := none } := by
  rw [Part.opened, Part.openDrives_of_open pos neg pre]

/-- Without an under-load reading the record is an OPEN_DONE, and there is no reading to set absent. -/
theorem Part.logOpening_dark {after : ConnState} {u : Option (Int × Int)} {cause : Cause} (light : c.seq.underLoad = u)
    (dark : u = none) : { c.logOpening after u cause with seq.underLoad := none, seq.openingCause := none } =
      { c.logEvent .openDone none cause .opening after with seq.openingCause := none } := by
  subst dark
  have kept : (c.logEvent .openDone none cause .opening after).seq.underLoad = none := by
    rw [Part.logEvent_seq]
    exact light
  rw [Part.logOpening, ← kept]

theorem Part.opened_pending (after : ConnState) (c : Part) :
    (c.opened after).seq.pendingLockout = c.seq.pendingLockout := by
  simp only [Part.opened]
  rw [Part.logOpening_seq]
  simp only
  rw [Part.openDrives_contactors c]

theorem Part.opened_packTime (after : ConnState) (c : Part) : (c.opened after).sched.packTime = c.sched.packTime := by
  unfold Part.opened Part.logOpening
  cases c.seq.underLoad <;> simp

theorem Part.opened_last (after : ConnState) (c : Part) : ∃ e, (c.opened after).seq.events.getLast? = some e ∧
    e.cause = c.seq.openingCause.getD .request ∧ e.after = after ∧
    e.kind = if c.seq.underLoad = none then .openDone else .openedUnderLoad := Part.logOpening_last ..

theorem Part.requestWrite_ne_idle (c : Part) : c.requestWrite.store.write ≠ .idle := by
  unfold Part.requestWrite
  split <;> simp_all

/-- The part that LOCKED_OUT is entered with, before the record of it. -/
def Part.locked (c : Part) : Part :=
  { c.openDrives with seq.conn := .lockedOut, seq.pendingLockout := none }

theorem Part.enterLockedOut_seq (before : ConnState) (c : Part) : (c.enterLockedOut before).seq =
    (c.locked.logEvent .lockoutEnter none (.cls (c.seq.pendingLockout.getD .contactorFault)) before .lockedOut).seq := by
  simp [Part.enterLockedOut, Part.locked]

theorem Part.enterLockedOut_write (before : ConnState) (c : Part) : (c.enterLockedOut before).store.write ≠ .idle :=
  Part.requestWrite_ne_idle _

/-- What LOCKED_OUT shows, whatever state it is entered from (R118). -/
theorem Part.enterLockedOut_shows (before : ConnState) (c : Part) :
    let t := c.enterLockedOut before
    t.seq.conn = .lockedOut ∧ t.seq.pendingLockout = none ∧ t.seq.underLoad = c.seq.underLoad ∧
    t.seq.openingCause = c.seq.openingCause ∧
    t.seq.kPos.drive = false ∧ t.seq.kNeg.drive = false ∧ t.seq.kPre.drive = false ∧
    t.store.copy.lockout = true ∧ t.store.write ≠ .idle ∧ t.interlock.faultOut = true ∧
    (∃ e, t.seq.events.getLast? = some e ∧ e.kind = .lockoutEnter ∧
      e.cause = .cls (c.seq.pendingLockout.getD .contactorFault) ∧ e.before = before ∧ e.after = .lockedOut ∧
      e.time = c.sched.packTime) := by
  intro t
  have seq : t.seq = _ := Part.enterLockedOut_seq before c
  have logged := Part.logEvent_seq .lockoutEnter none (.cls (c.seq.pendingLockout.getD .contactorFault)) before .lockedOut
    c.locked
  obtain ⟨w, control, -⟩ := Part.enterLockedOut_control before c
  simp only [Part.control, ControlView.mk.injEq, Prod.mk.injEq] at control
  obtain ⟨conn, ⟨pos, neg, pre⟩, -, -, -, -, -, fault, -, copy, -⟩ := control
  have time : c.locked.sched.packTime = c.sched.packTime := by simp [Part.locked]
  have light : c.openDrives.seq.underLoad = c.seq.underLoad := by rw [Part.openDrives_contactors c]
  have cause : c.openDrives.seq.openingCause = c.seq.openingCause := by rw [Part.openDrives_contactors c]
  refine ⟨conn, ?_, ?_, ?_, pos, neg, pre, congrArg (·.lockout) copy, Part.enterLockedOut_write before c, fault, ?_⟩
  · rw [seq, logged]
    rfl
  · rw [seq, logged]
    exact light
  · rw [seq, logged]
    exact cause
  · rw [seq]
    obtain ⟨e, last, kind, -, cause, before', after, stamp⟩ := Part.logEvent_last .lockoutEnter none
      (.cls (c.seq.pendingLockout.getD .contactorFault)) before .lockedOut c.locked
    exact ⟨e, last, kind, cause, before', after, stamp.trans time⟩

/-- The record before LOCKED_OUT's own stays in the queue. -/
theorem Part.enterLockedOut_keeps_newest {e : EventRecord} (before : ConnState)
    (newest : c.seq.events.getLast? = some e) : e ∈ (c.enterLockedOut before).seq.events := by
  rw [Part.enterLockedOut_seq]
  refine Part.appendEvent_keeps_newest (c := c.locked) _ _ _ _ _ _ _ ?_
  exact (congrArg (fun s : Sequencer => s.events.getLast?) (Part.openDrives_contactors c)).trans newest

/-! ### Closing and opening by the feedbacks -/

/-- Settles O44: the feedback settles its contactor, and the step that waited for it goes on. -/
theorem feedbacksMoveTheSequence : Obligations.FeedbacksMoveTheSequence := by
  intro c q awake wait waiting settled driven
  have effect {k : Contactor} {v : Bool} (waits : waiting (c.seq.contactor k) v) :
      exec (.feedbackLineChange k v) ⟨c, q⟩ = .next ⟨Part.advance { c with
        lines.feedback := c.lines.feedback.set k v, seq := c.seq.withContactor k (settled v) }, q⟩ :=
    exec_eq_next rfl (Part.feedbackChange_of_waiting awake waits.1 waits.2)
  refine ⟨fun conn waits pre fb => ?_, fun conn neg waits => ?_, fun conn waits pre fb => ?_,
    fun conn pos waits => ?_, fun conn waits neg fb => ?_, fun conn waits pos pre fb clear light => ?_,
    fun u conn waits pos pre fb clear loaded => ?_, fun k conn waits fb pending => ?_⟩
  · refine exec_eq_next (effect (k := .kNeg) waits) ?_
    rw [Part.advance_of_negClosing (by exact conn)]
    rw [Part.advanceNeg_of_settled (by exact conn) rfl, Part.drive_waiting (by simp [Sequencer.withContactor, pre])
      (by simp [ContactorFlags.set, fb])]
    exact if_neg nofun
  · refine exec_eq_next (effect (k := .kPre) waits) ?_
    rw [Part.advance_of_negClosing (by exact conn)]
    rw [Part.advanceNeg_of_settled (by exact conn) (by simp [Part.settled, Sequencer.withContactor, neg]),
      Part.drive_of_same (k := .kPre) (v := true) (by rfl)]
    exact if_pos ⟨conn, by simp [Part.settled, Sequencer.withContactor, neg], rfl, rfl⟩
  · refine exec_eq_next (effect (k := .kPos) waits) ?_
    rw [Part.advance_of_mainClosing (by exact conn)]
    rw [Part.advanceMain_of_settled (by exact conn) rfl, Part.drive_waiting (by simp [Sequencer.withContactor, pre])
      (by simp [ContactorFlags.set, fb])]
    exact if_neg nofun
  · refine exec_eq_next (effect (k := .kPre) waits) ?_
    rw [Part.advance_of_mainClosing (by exact conn)]
    rw [Part.advanceMain_of_settled (by exact conn) (by simp [Part.settled, Sequencer.withContactor, pos]),
      Part.drive_of_same (k := .kPre) (v := false) (by rfl)]
    exact if_pos ⟨conn, by simp [Part.settled, Sequencer.withContactor, pos], rfl, rfl⟩
  · refine exec_eq_next (effect (k := .kPos) waits) ?_
    rw [Part.advance_of_opening (by exact conn)]
    rw [Part.advanceOpening_of_open (by exact conn) rfl, Part.drive_waiting (by simp [Sequencer.withContactor, neg])
      (by simp [ContactorFlags.set, fb])]
    exact if_neg (by simp [ContactorFlags.set, fb])
  · refine exec_eq_next (effect (k := .kNeg) waits) ?_
    rw [Part.advance_of_opening (by exact conn)]
    rw [Part.advanceOpening_of_open (by exact conn) (by exact fb), Part.drive_of_same (k := .kNeg) (by rfl)]
    refine (if_pos rfl).trans ((Part.endOpening_of_none (by exact clear)).trans ?_)
    rw [Part.opened_of_open (by exact pos) rfl (by exact pre)]
    exact Part.logOpening_dark rfl light
  · refine exec_eq_next (effect (k := .kNeg) waits) ?_
    rw [Part.advance_of_opening (by exact conn), Part.advanceOpening_of_open (by exact conn) (by exact fb),
      Part.drive_of_same (k := .kNeg) (by rfl)]
    refine (if_pos rfl).trans ((Part.endOpening_of_none (by exact clear)).trans ?_)
    rw [Part.opened_of_open (by exact pos) rfl (by exact pre)]
    simp only [Sequencer.withContactor, loaded]
    rfl
  · let moved : Part := { c with
      lines.feedback := c.lines.feedback.set .kNeg false, seq := c.seq.withContactor .kNeg (settled false) }
    have opens : moved.advance = (moved.opened .lockedOut).enterLockedOut .opening := by
      rw [Part.advance_of_opening (c := moved) conn, Part.advanceOpening_of_open (c := moved) conn fb,
        Part.drive_of_same (c := moved) (k := .kNeg) (v := false) rfl]
      exact (if_pos rfl).trans (Part.endOpening_of_pending (c := moved) pending)
    have pends : (moved.opened .lockedOut).seq.pendingLockout = some k := (Part.opened_pending _ _).trans pending
    obtain ⟨e, newest, cause, after, kind⟩ := Part.opened_last .lockedOut moved
    obtain ⟨locked, cleared, light, uncaused, kPos, kNeg, kPre, flag, writes, fault, lock, last, kind', cause', -, -,
      time⟩ := Part.enterLockedOut_shows .opening (moved.opened .lockedOut)
    rw [pends] at cause'
    refine ⟨_, exec_eq_next (effect (k := .kNeg) waits) opens, locked, cleared, light, uncaused, kPos, kNeg, kPre, flag,
      writes, fault, ⟨lock, List.mem_of_getLast? last, kind', cause', time.trans (Part.opened_packTime _ _)⟩,
      ⟨e, Part.enterLockedOut_keeps_newest _ newest, kind, cause, after⟩⟩

/-! ### CONNECT (R107, R108) -/

/-- Settles O55: the conditions of R107 in order, and the start of a close as far as the feedbacks let it go. -/
theorem connectIsAnsweredInOrder : Obligations.ConnectIsAnsweredInOrder := by
  intro c q f rest h wait driven settled opened active configured idle blocked
  have effect := exec_command_of_executes (q := q) h
  have refused {st : Status} (status : c.connectStatus = st) (bad : st ≠ .ok) :
      exec .connect ⟨c, q⟩ = .next ⟨c.answered f rest st [], q⟩ := by
    subst status
    exact exec_eq_next effect (if_neg bad)
  have status : c.connectStatus = if ¬ opened then .state else if ¬ active then .notActive
      else if ¬ configured then .unconfigured else if ¬ idle then .updating else if blocked then .blocked else .ok := by
    simp only [Part.connectStatus, opened, active, configured, idle, blocked, ne_eq, not_not]
    rfl
  refine ⟨fun o => refused ?_ nofun, fun o a => refused ?_ nofun, fun o a n => refused ?_ nofun,
    fun o a n i => refused ?_ nofun, fun o a n i b => refused ?_ nofun, fun o a n i b released => ?_⟩
  · rw [status, if_pos o]
  · rw [status, if_neg (not_not.mpr o), if_pos a]
  · rw [status, if_neg (not_not.mpr o), if_neg (not_not.mpr a), if_pos n]
  · rw [status, if_neg (not_not.mpr o), if_neg (not_not.mpr a), if_neg (not_not.mpr n), if_pos i]
  · rw [status, if_neg (not_not.mpr o), if_neg (not_not.mpr a), if_neg (not_not.mpr n), if_neg (not_not.mpr i), if_pos b]
  · have ok : c.connectStatus = .ok := by
      rw [status, if_neg (not_not.mpr o), if_neg (not_not.mpr a), if_neg (not_not.mpr n), if_neg (not_not.mpr i),
        if_neg b]
    let closing : Part := { c with mgmt.requests := rest, seq.conn := .negClosing }
    have taken {t : Part} (steps : (closing.drive .kNeg true).advanceNeg = t) :
        exec .connect ⟨c, q⟩ = .next ⟨t.respond f .ok [byte t.seq.conn.code], q⟩ := by
      subst steps
      exact exec_eq_next effect ((if_pos ok).trans rfl)
    have change : (closing.seq.contactor .kNeg).drive ≠ true := by simp [closing, released]
    refine ⟨fun neg => ?_, fun neg pre free => ?_, fun neg pre free => ?_⟩
    · refine exec_eq_next (taken (Part.advanceNeg_of_unsettled ?_)) ?_
      · rw [Part.drive_waiting change (by simp [closing, neg])]
        rfl
      · rw [Part.drive_waiting change (by simp [closing, neg])]
        rfl
    · have first := Part.drive_settled change (by simp [closing, neg])
      refine exec_eq_next (taken ?_) (t' := Part.respond f .ok _ { closing with seq.kNeg := settled, seq.kPre := driven })
        rfl
      rw [first, Part.advanceNeg_of_settled rfl rfl, Part.drive_waiting (by simp [Part.withContactor,
        Sequencer.withContactor, closing, free]) (by simp [Part.withContactor, closing, pre])]
      exact if_neg nofun
    · have first := Part.drive_settled change (by simp [closing, neg])
      refine exec_eq_next (taken ?_) (t' := Part.respond f .ok _
        (Part.enterPrecharging { closing with seq.kNeg := settled, seq.kPre := settled })) rfl
      rw [first, Part.advanceNeg_of_settled rfl rfl, Part.drive_settled (by simp [Part.withContactor,
        Sequencer.withContactor, closing, free]) (by simp [Part.withContactor, closing, pre])]
      exact if_pos ⟨rfl, rfl, rfl, rfl⟩

/-! ### DISCONNECT and DISCONNECT_NOW (R112, R114 to R116) -/

/-- What OPENING shows at its entry (R116). -/
theorem Part.enterOpening_shows (cause : Cause) (c : Part) :
    let t := c.enterOpening cause
    t = { c with seq := t.seq } ∧ t.seq.conn = .opening ∧ t.seq.kPos.drive = false ∧ t.seq.kPre.drive = false ∧
    t.seq.kNeg = c.seq.kNeg ∧ t.seq.prechargeEnd = none ∧ t.seq.softEnd = none ∧ t.seq.tPc = none ∧
    t.seq.openingCause = (if c.seq.conn = .softOpening then c.seq.openingCause else some cause) ∧
    t.seq.events = c.seq.events ∧ t.seq.pendingLockout = c.seq.pendingLockout := by
  intro t
  have only : t = { c with seq := t.seq } := by
    simp only [t, Part.enterOpening]
    rw [Part.drive_only_seq .kPre, Part.drive_only_seq .kPos]
  have seq : ((c.drive .kPos false).drive .kPre false).seq = { c.seq with
      kPos := ((c.drive .kPos false).drive .kPre false).seq.kPos,
      kPre := ((c.drive .kPos false).drive .kPre false).seq.kPre } := by
    rw [Part.drive_seq .kPre, Part.drive_seq .kPos]
    rfl
  have drives := congrArg ControlView.drives (Part.enterOpening_control cause c)
  simp only [Part.control, Prod.mk.injEq] at drives
  obtain ⟨pos, -, pre⟩ := drives
  refine ⟨only, rfl, pos, pre, ?_, rfl, rfl, rfl, rfl, ?_, ?_⟩
  · exact (congrArg Sequencer.kNeg seq).trans rfl
  · exact (congrArg Sequencer.events seq).trans rfl
  · exact (congrArg Sequencer.pendingLockout seq).trans rfl

/-- What the end of an opening shows (R117, R118). -/
theorem Part.endOpening_shows (c : Part) :
    let t := c.endOpening
    t.seq.conn = (if c.seq.pendingLockout = none then .opened else .lockedOut) ∧ t.seq.kPos.drive = false ∧
    t.seq.kPre.drive = false ∧ t.seq.kNeg.drive = false ∧ t.mgmt = c.mgmt := by
  intro t
  have kept : t.mgmt = c.mgmt := by simp [t]
  cases pending : c.seq.pendingLockout with
  | none =>
    have ended : t = c.opened .opened := Part.endOpening_of_none pending
    obtain ⟨pos, neg, pre⟩ := Part.openDrives_drives c
    let before : Part := { c.openDrives with seq.conn := .opened, seq.tSo := none }
    have logged := before.logOpening_seq .opened c.seq.underLoad (c.seq.openingCause.getD .request)
    have seq : t.seq = { (before.logOpening .opened c.seq.underLoad (c.seq.openingCause.getD .request)).seq with
        underLoad := none, openingCause := none } := congrArg Part.seq ended
    rw [logged] at seq
    rw [if_pos rfl, kept, seq]
    exact ⟨rfl, pos, pre, neg, rfl⟩
  | some k =>
    have ended : t = (c.opened .lockedOut).enterLockedOut .opening := Part.endOpening_of_pending pending
    obtain ⟨locked, -, -, -, pos, neg, pre, -⟩ := Part.enterLockedOut_shows .opening (c.opened .lockedOut)
    rw [if_neg nofun, kept, ended]
    exact ⟨locked, pos, pre, neg, rfl⟩

/-- What an abort to OPEN shows (R112). -/
theorem Part.abortToOpen_shows (cause : Cause) (c : Part) :
    let t := c.abortToOpen cause
    t.seq.conn = .opened ∧ t.seq.kPos.drive = false ∧ t.seq.kNeg.drive = false ∧ t.seq.kPre.drive = false ∧
    t.seq.prechargeEnd = none ∧ t.seq.tPc = none ∧
    (∃ e, t.seq.events.getLast? = some e ∧ e.kind = .prechargeAbort ∧ e.cause = cause ∧ e.before = c.seq.conn ∧
      e.after = .opened ∧ e.time = c.sched.packTime) := by
  intro t
  obtain ⟨pos, neg, pre⟩ := Part.openDrives_drives c
  let opened : Part := { c.openDrives with seq.conn := .opened, seq.prechargeEnd := none, seq.tPc := none }
  have seq : t.seq = _ := Part.logEvent_seq .prechargeAbort none cause c.seq.conn .opened opened
  obtain ⟨e, last, kind, -, cause', before, after, time⟩ :=
    Part.logEvent_last .prechargeAbort none cause c.seq.conn .opened opened
  have now : opened.sched.packTime = c.sched.packTime := by simp [opened]
  refine ⟨?_, ?_, ?_, ?_, ?_, ?_, e, last, kind, cause', before, after, time.trans now⟩ <;> rw [seq]
  exacts [pos, neg, pre]

/-- Settles O56: by connection state the answer is nothing, an abort, an opening or a soft open. -/
theorem disconnectsOpenThePack : Obligations.DisconnectsOpenThePack := by
  intro c q f rest i asked
  let popped : Part := { c with mgmt.requests := rest }
  let moved : Part := if i = .disconnect then popped.softDisconnect else popped.hardDisconnect
  have effect : exec i ⟨c, q⟩ = .next ⟨moved.respond f .ok [byte moved.seq.conn.code], q⟩ := by
    rcases asked with ⟨rfl, h⟩ | ⟨rfl, h⟩ <;> exact exec_eq_next (exec_command_of_executes h) rfl
  have which : i = .disconnect ∨ i = .disconnectNow := asked.imp And.left And.left
  have opens (from_state : c.seq.conn = .mainClosing ∨
      (i = .disconnectNow ∧ (c.seq.conn = .closed ∨ c.seq.conn = .softOpening))) :
      moved = popped.startOpening .request := by
    rcases from_state with main | ⟨rfl, closed | soft⟩
    · rcases which with rfl | rfl
      · simp only [moved, if_true, Part.softDisconnect, popped, main]
      · simp only [moved, reduceCtorEq, if_false, Part.hardDisconnect, popped, main]
    · simp only [moved, reduceCtorEq, if_false, Part.hardDisconnect, popped, closed]
    · simp only [moved, reduceCtorEq, if_false, Part.hardDisconnect, popped, soft]
  obtain ⟨only, opening, pos, pre, neg, limit, wait, reference, cause, events, pending⟩ :=
    Part.enterOpening_shows .request popped
  have started : popped.startOpening .request = (popped.enterOpening .request).advanceOpening := rfl
  generalize popped.enterOpening .request = entered at only opening pos pre neg limit wait reference cause events pending started
  have lines : entered.lines = c.lines := by rw [only]
  have mgmt : entered.mgmt = popped.mgmt := by rw [only]
  refine ⟨fun rests => exec_eq_next effect ?_, fun aborts => ?_, fun from_state fb => ?_,
    fun from_state fb driven => ?_, fun soft closed => exec_eq_next effect ?_⟩
  · have still : moved = popped := by
      rcases rests with h | h | h | ⟨rfl, h⟩
      · rcases which with rfl | rfl <;> simp [moved, Part.softDisconnect, Part.hardDisconnect, popped, h]
      · rcases which with rfl | rfl <;> simp [moved, Part.softDisconnect, Part.hardDisconnect, popped, h]
      · rcases which with rfl | rfl <;> simp [moved, Part.softDisconnect, Part.hardDisconnect, popped, h]
      · simp [moved, Part.softDisconnect, popped, h]
    rw [still]
    rfl
  · have aborted : moved = popped.abortToOpen .request := by
      rcases aborts with h | h <;> rcases which with rfl | rfl <;>
        simp [moved, Part.softDisconnect, Part.hardDisconnect, popped, h]
    obtain ⟨conn, kPos, kNeg, kPre, limit, reference, e, last, kind, cause, before, after, time⟩ :=
      Part.abortToOpen_shows .request popped
    rw [aborted] at effect
    have kept : (popped.abortToOpen .request).mgmt = popped.mgmt := by simp
    refine ⟨_, effect, conn, kPos, kNeg, kPre, limit, reference,
      ⟨e, List.mem_of_getLast? last, kind, cause, before, after, time⟩, ?_, ?_⟩
    · simp only [Part.respond, kept, conn]
      rfl
    · simp [Part.respond, popped]
  · intro ended
    have steps := Part.advanceOpening_of_open opening ((congrArg (·.feedback.kPos) lines).trans fb)
    let driven := entered.drive .kNeg false
    rw [lines] at steps
    have result : moved = if c.lines.feedback.kNeg = false then driven.endOpening else driven :=
      (opens from_state).trans (started.trans steps)
    have seq : driven.seq = { entered.seq with kNeg := driven.seq.kNeg } := Part.drive_seq ..
    have other : driven = { entered with seq := driven.seq } := Part.drive_only_seq ..
    have off : driven.seq.kNeg.drive = false := Part.drive_drive .kNeg false entered
    clear_value driven
    by_cases open_neg : c.lines.feedback.kNeg = false
    · obtain ⟨conn, kPos, kPre, kNeg, kept⟩ := Part.endOpening_shows driven
      have pends : driven.seq.pendingLockout = c.seq.pendingLockout := (congrArg (·.pendingLockout) seq).trans pending
      have mgmt' : driven.endOpening.mgmt = popped.mgmt := kept.trans ((congrArg (·.mgmt) other).trans mgmt)
      rw [pends] at conn
      rw [result.trans (if_pos open_neg)] at effect
      refine ⟨_, effect, kPos, kPre, kNeg, ?_, ?_, fun shut => absurd shut (by simp [open_neg])⟩
      · rw [if_neg (by simp [open_neg])]
        exact conn
      · simp only [Part.respond]
        rw [mgmt']
        rfl
    · have shut : c.lines.feedback.kNeg = true := by simpa using open_neg
      have conn : driven.seq.conn = .opening := (congrArg (·.conn) seq).trans opening
      have mgmt' : driven.mgmt = popped.mgmt := (congrArg (·.mgmt) other).trans mgmt
      rw [result.trans (if_neg open_neg)] at effect
      refine ⟨_, effect, (congrArg (·.kPos.drive) seq).trans pos, (congrArg (·.kPre.drive) seq).trans pre, off, ?_, ?_,
        fun _ => ⟨?_, (congrArg (·.openingCause) seq).trans cause⟩⟩
      · rw [if_pos shut]
        exact conn
      · simp only [Part.respond]
        rw [mgmt']
        rfl
      · rw [conn, other, only]
        rfl
  · have steps := Part.advanceOpening_of_closed (c := entered) ((congrArg (·.feedback.kPos) lines).trans fb)
      ((congrArg (·.drive) neg).trans driven)
    rw [(opens from_state).trans (started.trans steps)] at effect
    refine ⟨_, effect, ?_, opening, pos, pre, neg, limit, wait, reference, cause, events, pending⟩
    rw [opening, only]
    rfl
  · have entered : moved = popped.enterSoftOpening .request := by
      simp only [moved, if_pos soft, Part.softDisconnect, popped, closed]
    rw [entered]
    rfl

end Sys2Proof.Machine
end

section
/-!
The south arbiter, bring-up, and the run's cycle starts and launch times (R7, R8, R14, R18, R45 to R51).
-/
namespace Sys2Proof.Machine

variable {c : Part} {q : List Instr}

/-! ### A run that waits, and one that has begun -/

theorem Part.settleRun_of_begun (begun : ∀ r, c.sched.run = some r → r.begun = true) : c.settleRun = c := by
  unfold Part.settleRun
  split
  · rfl
  next r run => exact if_neg (by simp [begun r run])

theorem Part.settleRun_of_sampling (waiting : c.south.sampling ≠ []) : c.settleRun = c := by
  unfold Part.settleRun
  split
  · rfl
  next r run => exact if_neg (by simp [waiting])

theorem Part.settleRun_of_clear {r : Run} (run : c.sched.run = some r) (unbegun : r.begun = false)
    (clear : c.south.sampling = []) : c.settleRun = c.beginRun r := by
  unfold Part.settleRun
  rw [run]
  exact if_pos ⟨unbegun, by simp [clear]⟩

/-- With no frame waiting and no run to begin, leaving UP drops nothing. -/
theorem Part.dropSampling_of_clear (clear : c.south.sampling = [])
    (begun : ∀ r, c.sched.run = some r → r.begun = true) : c.dropSampling = c := by
  have kept : c.abortSweeps (fun w => c.south.sampling.any (fun f => f.triggers w.number)) = c := by
    have sweeps : c.sched.sweeps.filter (fun w => !c.south.sampling.any (fun f => f.triggers w.number)) =
        c.sched.sweeps := by simp [clear]
    have sampling (p : SamplingFrame → Bool) : c.south.sampling.filter p = c.south.sampling := by simp [clear]
    unfold Part.abortSweeps
    rw [Part.settleRun_of_begun (by exact begun), sweeps, sampling]
  unfold Part.dropSampling
  simp only [kept]
  rw [Part.settleRun_of_begun (by exact begun), ← clear]

/-! ### The arbiter (R18) -/

/-- The arbiter on a free link that is not OFF, by tier. -/
theorem Part.southTransmit_of_free (running : c.south.link ≠ .off) (free : linkFree c.sched.packTime c.south.wire = true) :
    c.southTransmit =
    match c.south.link, c.south.sampling with
    | .up, f :: rest => Part.settleRun (Part.putSouth f.frame .plain { c with south.sampling := rest })
    | _, _ =>
      match c.startTierTwo with
      | some c1 => c1
      | none => c.startQueued := by
  have starts : ¬ (c.south.link = .off ∨ linkFree c.now c.south.wire = false) := by
    rintro (off | busy)
    · exact running off
    · exact absurd (free.symm.trans busy) nofun
  exact if_neg starts

theorem Part.southTransmit_of_sampling {f : SamplingFrame} {rest : List SamplingFrame} (up : c.south.link = .up)
    (free : linkFree c.sched.packTime c.south.wire = true) (waits : c.south.sampling = f :: rest) :
    c.southTransmit = Part.settleRun (Part.putSouth f.frame .plain { c with south.sampling := rest }) := by
  rw [Part.southTransmit_of_free (by simp [up]) free, up, waits]

theorem Part.southTransmit_of_tierOneEmpty (running : c.south.link ≠ .off)
    (free : linkFree c.sched.packTime c.south.wire = true) (empty : c.south.link ≠ .up ∨ c.south.sampling = []) :
    c.southTransmit = match c.startTierTwo with
      | some c1 => c1
      | none => c.startQueued := by
  rw [Part.southTransmit_of_free running free]
  split
  next f rest up waits => exact absurd empty (by simp [up, waits])
  next => rfl

theorem Part.startTierTwo_bringup {b : Time} (due : c.south.bringDue = some b)
    (first : ∀ s, c.south.sleepDue = some s → isAfter b s = false) : c.startTierTwo = some c.startBringup := by
  unfold Part.startTierTwo
  rw [due]
  cases sleep : c.south.sleepDue with
  | none => rfl
  | some s => exact if_neg (by simp [first s sleep])

theorem Part.startTierTwo_sleep {s : Time} (due : c.south.sleepDue = some s)
    (first : ∀ b, c.south.bringDue = some b → isAfter b s = true) : c.startTierTwo = some c.startSleep := by
  unfold Part.startTierTwo
  rw [due]
  cases bring : c.south.bringDue with
  | none => rfl
  | some b => exact if_pos (first b bring)

theorem Part.startTierTwo_none (bring : c.south.bringDue = none) (sleep : c.south.sleepDue = none) :
    c.startTierTwo = none := by
  rw [Part.startTierTwo, bring, sleep]

theorem Part.startQueued_of_cons {e : SouthEntry} {rest : List SouthEntry} (up : c.south.link = .up)
    (queue : c.router.southQueue = e :: rest) : c.startQueued =
      Part.putSouth e.frame (if e.tracked then .tracked e.frame.seq else .plain)
        { c with router.southQueue := rest } := by
  rw [Part.startQueued, up, queue]

/-- Settles O37: the first tier that has a frame, on a free link. -/
theorem southTransmitterTakesByTier : Obligations.SouthTransmitterTakesByTier := by
  intro c q running free started own sampling tierOneEmpty
  have frame (f : SamplingFrame) : f.frame = sampling f := by cases f <;> rfl
  refine ⟨fun f rest up waits => ⟨fun settled => ?_, fun r run unbegun last => ?_⟩, fun b empty due first => ?_,
    fun s empty due first => ?_, fun empty bring sleep => ⟨fun e rest up queue => ?_, fun none_waits => ?_⟩⟩
  · refine exec_eq_next rfl ((Part.southTransmit_of_sampling up free waits).trans ?_)
    have still (p : Part) (run : p.sched.run = c.sched.run) (left : p.south.sampling = rest) : p.settleRun = p := by
      rcases settled with begun | more
      · exact Part.settleRun_of_begun (by rw [run]; exact begun)
      · exact Part.settleRun_of_sampling (by rw [left]; exact more)
    rw [still _ (by rfl) (by rfl), frame]
    rfl
  · refine exec_eq_next rfl ((Part.southTransmit_of_sampling up free waits).trans ?_)
    subst last
    rw [Part.settleRun_of_clear (r := r) (by exact run) unbegun rfl, frame, Part.beginRun]
    by_cases hold : c.sched.hold = true
    · rw [if_pos hold, if_pos hold]
      exact (if_pos hold).trans rfl
    · rw [if_neg hold, if_neg hold]
      exact (if_neg hold).trans (if_pos up)
  · refine ⟨Config.freeSequence c.freeIndex, fun few => ?_, fun many => ?_⟩
    · refine exec_eq_next rfl ((Part.southTransmit_of_tierOneEmpty running free empty).trans ?_)
      rw [Part.startTierTwo_bringup due first]
      exact (if_pos few).trans rfl
    · refine exec_eq_next rfl ((Part.southTransmit_of_tierOneEmpty running free empty).trans ?_)
      rw [Part.startTierTwo_bringup due first]
      exact (if_neg (Nat.not_lt.mpr many)).trans rfl
  · refine ⟨Config.freeSequence c.freeIndex, ?_⟩
    refine exec_eq_next rfl ((Part.southTransmit_of_tierOneEmpty running free empty).trans ?_)
    rw [Part.startTierTwo_sleep due first]
    rfl
  · refine exec_eq_next rfl ((Part.southTransmit_of_tierOneEmpty running free empty).trans ?_)
    rw [Part.startTierTwo_none bring sleep]
    exact (Part.startQueued_of_cons up queue).trans rfl
  · refine exec_eq_next rfl ((Part.southTransmit_of_tierOneEmpty running free empty).trans ?_)
    rw [Part.startTierTwo_none bring sleep]
    simp only [Part.startQueued]
    split
    next e rest up queue => exact absurd none_waits (by simp [up, queue])
    next => rfl

/-! ### Bring-up (R7, R8, R14) -/

theorem Part.enumEnd_of_ended {w : OnWire} (ended : c.endedSouth = some w) (tag : w.tag = .enum) : c.enumEnd =
    if c.south.link = .waking ∧ c.south.enumSent = true then
      Part.openWindow w.endTime { c with south.wire := some w.taken }
    else { c with south.wire := some w.taken } := by
  simp only [Part.enumEnd, ended, tag]

theorem Part.enumEnd_of_none (none_ended : c.endedSouth = none) : c.enumEnd = c := by
  simp only [Part.enumEnd, none_ended]

theorem Part.endedSouth_iff {w : OnWire} : c.endedSouth = some w ↔
    c.south.wire = some w ∧ w.ended c.now = true ∧ w.endTaken = false := by
  unfold Part.endedSouth
  cases wire : c.south.wire with
  | none => simp
  | some x =>
    simp only [Option.some.injEq]
    constructor
    · intro found
      split at found
      next ended =>
        obtain rfl := Option.some.inj found
        exact ⟨rfl, ended⟩
      next => cases found
    · rintro ⟨rfl, ended⟩
      exact if_pos ended

theorem timerDue_of_early {now : Time} {timer : Option Time}
    (early : timer = none ∨ ∃ t, timer = some t ∧ atOrAfter now t = false) : timerDue now timer = false := by
  rcases early with rfl | ⟨t, rfl, early⟩
  · rfl
  · exact early

/-- Settles O38: each row at its moment, and outside its state or before its time. -/
theorem bringUpGoesOn : Obligations.BringUpGoesOn := by
  intro c q
  refine ⟨fun t waking due now => exec_eq_next rfl ?_, fun t due early => exec_eq_next rfl ?_,
    fun other => exec_eq_next rfl ?_, fun w wire tag owed now waking sent => exec_eq_next rfl ?_,
    fun w wire tag owed => ⟨fun now other => exec_eq_next rfl ?_, fun early => exec_eq_next rfl ?_⟩,
    fun other => exec_eq_next rfl ?_, fun t down retry now clear begun => exec_eq_next rfl ?_,
    fun other => exec_eq_next rfl ?_⟩
  · simp only [Part.bringupDue, due]
    exact if_pos ⟨waking, now⟩
  · simp only [Part.bringupDue, due]
    exact if_neg fun ⟨_, reached⟩ => Bool.eq_false_iff.mp early reached
  · rcases other with away | none_due
    · unfold Part.bringupDue
      split
      next t due => exact if_neg fun ⟨waking, _⟩ => away waking
      next => rfl
    · simp only [Part.bringupDue, none_due]
  · rw [Part.enumEnd_of_ended (Part.endedSouth_of_due wire owed now) tag, if_pos ⟨waking, sent⟩]
    rfl
  · rw [Part.enumEnd_of_ended (Part.endedSouth_of_due wire owed now) tag, if_neg]
    · rfl
    · rintro ⟨waking, sent⟩
      simp [waking, sent] at other
  · exact Part.enumEnd_of_none (Part.endedSouth_of_early wire early)
  · cases ended : c.endedSouth with
    | none => exact Part.enumEnd_of_none ended
    | some w =>
      obtain ⟨wire, -, owed⟩ := Part.endedSouth_iff.mp ended
      have tag : w.tag ≠ .enum := (other w wire).resolve_right (by simp [owed])
      simp only [Part.enumEnd, ended]
      split
      next enum => exact absurd enum tag
      all_goals rfl
  · have due : timerDue c.now c.south.retry = true := by rw [retry]; exact now
    refine (if_pos ⟨down, due⟩).trans ?_
    exact (Part.dropSampling_of_clear (by exact clear) (by exact begun)).trans rfl
  · refine if_neg fun ⟨down, due⟩ => ?_
    rcases other with away | early
    · exact away down
    · exact absurd ((timerDue_of_early early).symm.trans due) nofun

/-! ### Cycle starts (R45, R47, R50, R58) -/

theorem Part.cycleStart_of_run {r : Run} (run : c.sched.run = some r) (begun : r.begun = true) : c.cycleStart =
    if atOrAfter c.now (c.nextCycle r) = true then
      let r' := c.advanceRun r
      let c1 : Part := { c with sched.run := some r' }
      Part.patrolDone (if r'.cycle % 8 = 0 ∧ r'.launchEnded = false then c1.supercycle r'.cycleStart else c1)
    else c := by
  simp only [Part.cycleStart, run, begun, true_and]

theorem Part.patrolDone_of_launching (launching : ∀ r, c.sched.run = some r → r.launchedOut = false) :
    c.patrolDone = c := by
  unfold Part.patrolDone
  refine if_neg ?_
  rintro ⟨-, -, ended, -⟩
  cases run : c.sched.run with
  | none => simp [run] at ended
  | some r => simp [run, launching r run] at ended

/-- Settles O40: the advance of the cycle count, the supercycle start and the end of a patrol run. -/
theorem cycleStartAdvancesTheRun : Obligations.CycleStartAdvancesTheRun := by
  intro c q r run begun launches start r' goesOn
  have steps := Part.cycleStart_of_run run begun
  refine ⟨fun early => exec_eq_next rfl ?_, fun due going => ?_, fun due patrol last asleep running => ?_⟩
  · rw [steps]
    exact if_neg (Bool.eq_false_iff.mp early)
  · have advanced : c.advanceRun r = r' := by
      have launching : (decide (r.kind = .patrol) && decide (r.cycles ≤ r.cycle + 1)) = false := by
        rcases going with normal | more
        · simp [normal]
        · simp [Nat.not_le.mpr more]
      simp only [Part.advanceRun, launches, launching, Bool.or_false, r']
      rfl
    rw [advanced] at steps
    have out : r'.launchedOut = false := by simp [Run.launchedOut, r', launches]
    have done (p : Part) (kept : p.sched.run = some r') : p.patrolDone = p :=
      Part.patrolDone_of_launching fun x here => by
        obtain rfl := Option.some.inj (kept.symm.trans here)
        exact out
    let c1 : Part := { c with sched.run := some r' }
    have stepped : c.cycleStart =
        Part.patrolDone (if (r.cycle + 1) % 8 = 0 ∧ r.launchEnded = false then c1.supercycle start else c1) :=
      steps.trans (if_pos due)
    refine ⟨fun inside => exec_eq_next rfl ?_, fun supercycle hold => exec_eq_next rfl ?_,
      fun supercycle free => exec_eq_next rfl ?_⟩
    · rw [stepped, if_neg fun boundary => inside boundary.1, done c1 rfl]
    · rw [stepped, if_pos ⟨supercycle, launches⟩, Part.supercycle, if_pos (by exact hold), done _ rfl]
    · rw [stepped, if_pos ⟨supercycle, launches⟩, Part.supercycle, if_neg (by exact Bool.eq_false_iff.mp free),
        Part.syncDue]
      by_cases up : c.south.link = .up
      · rw [if_pos (by exact up), done _ rfl, if_pos up]
      · rw [if_neg (by exact up), done _ rfl, if_neg up]
  · have advanced : c.advanceRun r = { r' with launchEnded := true } := by
      simp only [Part.advanceRun, patrol, last, decide_true, Bool.and_self, Bool.or_true, r']
      rfl
    rw [advanced] at steps
    have ended : ¬ ((r.cycle + 1) % 8 = 0 ∧ true = false) := by simp
    have finished : c.cycleStart = Part.patrolDone { c with sched.run := some { r' with launchEnded := true } } := by
      rw [steps]
      exact (if_pos due).trans (congrArg Part.patrolDone (if_neg ended))
    have out : Run.launchedOut { r' with launchEnded := true } = true := by simp [Run.launchedOut, r', patrol]
    refine ⟨fun clear => exec_eq_next rfl (finished.trans (if_pos ⟨asleep, running, out, by simpa using clear⟩)),
      fun ⟨w, here, kind⟩ => exec_eq_next rfl (finished.trans (if_neg ?_))⟩
    rintro ⟨-, -, -, clear⟩
    have normal : w.runKind = .normal := by simpa using List.all_eq_true.mp clear w here
    exact absurd (kind.symm.trans normal) nofun

/-! ### Launch times (R48) -/

theorem Run.takes_iff (r : Run) (s : Slot) : r.takes s = true ↔
    (r.kind = .normal ∧ s.mask.getLsbD (r.cycle % 8) = true) ∨
    (r.kind = .patrol ∧ s.patrol = true ∧ r.launchEnded = false) := by
  unfold Run.takes
  cases r.kind <;> simp

/-- Settles O41: the three courses of R48. -/
theorem slotIsMissedShedOrLaunched : Obligations.SlotIsMissedShedOrLaunched := by
  intro c q r j s run slot launch sample due taken
  have due_iff : c.launchDue r j s = true ↔ due := by
    simp only [Part.launchDue, Bool.and_eq_true, Bool.not_eq_true', Run.takes_iff, due, List.contains_eq_mem,
      decide_eq_false_iff_not]
    constructor
    · rintro ⟨⟨⟨⟨begun, free⟩, takes⟩, fresh⟩, reached⟩
      exact ⟨begun, free, fresh, reached, takes⟩
    · rintro ⟨begun, free, fresh, reached, takes⟩
      exact ⟨⟨⟨⟨begun, free⟩, takes⟩, fresh⟩, reached⟩
  have steps : c.slotTime j = if c.launchDue r j s = true then taken.takeSlot r j s else c := by
    simp only [Part.slotTime, Part.tables, run, slot]
    rfl
  have courses : taken.takeSlot r j s =
      if c.south.link ≠ .up ∨ 4 ≤ c.sched.sweeps.length then taken.missSlot j
      else if r.kind = .normal ∧ s.sheddable = true ∧ c.sched.throttled = true then
        { taken with sched.shedSlots := bump16 taken.sched.shedSlots }
      else taken.launchSlot r j s := rfl
  have open_link (up : c.south.link = .up) (room : c.sched.sweeps.length < 4) :
      ¬ (c.south.link ≠ .up ∨ 4 ≤ c.sched.sweeps.length) := by
    rintro (down | full)
    · exact down up
    · omega
  refine ⟨fun not_due => exec_eq_next rfl ?_, fun is_due blocked => exec_eq_next rfl ?_,
    fun is_due up room shed => exec_eq_next rfl ?_, fun is_due up room launched => exec_eq_next rfl ?_⟩
  · rw [steps, if_neg (mt due_iff.mp not_due)]
  · rw [steps, if_pos (due_iff.mpr is_due), courses, if_pos blocked]
    rfl
  · rw [steps, if_pos (due_iff.mpr is_due), courses, if_neg (open_link up room), if_pos shed]
    rfl
  · rw [steps, if_pos (due_iff.mpr is_due), courses, if_neg (open_link up room), if_neg launched]
    rfl

end Sys2Proof.Machine
end

section
/-!
The service record write (R161), the start of a switch (R171, R172), and the clearing of lockout and tamper (R119,
R178).
-/
namespace Sys2Proof.Machine

variable {c : Part} {q : List Instr} {f : Frame} {rest : List Frame}

/-! ### The record write (R161) -/

theorem Part.requestWrite_of_idle (idle : c.store.write = .idle) :
    c.requestWrite = { c with store.write := .inProgress c.store.copy (later c.now 6000) } := by
  rw [Part.requestWrite, idle]

/-- A request during a write leaves one write waiting, whether or not one waited before. -/
theorem Part.requestWrite_of_writing {g : ServiceRecord} {d : Time}
    (writing : c.store.write = .inProgress g d ∨ c.store.write = .inProgressWaiting g d) :
    c.requestWrite = { c with store.write := .inProgressWaiting g d } := by
  rcases writing with write | write
  · rw [Part.requestWrite, write]
  · have kept : c.requestWrite = c := by rw [Part.requestWrite, write]
    rw [kept, ← write]

theorem RecordWrite.current_of_writing {w : RecordWrite} {g : ServiceRecord} {d : Time}
    (writing : w = .inProgress g d ∨ w = .inProgressWaiting g d) : w.current = some (g, d) := by
  rcases writing with rfl | rfl <;> rfl

/-! ### The start of a switch (R171, R172) -/

theorem Part.switchReady_iff : c.switchReady = true ↔ c.store.update = .commitPending ∧ c.sched.sweeps = [] ∧
    (∀ r, c.sched.run = some r → r.kind = .normal → c.sched.holdInEffect = true) := by
  have idle : c.normalRun = false ∨ c.sched.holdInEffect = true ↔
      ∀ r, c.sched.run = some r → r.kind = .normal → c.sched.holdInEffect = true := by
    unfold Part.normalRun
    cases c.sched.run with
    | none => simp
    | some r => by_cases kind : r.kind = .normal <;> simp [kind]
  simp only [Part.switchReady, Bool.and_eq_true, Bool.or_eq_true, Bool.not_eq_true', decide_eq_true_eq,
    List.isEmpty_iff, idle, and_assoc]

theorem Bank.retire_eq (b : Bank) :
    b.retire = { bytes := b.bytes, state := if b.state = .active then .retired else b.state } := by
  unfold Bank.retire
  split <;> rfl

/-- Settles O50: the start of R172, and the end of a write by the phase of the switch. -/
theorem switchStartsAndWritesTheRecord : Obligations.SwitchStartsAndWritesTheRecord := by
  intro c q noRun named ends retired
  have ready_iff : c.switchReady = true ↔ c.store.update = .commitPending ∧ c.sched.sweeps = [] ∧ noRun :=
    Part.switchReady_iff
  let switching (phase : SwitchPhase) : Part :=
    { c with store.copy := named, store.update := .switching, store.switch := phase }
  have start (ready : c.switchReady = true) : c.switchStart =
      (switching (if c.store.write = .idle then .writing else .waiting)).requestWrite := if_pos ready
  have retire (b : Bank) : b.retire = retired b := b.retire_eq
  refine ⟨fun pending closed free => ⟨fun idle => exec_eq_next rfl ?_, fun g d writing => exec_eq_next rfl ?_⟩,
    fun unready => exec_eq_next rfl ?_, fun g d next due writing => ?_,
    fun g d writing early => exec_eq_next rfl ?_⟩
  · rw [start (ready_iff.mpr ⟨pending, closed, free⟩), if_pos idle,
      Part.requestWrite_of_idle (c := switching .writing) idle]
    rfl
  · have busy : c.store.write ≠ .idle := by rcases writing with h | h <;> rw [h] <;> nofun
    rw [start (ready_iff.mpr ⟨pending, closed, free⟩), if_neg busy,
      Part.requestWrite_of_writing (c := switching .waiting) writing]
  · refine if_neg fun ready => ?_
    obtain ⟨pending, closed, free⟩ := ready_iff.mp ready
    rcases unready with h | h | h
    · exact h pending
    · exact h closed
    · exact h free
  · have current : c.store.write.current = some (g, d) :=
      RecordWrite.current_of_writing (by
        rcases writing with ⟨write, -⟩ | ⟨write, -⟩
        exacts [.inl write, .inr write])
    have next_eq : c.nextWrite = next := by
      rcases writing with ⟨write, rfl⟩ | ⟨write, rfl⟩
      · rw [Part.nextWrite, write]
      · rw [Part.nextWrite, write]
        rfl
    have steps := Part.recordWritten_of_current current
    rw [if_pos (by exact due), next_eq] at steps
    refine ⟨fun other => exec_eq_next rfl ?_, fun waits => exec_eq_next rfl ?_,
      fun last named_a => exec_eq_next rfl ?_, fun last named_b => exec_eq_next rfl ?_⟩
    · rcases other with none_switch | ⟨e, loads⟩
      · rw [steps, none_switch] <;> rfl
      · rw [steps, loads] <;> rfl
    · rw [steps, waits] <;> rfl
    · rw [steps, last]
      simp only [Part.switchWritten, named_a, retire]
      rfl
    · rw [steps, last]
      simp only [Part.switchWritten, named_b, retire]
      rfl
  · exact (Part.recordWritten_of_current (RecordWrite.current_of_writing writing)).trans
      (if_neg (Bool.eq_false_iff.mp early))

/-! ### The store while the sequencer answers an action (R113, R118) -/

/-- LOCKED_OUT is entered, and its record write asked for. -/
def Part.LockedWriting (c : Part) : Prop := c.seq.conn = .lockedOut ∧ c.store.write ≠ .idle

theorem Part.enterLockedOut_writing (before : ConnState) (c : Part) : (c.enterLockedOut before).LockedWriting :=
  ⟨(Part.enterLockedOut_shows before c).1, Part.enterLockedOut_write before c⟩

theorem Part.endOpening_store (c : Part) : c.endOpening.store = c.store ∨ c.endOpening.LockedWriting := by
  cases pending : c.seq.pendingLockout with
  | none =>
    left
    rw [Part.endOpening_of_none pending]
    unfold Part.opened Part.logOpening
    cases c.seq.underLoad <;> simp
  | some k =>
    right
    rw [Part.endOpening_of_pending pending]
    exact Part.enterLockedOut_writing _ _

theorem Part.advanceOpening_store (c : Part) : c.advanceOpening.store = c.store ∨ c.advanceOpening.LockedWriting := by
  have first : (if c.seq.conn = .opening ∧ c.feedback .kPos = false then c.drive .kNeg false else c).store = c.store := by
    split <;> simp
  unfold Part.advanceOpening
  generalize (if c.seq.conn = .opening ∧ c.feedback .kPos = false then c.drive .kNeg false else c) = c1 at first ⊢
  dsimp only
  split
  · exact (Part.endOpening_store c1).imp_left (·.trans first)
  · exact .inl first

theorem Part.startOpening_store (cause : Cause) (c : Part) :
    (c.startOpening cause).store = c.store ∨ (c.startOpening cause).LockedWriting :=
  (Part.advanceOpening_store _).imp_left fun kept => kept.trans (by simp)

/-- Only the entry to LOCKED_OUT reaches the store. -/
theorem Part.takeAction_store (a : Action) (c : Part) : (c.takeAction a).store = c.store ∨
    (c.seq.conn ≠ .lockedOut ∧ (c.takeAction a).LockedWriting) := by
  have pending : (if a = .lockout ∧ c.seq.conn ≠ .lockedOut then
      { c with seq.pendingLockout := some ((c.dueClass a).getD .contactorFault) } else c).store = c.store := by
    split <;> rfl
  unfold Part.takeAction
  dsimp only
  generalize (if a = .lockout ∧ c.seq.conn ≠ .lockedOut then
      { c with seq.pendingLockout := some ((c.dueClass a).getD .contactorFault) } else c) = c1 at pending ⊢
  have opening (cause : Cause) : (c1.startOpening cause).store = c.store ∨ (c1.startOpening cause).LockedWriting :=
    (c1.startOpening_store cause).imp_left (·.trans pending)
  split
  · exact .inl rfl
  · cases conn : c.seq.conn with
    | opened =>
      dsimp only
      split
      · exact .inr ⟨nofun, Part.enterLockedOut_writing _ _⟩
      · exact .inl pending
    | negClosing | precharging =>
      dsimp only
      split
      · exact .inr ⟨nofun, Part.enterLockedOut_writing _ _⟩
      · exact .inl (by simpa using pending)
    | mainClosing => exact (opening _).imp_right fun locked => ⟨nofun, locked⟩
    | closed =>
      cases a with
      | openSoft => exact .inl pending
      | openNow | lockout => exact (opening _).imp_right fun locked => ⟨nofun, locked⟩
      | none | report | blockClose => exact .inl pending
    | softOpening =>
      cases a with
      | openNow | lockout => exact (opening _).imp_right fun locked => ⟨nofun, locked⟩
      | none | report | blockClose | openSoft => exact .inl pending
    | opening | lockedOut => exact .inl pending

theorem Part.refreshAction_store (c : Part) : c.refreshAction.store = c.store ∨
    (c.seq.conn ≠ .lockedOut ∧ c.refreshAction.LockedWriting) := by
  unfold Part.refreshAction
  dsimp only
  split
  · exact .inl rfl
  · exact Part.takeAction_store c.effectiveAction { c with interlock.effective := c.effectiveAction }

theorem Part.clearCondition_store (k : FaultClass) (c : Part) : (c.clearCondition k).store = c.store ∨
    (c.seq.conn ≠ .lockedOut ∧ (c.clearCondition k).LockedWriting) := by
  have recorded : (c.recordClear (packKey k) c.now).store = c.store := by simp
  have conn : (c.recordClear (packKey k) c.now).seq = c.seq := by simp
  unfold Part.clearCondition
  generalize c.recordClear (packKey k) c.now = d at recorded conn ⊢
  unfold Part.clearObject
  rw [← conn, ← recorded]
  split
  · exact Part.refreshAction_store { d with interlock.tripped := _ }
  · exact .inl rfl

/-! ### CLEAR_LOCKOUT and CLEAR_TAMPER (R119, R178) -/

theorem Part.lockoutClass_iff : c.lockoutClass = true ↔
    ∃ k ∈ FaultClass.all, c.classActive k = true ∧ c.store.tables.actionOf k = some .lockout := by
  simp only [Part.lockoutClass, Part.activeClasses, Part.tables, List.any_eq_true, List.mem_filter, beq_iff_eq,
    and_assoc]

theorem Part.respond_mgmt {d e : Part} {st : Status} {data : List Byte} (same : d.mgmt = e.mgmt) :
    (d.respond f st data).mgmt = (e.respond f st data).mgmt := by
  simp only [Part.respond, same]

theorem Part.clearTamper_of_clear (clear : c.store.copy.tamper = false) : c.clearTamper = c :=
  if_neg (Bool.eq_false_iff.mp clear)

/-- Settles O57: the conditions in order, the flag of the copy, and the write that carries it. -/
theorem lockoutAndTamperAreCleared : Obligations.LockoutAndTamperAreCleared := by
  intro c q f rest
  refine ⟨fun h => ?_, fun h => ?_⟩
  · intro locked active service allOpen held
    have effect := exec_command_of_executes (q := q) h
    have refused {st : Status} (status : c.clearLockoutStatus = st) (bad : st ≠ .ok) :
        exec .clearLockout ⟨c, q⟩ = .next ⟨c.answered f rest st [], q⟩ := by
      subst status
      exact exec_eq_next effect (if_neg bad)
    have open_iff : ¬ allOpen ↔
        c.lines.feedback.kPos = true ∨ c.lines.feedback.kNeg = true ∨ c.lines.feedback.kPre = true := by
      cases feedback : c.lines.feedback with
      | mk pos neg pre => cases pos <;> cases neg <;> cases pre <;> simp [allOpen, feedback]
    have status : c.clearLockoutStatus = if ¬ locked then .state else if ¬ active then .notActive
        else if ¬ service then .noService else if ¬ allOpen then .feedback else if held then .blocked else .ok := by
      simp only [Part.clearLockoutStatus, locked, active, service, open_iff, held, ← Part.lockoutClass_iff, ne_eq,
        Bool.not_eq_true]
    refine ⟨fun l => refused ?_ nofun, fun l a => refused ?_ nofun, fun l a s => refused ?_ nofun,
      fun l a s o => refused ?_ nofun, fun l a s o b => refused ?_ nofun, fun l a s o b => ?_⟩
    · rw [status, if_pos l]
    · rw [status, if_neg (not_not.mpr l), if_pos a]
    · rw [status, if_neg (not_not.mpr l), if_neg (not_not.mpr a), if_pos s]
    · rw [status, if_neg (not_not.mpr l), if_neg (not_not.mpr a), if_neg (not_not.mpr s), if_pos o]
    · rw [status, if_neg (not_not.mpr l), if_neg (not_not.mpr a), if_neg (not_not.mpr s), if_neg (not_not.mpr o),
        if_pos b]
    · have ok : c.clearLockoutStatus = .ok := by
        rw [status, if_neg (not_not.mpr l), if_neg (not_not.mpr a), if_neg (not_not.mpr s), if_neg (not_not.mpr o),
          if_neg b]
      let opened : Part :=
        { c with mgmt.requests := rest, seq.conn := .opened, seq.pendingLockout := none, store.copy.lockout := false }
      let logged : Part := opened.requestWrite.logEvent .lockoutClear none .request .lockedOut .opened
      have taken : exec .clearLockout ⟨c, q⟩ = .next ⟨logged.driveFaultOut.respond f .ok [], q⟩ :=
        exec_eq_next effect ((if_pos ok).trans rfl)
      have seq : logged.seq = _ := Part.logEvent_seq .lockoutClear none .request .lockedOut .opened opened.requestWrite
      have asked : opened.requestWrite.seq = opened.seq := by simp
      have store : logged.store = opened.requestWrite.store := by simp [logged]
      have copy : logged.store.copy = opened.store.copy := by simp [logged]
      have interlock : logged.interlock = c.interlock := by simp [logged, opened]
      have conn : logged.seq.conn = .opened := by rw [seq]; exact congrArg Sequencer.conn asked
      obtain ⟨e, last, kind, -, cause, before, after, -⟩ :=
        Part.logEvent_last .lockoutClear none .request .lockedOut .opened opened.requestWrite
      refine ⟨_, taken, conn, ?_, copy, ?_, fun idle => ?_, fun g d writing => ?_,
        ⟨e, List.mem_of_getLast? last, kind, cause, before, after⟩, ?_, ?_, ?_, ?_, ?_⟩
      · exact (congrArg Sequencer.pendingLockout seq).trans (congrArg Sequencer.pendingLockout asked)
      · simp [Part.respond, logged, opened]
      · have writes := Part.requestWrite_of_idle (c := opened) idle
        exact (congrArg Store.write store).trans (congrArg (·.store.write) writes)
      · have writes := Part.requestWrite_of_writing (c := opened) writing
        exact (congrArg Store.write store).trans (congrArg (·.store.write) writes)
      · have level : logged.faultLevel = decide (3 ≤ c.interlock.effective.code) := by
          rw [Part.faultLevel, conn, interlock]
          exact Bool.or_false _
        change { logged.interlock with faultOut := logged.faultLevel } = _
        rw [level, interlock]
      · have kept : logged.mgmt = opened.mgmt := by simp [logged]
        exact Part.respond_mgmt kept
      all_goals simp [Part.respond, logged, opened]
  · have effect := exec_command_of_executes (q := q) h
    have refused {st : Status} (status : c.clearTamperStatus = st) (bad : st ≠ .ok) :
        exec .clearTamper ⟨c, q⟩ = .next ⟨c.answered f rest st [], q⟩ := by
      subst status
      exact exec_eq_next effect (if_neg bad)
    refine ⟨fun idle => refused (if_pos idle) nofun, fun service wet => refused ?_ nofun,
      fun service dry clear => exec_eq_next effect ?_, fun service dry latched => ?_⟩
    · exact (if_neg (by simp [service])).trans (if_pos wet)
    · have ok : c.clearTamperStatus = .ok := (if_neg (by simp [service])).trans (if_neg (by simp [dry]))
      refine (if_pos ok).trans ?_
      rw [Part.clearTamper_of_clear (by exact clear)]
      rfl
    · have ok : c.clearTamperStatus = .ok := (if_neg (by simp [service])).trans (if_neg (by simp [dry]))
      let unlatched : Part := { c with mgmt.requests := rest, store.copy.tamper := false }
      let asked : Part := unlatched.requestWrite
      let t : Part := asked.clearCondition .tamper
      have taken : exec .clearTamper ⟨c, q⟩ = .next ⟨t.respond f .ok [], q⟩ :=
        exec_eq_next effect ((if_pos ok).trans (congrArg (Part.respond f .ok []) (if_pos latched)))
      have writes : asked.store.write ≠ .idle := Part.requestWrite_ne_idle _
      have conn : asked.seq.conn = c.seq.conn := by simp [asked, unlatched]
      have copy : asked.store.copy = { c.store.copy with tamper := false } := by simp [asked, unlatched]
      have untripped : packObject .tamper ∉ t.interlock.tripped := Part.clearObject_not_mem _ _ _
      have kept : t.store.copy.tamper = false ∧ t.store.copy.active = c.store.copy.active ∧
          t.store.copy.floor = c.store.copy.floor ∧ t.mgmt = unlatched.mgmt ∧ t.power = c.power ∧ t.south = c.south ∧
          t.router = c.router ∧ t.store.tables = c.store.tables := by
        simp [t, asked, unlatched]
      obtain ⟨tamper, active, floor, mgmt, power, south, router, tables⟩ := kept
      have store : t.store = asked.store ∨ (asked.seq.conn ≠ .lockedOut ∧ t.LockedWriting) :=
        Part.clearCondition_store .tamper asked
      clear_value t
      refine ⟨_, taken, tamper, ?_, fun stays => ?_, active, floor, untripped, ?_, power, south, router, tables⟩
      · rcases store with same | ⟨-, -, write⟩
        · change t.store.write ≠ .idle
          rwa [same]
        · exact write
      · have same : t.store = asked.store := by
          rcases store with same | ⟨left, locked, -⟩
          · exact same
          · rcases stays with before | unlocked
            · exact absurd (conn.trans before) left
            · exact absurd locked unlocked
        refine ⟨(congrArg Store.copy same).trans copy, fun idle => ?_, fun g d writing => ?_⟩
        · have begins := Part.requestWrite_of_idle (c := unlatched) idle
          exact (congrArg Store.write same).trans (congrArg (·.store.write) begins)
        · have waits := Part.requestWrite_of_writing (c := unlatched) writing
          exact (congrArg Store.write same).trans (congrArg (·.store.write) waits)
      · exact Part.respond_mgmt mgmt

end Sys2Proof.Machine
end

section
/-!
The fault record list and the lists that requests read (R80 to R83, R91, R123).
-/
namespace Sys2Proof.Machine

variable {c : Part} {q : List Instr} {f : Frame} {rest : List Frame}

/-! ### The life of a fault record (R80 to R82) -/

theorem recordIndex_of_absent {rs : List FaultRecord} {k : FaultKey} (absent : ∀ r ∈ rs, r.key ≠ k) :
    recordIndex rs k = none := by
  simpa [recordIndex, List.findIdx?_eq_none_iff] using absent

theorem recordIndex_of_split {before after : List FaultRecord} {r : FaultRecord} {k : FaultKey}
    (apart : ∀ x ∈ before, x.key ≠ k) (here : r.key = k) : recordIndex (before ++ r :: after) k = some before.length := by
  have none_before : before.findIdx? (fun x => x.key == k) = none := by
    simpa [List.findIdx?_eq_none_iff] using apart
  simp [recordIndex, List.findIdx?_append, none_before, List.findIdx?_cons, here]

theorem Part.offerFault_of_now {k : FaultClass} (now : k ≠ .prechargeFail ∨ c.reports.held = none)
    (payload : List Byte) : c.offerFault k payload = c.offerReport .priority payload := by
  unfold Part.offerFault
  split
  next other =>
    have none_held : c.reports.held = none := now.resolve_left (not_not.mpr other)
    rw [Part.offerAnswer, none_held]
  next => rfl

theorem Part.recordTrip_of_absent {k : FaultKey} {now : Time} {v : Option Int}
    (absent : ∀ r ∈ c.eval.records, r.key ≠ k) : c.recordTrip k now v =
      if c.eval.records.length < 32 then
        Part.offerFault k.cls (faultPayload .created c.eval.records.length (FaultRecord.create k now v))
          { c with eval.records := c.eval.records ++ [FaultRecord.create k now v] }
      else { c with eval.recordsLost := bump16 c.eval.recordsLost } := by
  rw [Part.recordTrip, recordIndex_of_absent absent]

theorem Part.recordTrip_of_split {before after : List FaultRecord} {r : FaultRecord} {k : FaultKey} {now : Time}
    {v : Option Int} (split : c.eval.records = before ++ r :: after) (apart : ∀ x ∈ before, x.key ≠ k)
    (here : r.key = k) : c.recordTrip k now v =
      Part.offerFault k.cls (faultPayload .tripped before.length (r.retrip now v))
        { c with eval.records := before ++ r.retrip now v :: after } := by
  rw [Part.recordTrip, split, recordIndex_of_split apart here]
  simp

theorem Part.recordClear_of_split {before after : List FaultRecord} {r : FaultRecord} {k : FaultKey} {now : Time}
    (split : c.eval.records = before ++ r :: after) (apart : ∀ x ∈ before, x.key ≠ k) (here : r.key = k) :
    c.recordClear k now = if r.active then
      Part.offerFault k.cls (faultPayload .cleared before.length { r with active := false, last := now })
        { c with eval.records := before ++ { r with active := false, last := now } :: after }
      else c := by
  rw [Part.recordClear, split, recordIndex_of_split apart here]
  simp

theorem Part.recordClear_of_absent {k : FaultKey} {now : Time} (absent : ∀ r ∈ c.eval.records, r.key ≠ k) :
    c.recordClear k now = c := by
  rw [Part.recordClear, recordIndex_of_absent absent]

/-- The first record with a key, and those before it. -/
theorem split_of_record {rs : List FaultRecord} {k : FaultKey} (found : ∃ r ∈ rs, r.key = k) :
    ∃ before r after, rs = before ++ r :: after ∧ (∀ x ∈ before, x.key ≠ k) ∧ r.key = k := by
  obtain ⟨r, mem, key⟩ := found
  cases first : rs.find? (fun x => decide (x.key = k)) with
  | none => exact absurd key (by simpa using List.find?_eq_none.mp first r mem)
  | some x =>
    obtain ⟨here, before, after, split, apart⟩ := List.find?_eq_some_iff_append.mp first
    exact ⟨before, x, after, split, fun y mem => by simpa using apart y mem, by simpa using here⟩

theorem worseValue_eq (d : Direction) (a b : Option Int) : worseValue d a b = match d, a, b with
    | .high, some a, some b => some (max a b)
    | .low, some a, some b => some (min a b)
    | .none, _, _ => none
    | _, a, none => a
    | _, none, b => b := by
  cases d <;> cases a <;> cases b <;> rfl

/-! ### Sets of positions and of classes -/

theorem hasPos_addPos (s : PosSet) {p m : Nat} (low : 1 ≤ p) (high : p ≤ 16) (low' : 1 ≤ m) :
    hasPos (addPos s p) m = (hasPos s m || decide (m = p)) := by
  have same : p - 1 = m - 1 ↔ m = p := by omega
  have inside : p - 1 < 16 := by omega
  simp [hasPos, addPos, posBit, low, high, low', BitVec.getLsbD_twoPow, inside, same]

theorem hasPos_dropPos (s : PosSet) {p m : Nat} (low : 1 ≤ p) (high : p ≤ 16) (low' : 1 ≤ m) :
    hasPos (dropPos s p) m = (hasPos s m && decide (m ≠ p)) := by
  have same : m - 1 = p - 1 ↔ m = p := by omega
  have inside : p - 1 < 16 := by omega
  by_cases within : m - 1 < 16
  · simp [hasPos, dropPos, posBit, low, high, low', BitVec.getLsbD_twoPow, inside, same, within]
  · simp [hasPos, dropPos, BitVec.getLsbD_of_ge s (m - 1) (Nat.not_lt.mp within)]

theorem FaultClass.number_range (k : FaultClass) : 1 ≤ k.number ∧ k.number ≤ 16 := by
  cases k <;> exact ⟨by decide, by decide⟩

theorem FaultClass.number_injective {j k : FaultClass} (same : j.number = k.number) : j = k := by
  cases j <;> cases k <;> simp_all [FaultClass.number]

theorem hasClass_set (s : ClassSet) (k j : FaultClass) :
    hasClass (s ||| k.bit) j = (hasClass s j || decide (j = k)) := by
  have same : j.number = k.number ↔ j = k := ⟨FaultClass.number_injective, congrArg _⟩
  have added := hasPos_addPos s k.number_range.1 k.number_range.2 j.number_range.1
  rw [decide_eq_decide.mpr same] at added
  exact added

theorem hasClass_clear (s : ClassSet) (k j : FaultClass) :
    hasClass (s &&& ~~~ k.bit) j = (hasClass s j && decide (j ≠ k)) := by
  have same : j.number ≠ k.number ↔ j ≠ k := not_congr ⟨FaultClass.number_injective, congrArg _⟩
  have dropped := hasPos_dropPos s k.number_range.1 k.number_range.2 j.number_range.1
  rw [decide_eq_decide.mpr same] at dropped
  exact dropped

/-! ### Acknowledgement (R91) -/

theorem Part.ackClass_events (k : FaultClass) (c : Part) {j : FaultClass} (event : j.isEvent = true) :
    hasClass (c.ackClass k).interlock.events j = (hasClass c.interlock.events j && decide (j ≠ k)) := by
  unfold Part.ackClass
  split
  · split
    · simp [hasClass_clear]
    next inactive =>
      by_cases same : j = k
      · rw [same]
        simpa using inactive
      · simp [same]
  next condition =>
    have other : j ≠ k := fun same => condition (same ▸ event)
    split <;> simp [other]

theorem Part.ackClass_latches (k : FaultClass) (c : Part) {j : FaultClass} (condition : j.isEvent = false) :
    hasClass (c.ackClass k).interlock.latches j =
      (hasClass c.interlock.latches j && !(decide (j = k) && decide (j ≠ .tamper) && !c.hasObject j)) := by
  unfold Part.ackClass
  split
  next event =>
    have other : j ≠ k := fun same => by simp [same, event] at condition
    split <;> simp [other]
  · split
    next kept =>
      by_cases same : j = k
      · subst same
        rcases kept with rfl | tripped
        · simp
        · simp [tripped]
      · simp [same]
    next cleared =>
      rw [not_or] at cleared
      by_cases same : j = k
      · subst same
        simp [hasClass_clear, cleared]
      · simp [hasClass_clear, same]

theorem Part.ackClass_hasObject (k : FaultClass) (c : Part) (j : FaultClass) :
    (c.ackClass k).hasObject j = c.hasObject j := by
  simp [Part.hasObject]

/-- The classes of a list, acknowledged one after the other. -/
theorem Part.ackClasses_activity (l : List FaultClass) (c : Part) (j : FaultClass) :
    let t := l.foldl (fun c k => c.ackClass k) c
    (j.isEvent = true → hasClass t.interlock.events j = (hasClass c.interlock.events j && !decide (j ∈ l))) ∧
    (j.isEvent = false → hasClass t.interlock.latches j =
      (hasClass c.interlock.latches j && !(decide (j ∈ l) && decide (j ≠ .tamper) && !c.hasObject j))) := by
  induction l generalizing c with
  | nil => simp
  | cons k l ih =>
    obtain ⟨events, latches⟩ := ih (c.ackClass k)
    refine ⟨fun event => (events event).trans ?_, fun condition => (latches condition).trans ?_⟩
    · rw [Part.ackClass_events k c event]
      by_cases same : j = k <;> simp [same]
    · rw [Part.ackClass_latches k c condition, Part.ackClass_hasObject]
      simp only [List.mem_cons, Bool.decide_or]
      generalize decide (j = k) = first
      generalize decide (j ∈ l) = later
      cases first <;> cases later <;> simp [Bool.and_assoc]

/-- Settles O54: the record's life by its place in the list, and the three requests. -/
theorem faultAndEventListsAreRead : Obligations.FaultAndEventListsAreRead := by
  refine ⟨fun c k now v => ?_, fun c q f rest => ⟨fun h => ?_, fun h => ?_, fun h => ?_⟩⟩
  · intro rs worse told
    have worse_eq (a b : Option Int) : worseValue k.dir a b = worse a b := worseValue_eq k.dir a b
    refine ⟨fun at_once => ⟨fun absent room => ?_, fun before r after split apart here => ?_⟩, fun absent full => ?_,
      fun inactive => ?_, fun x => ?_⟩
    · intro r
      have created : FaultRecord.create k now v = r := by rw [FaultRecord.create, worse_eq]
      rw [Part.recordTrip_of_absent absent, if_pos room, created]
      exact Part.offerFault_of_now (by exact at_once) _
    · intro r' r''
      have worst : worseValue r.key.dir r.worst v = worse r.worst v := by rw [here, worse_eq]
      have retripped : r.retrip now v = r' := by rw [FaultRecord.retrip, worst] <;> rfl
      refine ⟨?_, fun active => ?_⟩
      · rw [Part.recordTrip_of_split split apart here, retripped]
        exact Part.offerFault_of_now (by exact at_once) _
      · rw [Part.recordClear_of_split split apart here, if_pos active]
        exact Part.offerFault_of_now (by exact at_once) _
    · rw [Part.recordTrip_of_absent absent, if_neg (Nat.not_lt.mpr full)]
      rfl
    · by_cases found : ∃ r ∈ rs, r.key = k
      · obtain ⟨before, r, after, split, apart, here⟩ := split_of_record found
        have cleared : r.active = false :=
          (inactive r (by rw [split]; simp)).resolve_left (not_not.mpr here)
        rw [Part.recordClear_of_split split apart here, if_neg (Bool.eq_false_iff.mp cleared)]
      · exact Part.recordClear_of_absent fun r mem key => found ⟨r, mem, key⟩
    · have records : rs.map (fun r => if r.key = k ∧ r.active = true then
            { r with worst := worseValue k.dir r.worst (some x) } else r) =
          rs.map (fun r => if r.key = k ∧ r.active = true then { r with worst := worse r.worst (some x) } else r) := by
        simp only [worse_eq]
      exact congrArg (fun l => { c with eval.records := l }) records
  · exact exec_eq_next (exec_command_of_executes h) rfl
  · exact exec_eq_next (exec_command_of_executes h) rfl
  · let popped : Part := { c with mgmt.requests := rest }
    let named := FaultClass.all.filter (hasClass (BitVec.ofNat 16 (f.field 1 2)))
    let acked := named.foldl (fun c k => c.ackClass k) popped
    let t := acked.refreshAction
    have kept : t.interlock.events = acked.interlock.events ∧ t.interlock.latches = acked.interlock.latches := by
      simp [t]
    have formed : t.interlock.effective = t.effectiveAction := Part.refreshAction_formed acked
    have frame : t.interlock.tripped = c.interlock.tripped ∧ t.mgmt = popped.mgmt ∧ t.store.tables = c.store.tables ∧
        t.south = c.south ∧ t.router = c.router ∧ t.power = c.power := by
      have acks : t = popped.ackFaults (BitVec.ofNat 16 (f.field 1 2)) := rfl
      rw [acks]
      simp [popped]
    obtain ⟨tripped, mgmt, tables, south, router, power⟩ := frame
    refine ⟨t.respond f .ok t.ackData, exec_eq_next (exec_command_of_executes h) rfl, fun k mem => ?_, tripped, formed,
      Part.respond_mgmt mgmt, tables, south, router, power⟩
    obtain ⟨events, latches⟩ := Part.ackClasses_activity named popped k
    have is_named : decide (k ∈ named) = hasClass (BitVec.ofNat 16 (f.field 1 2)) k := by
      simp [named, List.mem_filter, mem]
    rw [is_named] at events latches
    exact ⟨fun event => (congrArg (hasClass · k) kept.1).trans (events event),
      fun condition => (congrArg (hasClass · k) kept.2).trans (latches condition)⟩

end Sys2Proof.Machine
end

section
/-!
The evaluator's objects and the sum check (R66, R67, R70, R71, R74, R75, R78).
-/
namespace Sys2Proof.Machine

variable {c : Part}

/-! ### Positions -/

theorem mem_allPositions_iff {p : Nat} : p ∈ allPositions ↔ 1 ≤ p ∧ p ≤ 16 := by
  constructor
  · intro mem
    simp only [allPositions, List.mem_cons, List.not_mem_nil, or_false] at mem
    omega
  · rintro ⟨low, high⟩
    interval_cases p <;> decide

/-! ### Objects that are fed (R67, R70, R71, R78) -/

theorem ChanState.feed_normal {l : LimitSet} {v : Int} {s : ChanState} (normal : s.state = .normal) : s.feed l v =
    if l.ut < v then
      if l.nt ≤ s.count .high then ({ state := .trippedHigh, counter := 0, pending := .none }, .trip .high)
      else ({ state := .normal, counter := s.count .high, pending := .high }, .none)
    else if v < l.lt then
      if l.nt ≤ s.count .low then ({ state := .trippedLow, counter := 0, pending := .none }, .trip .low)
      else ({ state := .normal, counter := s.count .low, pending := .low }, .none)
    else (ChanState.normal, .none) := by
  simp only [ChanState.feed, normal]

theorem ChanState.feed_trippedHigh {l : LimitSet} {v : Int} {s : ChanState} (high : s.state = .trippedHigh) :
    s.feed l v =
      if v ≤ l.uc then
        if l.nc ≤ s.counter + 1 then (ChanState.normal, .clear .high)
        else ({ s with counter := s.counter + 1 }, .offer .high)
      else ({ s with counter := 0 }, .offer .high) := by
  cases s
  simp only at high
  subst high
  rfl

theorem ChanState.feed_trippedLow {l : LimitSet} {v : Int} {s : ChanState} (low : s.state = .trippedLow) :
    s.feed l v =
      if l.lc ≤ v then
        if l.nc ≤ s.counter + 1 then (ChanState.normal, .clear .low)
        else ({ s with counter := s.counter + 1 }, .offer .low)
      else ({ s with counter := 0 }, .offer .low) := by
  cases s
  simp only at low
  subst low
  rfl

/-- A channel state by what it is fed (R70, R71). -/
theorem ChanState.feed_cases (l : LimitSet) (v : Int) (x : ChanState) :
    (x.state = .normal → l.lt ≤ l.ut →
      (l.ut < v →
        let n := if x.pending = .high then x.counter + 1 else 1
        (n < l.nt → x.feed l v = ({ state := .normal, counter := n, pending := .high }, .none)) ∧
        (l.nt ≤ n → x.feed l v = ({ state := .trippedHigh, counter := 0, pending := .none }, .trip .high))) ∧
      (v < l.lt →
        let n := if x.pending = .low then x.counter + 1 else 1
        (n < l.nt → x.feed l v = ({ state := .normal, counter := n, pending := .low }, .none)) ∧
        (l.nt ≤ n → x.feed l v = ({ state := .trippedLow, counter := 0, pending := .none }, .trip .low))) ∧
      (l.lt ≤ v → v ≤ l.ut → x.feed l v = ({ state := .normal, counter := 0, pending := .none }, .none))) ∧
    (x.state = .trippedHigh →
      (l.uc < v → x.feed l v = ({ x with counter := 0 }, .offer .high)) ∧
      (v ≤ l.uc → x.counter + 1 < l.nc → x.feed l v = ({ x with counter := x.counter + 1 }, .offer .high)) ∧
      (v ≤ l.uc → l.nc ≤ x.counter + 1 →
        x.feed l v = ({ state := .normal, counter := 0, pending := .none }, .clear .high))) ∧
    (x.state = .trippedLow →
      (v < l.lc → x.feed l v = ({ x with counter := 0 }, .offer .low)) ∧
      (l.lc ≤ v → x.counter + 1 < l.nc → x.feed l v = ({ x with counter := x.counter + 1 }, .offer .low)) ∧
      (l.lc ≤ v → l.nc ≤ x.counter + 1 →
        x.feed l v = ({ state := .normal, counter := 0, pending := .none }, .clear .low))) := by
  refine ⟨fun normal order => ⟨fun above => ⟨fun few => ?_, fun many => ?_⟩,
      fun below => ⟨fun few => ?_, fun many => ?_⟩, fun low high => ?_⟩,
    fun high => ⟨fun above => ?_, fun back few => ?_, fun back many => ?_⟩,
    fun low => ⟨fun below => ?_, fun back few => ?_, fun back many => ?_⟩⟩
  · rw [ChanState.feed_normal normal, if_pos above]
    exact if_neg (Nat.not_le.mpr few)
  · rw [ChanState.feed_normal normal, if_pos above]
    exact if_pos many
  · rw [ChanState.feed_normal normal, if_neg (by omega), if_pos below]
    exact if_neg (Nat.not_le.mpr few)
  · rw [ChanState.feed_normal normal, if_neg (by omega), if_pos below]
    exact if_pos many
  · rw [ChanState.feed_normal normal, if_neg (by omega), if_neg (by omega)]
    rfl
  · rw [ChanState.feed_trippedHigh high, if_neg (by omega)]
  · rw [ChanState.feed_trippedHigh high, if_pos back, if_neg (Nat.not_le.mpr few)]
  · rw [ChanState.feed_trippedHigh high, if_pos back, if_pos many]
    rfl
  · rw [ChanState.feed_trippedLow low, if_neg (by omega)]
  · rw [ChanState.feed_trippedLow low, if_pos back, if_neg (Nat.not_le.mpr few)]
  · rw [ChanState.feed_trippedLow low, if_pos back, if_pos many]
    rfl

theorem ObjState.feed_cases (nt nc : Nat) (o : ObjState) :
    (o.tripped = false →
      o.feed nt nc false = ({ tripped := false, counter := 0 }, .none) ∧
      (o.counter + 1 < nt → o.feed nt nc true = ({ tripped := false, counter := o.counter + 1 }, .none)) ∧
      (nt ≤ o.counter + 1 → o.feed nt nc true = ({ tripped := true, counter := 0 }, .trip .none))) ∧
    (o.tripped = true →
      o.feed nt nc true = ({ tripped := true, counter := 0 }, .none) ∧
      (o.counter + 1 < nc → o.feed nt nc false = ({ tripped := true, counter := o.counter + 1 }, .none)) ∧
      (nc ≤ o.counter + 1 → o.feed nt nc false = ({ tripped := false, counter := 0 }, .clear .none))) := by
  refine ⟨fun sound => ⟨?_, fun few => ?_, fun many => ?_⟩, fun tripped => ⟨?_, fun few => ?_, fun many => ?_⟩⟩
  · simp only [ObjState.feed, sound]
    rfl
  · simp only [ObjState.feed, sound]
    exact if_neg (Nat.not_le.mpr few)
  · simp only [ObjState.feed, sound]
    exact if_pos many
  · simp only [ObjState.feed, tripped]
  · simp only [ObjState.feed, tripped]
    exact if_neg (Nat.not_le.mpr few)
  · simp only [ObjState.feed, tripped]
    exact if_pos many

theorem Part.feedSense_of_set {run : RunKind} {l : LimitSet} (set : c.store.tables.limitSet .senseFault run = some l)
    (s : Time) (p : Nat) (bad : Bool) (n : Tally) : Part.feedSense run s p bad (c, n) =
      let r := (atPos c.eval.sense ObjState.normal p).feed l.nt l.nc bad
      (Part.handChange r.2 (positionKey .senseFault p) s none { c with eval.sense := setPos c.eval.sense p r.1 },
        n.add r.2) := by
  simp only [Part.feedSense, Part.tables, set]

theorem Part.feedLost_of_set {run : RunKind} {l : LimitSet} (set : c.store.tables.limitSet .moduleLost run = some l)
    (p : Nat) (missed : Bool) (f : Forming := .now) : c.feedLost run p missed f =
      let r := (atPos c.eval.lost ObjState.normal p).feed l.nt l.nc missed
      Part.handChange r.2 (positionKey .moduleLost p) c.now none { c with eval.lost := setPos c.eval.lost p r.1 } f := by
  simp only [Part.feedLost, Part.tables, set]
  rfl

/-! ### The sum check (R74, R75) -/

theorem Part.feedChannel_sum (run : RunKind) (s : Time) (kind : ModuleKind) (p : Nat) (x : ChanValue)
    (ct : Part × Tally) : (Part.feedChannel run s kind p x ct).1.eval.sum = ct.1.eval.sum := by
  unfold Part.feedChannel
  dsimp only
  split
  · split
    · rfl
    · simp [Evaluator.setChannel]
  · rfl

theorem Part.feedSense_sum (run : RunKind) (s : Time) (p : Nat) (faulty : Bool) (ct : Part × Tally) :
    (Part.feedSense run s p faulty ct).1.eval.sum = ct.1.eval.sum := by
  unfold Part.feedSense
  split
  · rfl
  · simp

theorem Part.evalPosition_sum (w : Sweep) (x : MapEntry × PositionValues) (ct : Part × Tally) :
    (Part.evalPosition w x ct).1.eval.sum = ct.1.eval.sum := by
  have fed (l : List ChanValue) (d : Part × Tally) : (l.foldl (fun ct v =>
      Part.feedChannel w.runKind w.sampleTime x.1.kind x.1.position v ct) d).1.eval.sum = d.1.eval.sum := by
    induction l generalizing d with
    | nil => rfl
    | cons v l ih => exact (ih _).trans (Part.feedChannel_sum ..)
  have sensed := (Part.feedSense_sum w.runKind w.sampleTime x.1.position x.2.faulty _).trans (fed x.2.channels ct)
  unfold Part.evalPosition
  dsimp only
  split
  · exact sensed
  · exact (by simp : (Part.writeShunt w x.2 _).eval.sum = _).trans sensed

theorem Part.evalPositions_sum (w : Sweep) (vs : List (MapEntry × PositionValues)) (ct : Part × Tally) :
    (vs.foldl (fun ct x => Part.evalPosition w x ct) ct).1.eval.sum = ct.1.eval.sum := by
  induction vs generalizing ct with
  | nil => rfl
  | cons x vs ih => exact (ih _).trans (Part.evalPosition_sum w x ct)

theorem Part.evalPositions_tables (w : Sweep) (vs : List (MapEntry × PositionValues)) (ct : Part × Tally) :
    (vs.foldl (fun ct x => Part.evalPosition w x ct) ct).1.store.tables = ct.1.store.tables := by
  have kept := Part.Keeps.foldl_fst (fun ct x => Part.evalPosition_keeps w x ct) vs ct
  simp [kept]

theorem Slot.sumBearing_iff (s : Slot) (t : Tables) : s.sumBearing t = true ↔ s.kind = .sweep ∧
    (∀ p ∈ t.cellPositions, hasPos s.target p = true) ∧
    ∃ p, t.shuntPosition = some p ∧ hasPos s.target p = true := by
  unfold Slot.sumBearing
  cases t.shuntPosition <;> simp [and_assoc]

theorem Sweep.qualifies_iff (w : Sweep) (t : Tables) (vs : List (MapEntry × PositionValues)) :
    w.qualifies t vs = true ↔ w.slot.sumBearing t = true ∧ w.replied = w.target ∧ w.skewed = 0 ∧
      ∀ x ∈ vs, ∀ v ∈ x.2.channels, v.status = .ok ∨ (x.1.kind = .cell ∧ 12 < v.channel) := by
  simp [Sweep.qualifies, and_assoc]

theorem cellValues_values (vs : List (MapEntry × PositionValues)) : (cellValues vs).map (·.value) =
    (vs.filter (fun x => decide (x.1.kind = .cell))).flatMap (fun x =>
      (x.2.channels.filter (fun v => decide (v.channel ≤ 12))).filterMap (fun v => v.value)) := by
  have channels (x : MapEntry × PositionValues) (l : List ChanValue) : (l.filterMap (fun v =>
      if v.channel ≤ 12 then
        v.value.map (fun a => ({ value := a, position := x.1.position, channel := v.channel } : CellValue))
      else none)).map (·.value) = (l.filter (fun v => decide (v.channel ≤ 12))).filterMap (fun v => v.value) := by
    induction l with
    | nil => rfl
    | cons v l ih =>
      by_cases cell : v.channel ≤ 12
      · cases value : v.value <;> simp [List.filterMap_cons, cell, value, ih]
      · simp [List.filterMap_cons, cell, ih]
  induction vs with
  | nil => rfl
  | cons x vs ih =>
    unfold cellValues at ih ⊢
    rw [List.map_cons, List.flatten_cons, List.map_append, ih]
    by_cases cell : x.1.kind = .cell
    · rw [if_pos cell, channels, List.filter_cons_of_pos (by simpa using cell), List.flatMap_cons]
    · rw [if_neg cell, List.filter_cons_of_neg (by simpa using cell)]
      rfl

theorem sum20_eq (vs : List CellValue) : sum20 vs = ((vs.map CellValue.value).sum.toNat + 100) / 200 := by
  have folded (l : List CellValue) (a : Int) : l.foldl (fun (a : Int) v => a + v.value) a = a + (l.map (·.value)).sum := by
    induction l generalizing a with
    | nil => simp
    | cons v l ih => simp [ih, Int.add_assoc]
  rw [sum20, folded, Int.zero_add]

/-- Settles O18: the tables of R70, R71, R67 and R78, and the sum check after step 1 of the evaluation. -/
theorem channelIsFed : Obligations.ChannelIsFed := by
  refine ⟨ObjState.feed_cases, fun c run s p bad n l mapped => ⟨fun set => ?_, fun set => ?_⟩,
    fun c w l u set => ?_, ChanState.feed_cases⟩
  · obtain ⟨low, high⟩ := mem_allPositions_iff.mp mapped
    refine ⟨_, Part.feedSense_of_set set s p bad n, ?_, fun m _ other => ?_, ?_, ?_, ?_⟩
    · simp [atPos_setPos_self, low, high]
    · simp [atPos_setPos_of_ne _ _ _ other]
    all_goals simp
  · obtain ⟨low, high⟩ := mem_allPositions_iff.mp mapped
    intro r t
    have fed : t = _ := Part.feedLost_of_set set p bad
    rw [fed]
    refine ⟨?_, fun m _ other => ?_, ?_, ?_, ?_⟩
    · simp [atPos_setPos_self, low, high, r]
    · simp [atPos_setPos_of_ne _ _ _ other]
    all_goals simp
  · intro vs cells s20 bearing qualifies r
    have sum : sum20 (cellValues vs) = s20 := by rw [sum20_eq, cellValues_values]
    have bearing_iff : w.slot.sumBearing c.tables = true ↔ bearing := Slot.sumBearing_iff _ _
    have qualifies_iff : w.qualifies c.tables vs = true ↔ qualifies := by
      rw [Sweep.qualifies_iff, bearing_iff]
    let stepOne := vs.foldl (fun ct x => Part.evalPosition w x ct) (c, ({} : Tally))
    have kept : stepOne.1.eval.sum = c.eval.sum := Part.evalPositions_sum w vs _
    have tables : stepOne.1.store.tables = c.store.tables := Part.evalPositions_tables w vs _
    have skipped : r.2.sumSkipped = (w.slot.sumBearing c.tables && !w.qualifies c.tables vs) := rfl
    have summed : r.2.sum = if w.qualifies c.tables vs then some (sum20 (cellValues vs)) else none := rfl
    have stepTwo : r.1 = (if w.qualifies c.tables vs then Part.feedSum w.runKind w.sampleTime
        (((sum20 (cellValues vs) : Int) - (shuntValue vs 2).getD 0).natAbs : Int) stepOne else stepOne).1 := rfl
    clear_value r
    refine ⟨fun yes voltage => ?_, fun no => ?_⟩
    · rw [qualifies_iff.mpr yes] at skipped summed stepTwo
      refine ⟨?_, by rw [summed, sum]; rfl, by rw [skipped]; simp⟩
      rw [stepTwo, sum, voltage]
      simp [Part.feedSum, Part.tables, tables, set, kept]
    · rw [Bool.eq_false_iff.mpr (mt qualifies_iff.mp no)] at skipped summed stepTwo
      refine ⟨by rw [stepTwo]; exact kept, by rw [summed]; rfl, ?_⟩
      rw [skipped, ← bearing_iff]
      simp

end Sys2Proof.Machine
end

section
/-!
# The way to DEEP, the start of a patrol and its return (O48)
-/
namespace Sys2Proof.Machine

variable {c : Part} {q : List Instr}

/-! ### Entry to OFF and to DEEP -/

@[simp] theorem Part.clearLinkLost_linkLost (c : Part) : c.clearLinkLost.south.linkLost = false := by
  unfold Part.clearLinkLost
  split
  next lost => simp
  next kept => simpa using kept

theorem Part.enterOff_south (c : Part) : c.enterOff.south.link = .off ∧ c.enterOff.south.linkLost = false ∧
    c.enterOff.south.wire = none := by
  simp [Part.enterOff]

/-- What R144 and R155 say of a part that has entered DEEP from `c`. -/
structure Asleep (c t : Part) : Prop where
  state : t.power.state = .deep
  step : t.power.step = .none
  link : t.south.link = .off
  lost : t.south.linkLost = false
  wire : t.south.wire = none
  run : t.sched.run = none
  packTime : t.sched.packTime = c.sched.packTime
  openFeedback : t.power.openFeedback =
    { kPos := !c.lines.feedback.kPos, kNeg := !c.lines.feedback.kNeg, kPre := !c.lines.feedback.kPre }
  closedFeedback : t.power.closedFeedback = { kPos := false, kNeg := false, kPre := false }
  timer : t.power.patrolTimer = c.store.tables.params.power.map (fun p => p.period * 60000000)
  mgmt : t.mgmt = c.mgmt
  tables : t.store.tables = c.store.tables

theorem Part.goDeep_asleep (c : Part) : Asleep c c.goDeep := by
  obtain ⟨link, lost, wire⟩ := Part.enterOff_south c
  constructor <;> simp [Part.goDeep, Lines.openFeedbacks, Params.patrolLoad, Part.tables, link, lost, wire]

theorem Part.goDeep_patrols (c : Part) : c.goDeep.power.patrols = c.power.patrols := by simp

theorem bump16_eq (n : Nat) : bump16 n = min (n + 1) 65535 := rfl

/-! ### The SLEEP broadcast -/

theorem Part.sleepBroadcastDue_of_entering (entering : c.power.state = .sleepEntry)
    (step : c.power.step = .step3 ∨ c.power.step = .step4) (closed : c.sched.sweeps = []) :
    c.sleepBroadcastDue =
      if (c.router.southQueue = [] ∨ c.south.link ≠ .up) ∧ c.south.sleepDue = none ∧ c.power.sleepSent = false then
        { c with power.step := .step4, south.sleepDue := some c.sched.packTime }
      else { c with power.step := .step4 } := by
  simp only [Part.sleepBroadcastDue, entering, step, closed, List.isEmpty_nil, and_self, ↓reduceIte,
    List.isEmpty_iff, Part.now]

theorem Part.sleepEnd_of_none (none_ended : c.endedSouth = none) : c.sleepEnd = c := by
  simp only [Part.sleepEnd, none_ended]

theorem Part.sleepEnd_of_other {w : OnWire} (ended : c.endedSouth = some w) (other : w.tag ≠ .sleep) :
    c.sleepEnd = c := by
  simp only [Part.sleepEnd, ended]
  split
  next sleep => exact absurd sleep other
  all_goals rfl

theorem Part.sleepEnd_of_sleep {w : OnWire} (ended : c.endedSouth = some w) (sleep : w.tag = .sleep) :
    c.sleepEnd =
      let c1 : Part := { c with south.wire := some w.taken }
      if c.power.sleepSent = false then c1
      else if c.power.state = .sleepEntry ∧ c.power.step = .step4 then { c1 with power.step := .step5 }
      else if c.power.state = .patrol ∧ c.power.step = .returning then c1.returnToDeep
      else c1 := by
  simp only [Part.sleepEnd, ended, sleep]
  cases sent : c.power.sleepSent
  · simp
  · simp only [Bool.true_eq_false, ↓reduceIte]
    split
    next entry four => rw [if_pos ⟨entry, four⟩]
    next patrol returning => rw [if_neg (by simp [patrol]), if_pos ⟨patrol, returning⟩]
    next neither_entry neither_patrol =>
      rw [if_neg fun h => neither_entry h.1 h.2, if_neg fun h => neither_patrol h.1 h.2]

/-! ### DEEP_ENTRY -/

theorem Part.drained_iff : c.drained = true ↔ c.mgmt.requests = [] ∧ c.mgmt.programming = none ∧
    c.mgmt.responses = [] ∧ c.mgmt.restart = .notTaken ∧ c.router.forward = [] ∧ c.store.write = .idle ∧
    ∀ w, c.north.wire = some w → w.ended c.sched.packTime = true := by
  unfold Part.drained Part.now
  cases wire : c.north.wire <;> simp <;> tauto

/-! ### The start of a patrol -/

theorem Part.startPatrol_link (c : Part) : c.startPatrol.south.link = .waking := by
  have waking (d : Part) : d.enterWaking.south.link = .waking := by rw [Part.enterWaking_south]
  unfold Part.startPatrol
  simp [waking]

theorem Part.objectsToNormal_missed (c : Part) (f : Forming) :
    (c.objectsToNormal f).sched.missed = Vector.replicate 16 0 := by
  simp [Part.objectsToNormal]

theorem Part.objectsToNormal_channels (c : Part) (f : Forming) : (c.objectsToNormal f).eval.channels =
    Vector.replicate 16 (Vector.replicate 16 ChanState.normal) := by
  simp [Part.objectsToNormal]

/-- Settles O48: steps 3 to 6 of sleep entry, the end of the SLEEP broadcast and the patrol timer, each by its own
condition. -/
theorem sleepEntryPatrolAndReturn : Obligations.SleepEntryPatrolAndReturn := by
  intro c q asleep
  have asleep_of {d t : Part} (h : Asleep d t) (lines : d.lines = c.lines) (time : d.sched.packTime = c.sched.packTime)
      (store : d.store = c.store) (mgmt : d.mgmt = c.mgmt) : asleep t := by
    refine ⟨h.state, h.step, h.link, h.lost, h.wire, h.run, h.packTime.trans time, ?_, h.closedFeedback, ?_,
      h.mgmt.trans mgmt, h.tables.trans (by rw [store])⟩
    · rw [h.openFeedback, lines]
    · rw [h.timer, store]
  refine ⟨fun entering step closed => ?_, fun bad => ?_, fun w wire sleep untaken sent ended => ?_,
    fun w wire sleep untaken => ⟨fun early => ?_, fun ended over_ => ?_⟩, fun no_end => ?_,
    fun entering step none_asked none_programmed none_answered no_restart none_forward idle free => ?_, fun bad => ?_,
    fun deep expired => ?_, fun bad => ?_⟩
  · have due := Part.sleepBroadcastDue_of_entering entering step closed
    refine ⟨fun empty none_due unsent => exec_eq_next rfl (due.trans (if_pos ⟨empty, none_due, unsent⟩)),
      fun waits => exec_eq_next rfl (due.trans (if_neg ?_))⟩
    rintro ⟨empty, none_due, unsent⟩
    obtain ⟨queued, up⟩ | is_due | sent := waits
    · exact empty.elim queued fun not_up => not_up up
    · exact is_due none_due
    · simp [unsent] at sent
  · refine exec_eq_next rfl (if_neg ?_)
    rintro ⟨entering, step, closed⟩
    obtain state | swept | steps := bad
    · exact state entering
    · exact swept (List.isEmpty_iff.mp closed)
    · exact step.elim steps.1 steps.2
  · have now : c.endedSouth = some w := Part.endedSouth_iff.mpr ⟨wire, ended, untaken⟩
    have effect := (Part.sleepEnd_of_sleep now sleep).trans (if_neg (by simp [sent]))
    refine ⟨fun entering four => ?_, fun patrol returning => ?_⟩
    · rw [if_pos ⟨entering, four⟩] at effect
      exact exec_eq_next rfl effect
    have effect := (effect.trans (if_neg (by simp [patrol]))).trans (if_pos ⟨patrol, returning⟩)
    refine ⟨_, exec_eq_next rfl effect, ?_, ?_⟩
    · exact asleep_of (Part.goDeep_asleep _) rfl rfl rfl rfl
    · exact Part.goDeep_patrols _
  · refine exec_eq_next rfl (Part.sleepEnd_of_none ?_)
    rw [Option.eq_none_iff_forall_not_mem]
    intro x found
    obtain ⟨onWire, reached, -⟩ := Part.endedSouth_iff.mp found
    obtain rfl : w = x := Option.some.inj (wire.symm.trans onWire)
    exact Bool.noConfusion (early.symm.trans reached)
  · have now : c.endedSouth = some w := Part.endedSouth_iff.mpr ⟨wire, ended, untaken⟩
    refine exec_eq_next rfl ((Part.sleepEnd_of_sleep now sleep).trans ?_)
    obtain unsent | outside := over_
    · exact if_pos unsent
    · dsimp only
      rw [if_neg fun h => outside (.inl h), if_neg fun h => outside (.inr h), ite_self]
      rfl
  · refine exec_eq_next rfl ?_
    cases ended : c.endedSouth with
    | none => exact Part.sleepEnd_of_none ended
    | some w =>
      obtain ⟨wire, -, untaken⟩ := Part.endedSouth_iff.mp ended
      exact Part.sleepEnd_of_other ended ((no_end w wire).resolve_right (by simp [untaken]))
  · have drained : c.drained = true :=
      Part.drained_iff.mpr ⟨none_asked, none_programmed, none_answered, no_restart, none_forward, idle, free⟩
    refine ⟨_, exec_eq_next rfl (if_pos ⟨entering, step, drained⟩), asleep_of (Part.goDeep_asleep _) rfl rfl rfl rfl,
      ?_, ?_, ?_⟩ <;> simp
  · refine exec_eq_next rfl (if_neg ?_)
    rintro ⟨entering, step, drained⟩
    obtain ⟨none_asked, none_programmed, none_answered, no_restart, none_forward, idle, free⟩ :=
      Part.drained_iff.mp drained
    obtain h | h | h | h | h | h | h | h | ⟨w, wire, busy⟩ := bad
    · exact h entering
    · exact h step
    · exact h none_asked
    · exact h none_programmed
    · exact h none_answered
    · exact h no_restart
    · exact h none_forward
    · exact h idle
    · exact Bool.noConfusion (busy.symm.trans (free w wire))
  · refine ⟨_, exec_eq_next rfl (if_pos ⟨deep, expired⟩), ?_⟩
    refine ⟨?_, ?_, ?_, ?_, Part.startPatrol_link c, ?_, ?_, ?_, ?_, ?_, ?_⟩
    · simp [Part.startPatrol]
    · simp [Part.startPatrol]
    · simp [Part.startPatrol]
    · have bit : BitVec.twoPow 8 4 = 16#8 := by decide
      simp [Part.startPatrol, Part.addCause, WakeCause.bit, bit]
    · simp
    · simp [Part.startPatrol, Part.objectsToNormal_missed]
    · simp [Part.startPatrol, Part.objectsToNormal_channels, ChanState.normal]
    · simp
    · simp
    · simp
  · refine exec_eq_next rfl (if_neg ?_)
    rintro ⟨deep, expired⟩
    obtain state | left := bad
    · exact state deep
    · exact Nat.lt_irrefl 0 (left 0 expired)

end Sys2Proof.Machine
end

section
/-!
# The interlock unit: class activity, the effective action, the answer to an action, spoof and silence (O36)
-/
namespace Sys2Proof.Machine

variable {c : Part} {q : List Instr}

/-! ### Class activity (R87 to R89) -/

theorem FaultClass.isEvent_iff (k : FaultClass) : k.isEvent = true ↔ 13 ≤ k.number := by
  cases k <;> simp [FaultClass.isEvent, FaultClass.number]

theorem FaultClass.mem_all (k : FaultClass) : k ∈ FaultClass.all := by
  cases k <;> simp [FaultClass.all]

theorem Part.hasObject_iff (k : FaultClass) : c.hasObject k = true ↔ ∃ o ∈ c.interlock.tripped, o.cls = k := by
  simp [Part.hasObject]

theorem Part.classActive_of_event {k : FaultClass} (event : k.isEvent = true) :
    c.classActive k = hasClass c.interlock.events k := if_pos event

theorem Part.classActive_of_condition {k : FaultClass} (condition : k.isEvent = false) : c.classActive k = true ↔
    ¬ (k = .linkDown ∧ c.power.state = .deep) ∧
      (c.hasObject k = true ∨ k ≠ .tamper ∧ hasClass c.interlock.latches k = true) := by
  unfold Part.classActive
  rw [if_neg (by simp [condition])]
  by_cases tamper : k = .tamper
  · simp [tamper]
  · rw [if_neg tamper]
    by_cases deep : k = .linkDown ∧ c.power.state = .deep
    · simp [deep]
    · simp [deep, tamper]

theorem Part.mem_activeClasses_iff {k : FaultClass} : k ∈ c.activeClasses ↔ c.classActive k = true := by
  simp [Part.activeClasses, FaultClass.mem_all]

/-! ### The effective action (R94, R96) -/

theorem Action.code_sup (a b : Action) : (a.sup b).code = max a.code b.code := by
  unfold Action.sup
  split <;> omega

theorem Action.sup_cases (a b : Action) : a.sup b = a ∨ a.sup b = b := by
  unfold Action.sup
  split <;> simp

/-- The highest of the actions of a list of classes. -/
theorem foldl_sup (action : FaultClass → Action) (l : List FaultClass) (a : Action) :
    let top := l.foldl (fun a k => a.sup (action k)) a
    a.code ≤ top.code ∧ (∀ k ∈ l, (action k).code ≤ top.code) ∧ (top = a ∨ ∃ k ∈ l, action k = top) := by
  induction l generalizing a with
  | nil => simp
  | cons k l ih =>
    obtain ⟨above, each, which⟩ := ih (a.sup (action k))
    rw [Action.code_sup] at above
    dsimp only [List.foldl_cons]
    refine ⟨by omega, fun j member => ?_, ?_⟩
    · obtain rfl | later := List.mem_cons.mp member
      · omega
      · exact each j later
    · obtain first | ⟨j, member, found⟩ := which
      · rw [first]
        exact (Action.sup_cases a (action k)).imp id fun top => ⟨k, List.mem_cons_self, top.symm⟩
      · exact .inr ⟨j, List.mem_cons_of_mem k member, found⟩

/-! ### What the sequencer leaves of the interlock unit -/

theorem Part.takeAction_interlock (a : Action) (c : Part) : (c.takeAction a).interlock =
    { c.interlock with faultOut := (c.takeAction a).interlock.faultOut } := by
  have tripped : (c.takeAction a).interlock.tripped = c.interlock.tripped := by simp
  have latches : (c.takeAction a).interlock.latches = c.interlock.latches := by simp
  have events : (c.takeAction a).interlock.events = c.interlock.events := by simp
  have supervision : (c.takeAction a).interlock.supervision = c.interlock.supervision := by simp
  have silence : (c.takeAction a).interlock.silence = c.interlock.silence := by simp
  dsimp only
  rw [← tripped, ← latches, ← events, ← supervision, ← silence, ← Part.takeAction_effective a c]

/-- The part to which the sequencer has answered the action formed, if it is a new one. -/
def Part.ordered (c : Part) : Part :=
  if c.effectiveAction = c.interlock.effective then c
  else { c with interlock.effective := c.effectiveAction }.takeAction c.effectiveAction

theorem Part.refreshAction_ordered (c : Part) : c.refreshAction = c.ordered.driveFaultOut := by
  unfold Part.refreshAction Part.ordered
  dsimp only
  split <;> rfl

theorem Part.refreshAction_interlock (c : Part) : c.refreshAction.interlock = { c.interlock with
    effective := c.effectiveAction,
    faultOut := decide (3 ≤ c.effectiveAction.code ∨ c.refreshAction.seq.conn = .lockedOut) } := by
  have formed : c.ordered.interlock =
      { c.interlock with effective := c.effectiveAction, faultOut := c.ordered.interlock.faultOut } := by
    unfold Part.ordered
    split
    next same => rw [same]
    next =>
      rw [Part.takeAction_interlock]
  have level : c.ordered.faultLevel =
      decide (3 ≤ c.effectiveAction.code ∨ c.ordered.seq.conn = .lockedOut) := by
    rw [Part.faultLevel, formed, Bool.decide_or]
    rfl
  rw [Part.refreshAction_ordered]
  refine Eq.trans ?_ (congrArg (fun b => { c.interlock with effective := c.effectiveAction, faultOut := b }) level)
  exact (congrArg (fun i : Interlock => { i with faultOut := c.ordered.faultLevel }) formed)

/-! ### The answers of the sequencer (R113) -/

/-- Lockout pending as an action of LOCKOUT sets it (R113). -/
def Part.withOrder (a : Action) (c : Part) : Part :=
  if a = .lockout ∧ c.seq.conn ≠ .lockedOut then
    { c with seq.pendingLockout := some ((c.dueClass a).getD .contactorFault) } else c

theorem Part.withOrder_of_lower {a : Action} (lower : a ≠ .lockout) : c.withOrder a = c := if_neg fun h => lower h.1

theorem Part.withOrder_seq {a : Action} (out : c.seq.conn ≠ .lockedOut) : c.withOrder a = { c with
    seq.pendingLockout := if a = .lockout then some ((c.dueClass a).getD .contactorFault) else c.seq.pendingLockout } := by
  unfold Part.withOrder
  by_cases lockout : a = .lockout
  · rw [if_pos ⟨lockout, out⟩, if_pos lockout]
  · rw [if_neg fun h => lockout h.1, if_neg lockout]

/-- The sequencer's answer by connection state, with the cases in which it does nothing left out. -/
theorem Part.takeAction_of_quiet {a : Action} (quiet : a.code < 2 ∨ c.seq.conn = .lockedOut ∨
    (c.seq.conn = .opened ∧ a ≠ .lockout) ∨ (c.seq.conn = .closed ∧ a = .blockClose) ∨
    (c.seq.conn = .softOpening ∧ a.code ≤ 3)) : c.takeAction a = c := by
  by_cases low : a.code < 2
  · exact if_pos low
  · simp only [Part.takeAction, Action.code, low, ↓reduceIte]
    obtain locked | ⟨opened, lower⟩ | ⟨closed, rfl⟩ | ⟨soft, level⟩ := quiet.resolve_left low
    · simp [locked]
    · simp [opened, lower]
    · simp [closed]
    · cases a <;> simp_all [Action.code]

theorem Part.takeAction_of_opened {a : Action} (opened : c.seq.conn = .opened) (lockout : a = .lockout) :
    c.takeAction a = (c.withOrder a).enterLockedOut .opened := by
  subst lockout
  simp [Part.takeAction, Part.withOrder, Action.code, opened]

theorem Part.takeAction_of_closing {a : Action} (high : 2 ≤ a.code)
    (closing : c.seq.conn = .negClosing ∨ c.seq.conn = .precharging) : c.takeAction a =
      let aborted := (c.withOrder a).abortToOpen (.cls ((c.dueClass a).getD .contactorFault))
      if a = .lockout then aborted.enterLockedOut .opened else aborted := by
  have high' : ¬ a.code < Action.blockClose.code := Nat.not_lt.mpr high
  obtain conn | conn := closing <;> simp only [Part.takeAction, high', conn, ↓reduceIte] <;> simp [Part.withOrder, conn]

theorem Part.takeAction_of_main {a : Action} (high : 2 ≤ a.code) (main : c.seq.conn = .mainClosing ∨
    ((c.seq.conn = .closed ∨ c.seq.conn = .softOpening) ∧ 4 ≤ a.code)) : c.takeAction a =
      (c.withOrder a).startOpening (.cls ((c.dueClass a).getD .contactorFault)) := by
  have high' : ¬ a.code < Action.blockClose.code := Nat.not_lt.mpr high
  obtain conn | ⟨conn | conn, now⟩ := main
  · simp only [Part.takeAction, high', conn, ↓reduceIte, Part.withOrder]
  · simp only [Part.takeAction, high', conn, ↓reduceIte, Part.withOrder]
    cases a <;> simp_all [Action.code]
  · simp only [Part.takeAction, high', conn, ↓reduceIte, Part.withOrder]
    cases a <;> simp_all [Action.code]

theorem Part.takeAction_of_soft (closed : c.seq.conn = .closed) : c.takeAction .openSoft =
    c.enterSoftOpening (.cls ((c.dueClass .openSoft).getD .contactorFault)) := by
  simp [Part.takeAction, Action.code, closed]

theorem Part.takeAction_of_opening {a : Action} (high : 2 ≤ a.code) (opening : c.seq.conn = .opening) :
    c.takeAction a = c.withOrder a := by
  have high' : ¬ a.code < Action.blockClose.code := Nat.not_lt.mpr high
  simp only [Part.takeAction, high', opening, ↓reduceIte, Part.withOrder]

/-! ### An opening (R116, R117) -/

/-- OPENING goes on, or ends in OPEN or LOCKED_OUT, with K+ and KP open as they were. -/
theorem Part.advanceOpening_shows (opening : c.seq.conn = .opening) (pos : c.seq.kPos.drive = false)
    (pre : c.seq.kPre.drive = false) :
    let t := c.advanceOpening
    (t.seq.conn = .opening ∨ t.seq.conn = if c.seq.pendingLockout = none then .opened else .lockedOut) ∧
    t.seq.kPos.drive = false ∧ t.seq.kPre.drive = false := by
  intro t
  let c1 : Part := if c.seq.conn = .opening ∧ c.feedback .kPos = false then c.drive .kNeg false else c
  have only_neg : c1.seq = { c.seq with kNeg := c1.seq.kNeg } := by
    simp only [c1]
    split
    · exact Part.drive_seq ..
    · rfl
  have result : t = if c1.seq.conn = .opening ∧ c1.seq.kNeg.drive = false ∧ c1.feedback .kNeg = false then c1.endOpening
      else c1 := rfl
  have conn : c1.seq.conn = .opening := (congrArg Sequencer.conn only_neg).trans opening
  have pending : c1.seq.pendingLockout = c.seq.pendingLockout :=
    (congrArg Sequencer.pendingLockout only_neg).trans rfl
  have pos' : c1.seq.kPos.drive = false := (congrArg (·.kPos.drive) only_neg).trans pos
  have pre' : c1.seq.kPre.drive = false := (congrArg (·.kPre.drive) only_neg).trans pre
  clear_value c1 t
  subst result
  split
  · obtain ⟨ended, kPos, kPre, -, -⟩ := Part.endOpening_shows c1
    rw [pending] at ended
    exact ⟨.inr ended, kPos, kPre⟩
  · exact ⟨.inl conn, pos', pre'⟩

theorem Part.startOpening_shows (cause : Cause) (c : Part) :
    let t := c.startOpening cause
    (t.seq.conn = .opening ∨ t.seq.conn = if c.seq.pendingLockout = none then .opened else .lockedOut) ∧
    t.seq.kPos.drive = false ∧ t.seq.kPre.drive = false ∧
    (c.lines.feedback.kPos = true → c.seq.kNeg.drive = true → t.seq.conn = .opening ∧ t.seq.kNeg = c.seq.kNeg ∧
      t.seq.pendingLockout = c.seq.pendingLockout ∧
      t.seq.openingCause = if c.seq.conn = .softOpening then c.seq.openingCause else some cause) := by
  intro t
  obtain ⟨only, opening, pos, pre, neg, -, -, -, cause', -, pending⟩ := Part.enterOpening_shows cause c
  obtain ⟨goes, kPos, kPre⟩ := Part.advanceOpening_shows opening pos pre
  rw [pending] at goes
  refine ⟨goes, kPos, kPre, fun shut driven => ?_⟩
  have waits : t = c.enterOpening cause := Part.advanceOpening_of_closed
    ((congrArg (·.lines.feedback.kPos) only).trans shut) ((congrArg (·.drive) neg).trans driven)
  rw [waits]
  exact ⟨opening, neg, pending, cause'⟩

/-! ### Spoof and silence (R5, R88, R99) -/

theorem Part.goodFrame_spoofs (c : Part) : c.goodFrame.south.spoofs = c.south.spoofs := by
  unfold Part.goodFrame
  split
  · split <;> rfl
  · rfl

theorem Part.eventClass_events (awake : c.power.state ≠ .patrol) (k : FaultClass) :
    (c.eventClass k).interlock.events = c.interlock.events ||| k.bit := by
  rw [Part.eventClass_of_not_patrol awake]
  simp

theorem Part.eventClass_power (awake : c.power.state ≠ .patrol) (k : FaultClass) :
    (c.eventClass k).power = c.power := by
  rw [Part.eventClass_of_not_patrol awake]
  simp

theorem Part.eventClass_south (awake : c.power.state ≠ .patrol) (k : FaultClass) :
    (c.eventClass k).south = c.south := by
  rw [Part.eventClass_of_not_patrol awake]
  simp

theorem Part.eventClass_sched (awake : c.power.state ≠ .patrol) (k : FaultClass) :
    (c.eventClass k).sched.run = c.sched.run ∧ (c.eventClass k).sched.sweeps = c.sched.sweeps := by
  rw [Part.eventClass_of_not_patrol awake]
  simp

theorem Part.setCondition_sched (awake : c.power.state ≠ .patrol) (k : FaultClass) :
    (c.setCondition k).sched.run = c.sched.run ∧ (c.setCondition k).sched.sweeps = c.sched.sweeps ∧
    (c.setCondition k).interlock.supervision = c.interlock.supervision := by
  rw [Part.setCondition_of_not_patrol awake]
  simp

/-- Settles O36: class activity by its table, the highest action by the fold over the active classes, the step law by
`lawful_of_step`, and the sequencer's answer by connection state. -/
theorem spoofAndSilenceRaiseTheirClasses : Obligations.SpoofAndSilenceRaiseTheirClasses := by
  refine ⟨fun c k => ?_, fun c => ⟨fun no_table => ?_, fun v table => ?_⟩, fun s s' laws stepped => ?_, fun c => ?_,
    fun c q awake => ⟨fun bs running spoof => ?_, fun e supervised due => ?_⟩⟩
  · cases event : k.isEvent with
    | true =>
      have high := (FaultClass.isEvent_iff k).mp event
      rw [Part.classActive_of_event event]
      constructor
      · exact fun active => .inl ⟨high, active⟩
      · rintro (⟨-, active⟩ | ⟨low, -⟩)
        · exact active
        · omega
    | false =>
      have low : ¬ 13 ≤ k.number := fun high => by simp [(FaultClass.isEvent_iff k).mpr high] at event
      rw [Part.classActive_of_condition event, Part.hasObject_iff]
      constructor
      · exact fun active => .inr ⟨by omega, active⟩
      · rintro (⟨high, -⟩ | ⟨-, active⟩)
        · exact absurd high low
        · exact active
  · have found : c.activeClasses.isEmpty = true ↔ ¬ ∃ k ∈ FaultClass.all, c.classActive k = true := by
      simp [Part.activeClasses, List.filter_eq_nil_iff]
    unfold Part.effectiveAction
    rw [no_table]
    dsimp only
    by_cases active : ∃ k ∈ FaultClass.all, c.classActive k = true
    · rw [if_pos active, if_neg fun empty => found.mp empty active]
    · rw [if_neg active, if_pos (found.mpr active)]
  · have top : c.effectiveAction =
        c.activeClasses.foldl (fun a k => a.sup ((c.store.tables.actionOf k).getD .none)) .none := by
      simp only [Part.effectiveAction, table]
    have entry (k : FaultClass) : c.store.tables.actionOf k = (v[k.number - 1]?).map (·.action) := by
      simp only [Tables.actionOf, Tables.entryOf, table]
    obtain ⟨-, each, which⟩ := foldl_sup (fun k => (c.store.tables.actionOf k).getD .none) c.activeClasses .none
    rw [top]
    refine ⟨fun k e active found => ?_, fun some_action => ?_⟩
    · have below := each k (Part.mem_activeClasses_iff.mpr active)
      rwa [entry, found] at below
    · obtain ⟨k, member, action⟩ := which.resolve_left some_action
      rw [entry] at action
      cases found : v[k.number - 1]? with
      | none =>
        rw [found] at action
        exact absurd action.symm some_action
      | some e =>
        rw [found] at action
        exact ⟨k, e, Part.mem_activeClasses_iff.mp member, found, action⟩
  · rw [Part.interlockLaws_iff] at laws ⊢
    exact ⟨(lawful_of_step stepped).formed laws.1, (lawful_of_step stepped).levelled laws.2⟩
  · intro a t opens due pending
    have interlock : t.interlock = _ := Part.refreshAction_interlock c
    have result : t = { c.ordered with interlock := t.interlock } := by
      have answer := Part.refreshAction_ordered c
      rw [show t = c.ordered.driveFaultOut from answer]
      rfl
    let d : Part := { c with interlock.effective := a }
    have quiet (still : c.ordered = c ∨ c.ordered = d) : t = { c with interlock := t.interlock } := by
      obtain same | same := still
      · rw [same] at result
        exact result
      · rw [same] at result
        exact result
    refine ⟨interlock, fun still => quiet ?_, fun new high => ?_⟩
    · by_cases same : a = c.interlock.effective
      · exact .inl (if_pos same)
      · exact .inr ((if_neg same).trans (Part.takeAction_of_quiet (c := d) (still.resolve_left same)))
    · have answer : c.ordered = d.takeAction a := if_neg new
      have seq : t.seq = (d.takeAction a).seq := (congrArg (·.seq) result).trans (congrArg (·.seq) answer)
      have dark (k : Contactor) : opens k ↔ ((d.takeAction a).seq.contactor k).drive = false := by
        simp only [opens, seq]
      rw [dark, dark, dark, seq]
      refine ⟨fun ⟨opened, lockout⟩ => ?_, fun closing => ?_, fun main => ?_, fun ⟨closed, soft⟩ => ?_, fun opening => ?_⟩
      · rw [Part.takeAction_of_opened (c := d) opened lockout]
        obtain ⟨conn, -, -, -, pos, neg, pre, -⟩ := Part.enterLockedOut_shows .opened (d.withOrder a)
        exact ⟨conn, pos, neg, pre⟩
      · rw [Part.takeAction_of_closing (c := d) high closing]
        have before : (d.withOrder a).seq.conn = c.seq.conn := by
          unfold Part.withOrder
          split <;> rfl
        obtain ⟨conn, pos, neg, pre, -, -, e, last, kind, cause, from_state, after, -⟩ :=
          Part.abortToOpen_shows (.cls due) (d.withOrder a)
        by_cases lockout : a = .lockout
        · dsimp only
          rw [if_pos lockout, if_pos lockout]
          obtain ⟨locked, -, -, -, pos, neg, pre, -⟩ :=
            Part.enterLockedOut_shows .opened ((d.withOrder a).abortToOpen (.cls due))
          exact ⟨locked, pos, neg, pre, e, Part.enterLockedOut_keeps_newest .opened last, kind, cause,
            from_state.trans before, after⟩
        · dsimp only
          rw [if_neg lockout, if_neg lockout]
          exact ⟨conn, pos, neg, pre, e, List.mem_of_getLast? last, kind, cause, from_state.trans before, after⟩
      · have out : d.seq.conn ≠ .lockedOut := by
          obtain h | ⟨h | h, -⟩ := main <;> exact fun locked => ConnState.noConfusion (h.symm.trans locked)
        rw [Part.takeAction_of_main (c := d) high main, Part.withOrder_seq out]
        obtain ⟨conn, pos, pre, waits⟩ := Part.startOpening_shows (.cls due) { d with seq.pendingLockout := pending }
        exact ⟨conn, pos, pre, waits⟩
      · rw [show a = .openSoft from soft, Part.takeAction_of_soft (c := d) closed] at answer
        rw [answer] at result
        refine result.trans ?_
        simp only [due, show a = .openSoft from soft]
        rfl
      · rw [Part.takeAction_of_opening (c := d) high opening,
          Part.withOrder_seq (c := d) (fun locked => ConnState.noConfusion (opening.symm.trans locked))] at answer
        rw [answer] at result
        exact result
  · have effect : exec (.chainSpoof bs) ⟨c, q⟩ = .next ⟨c.goodFrame.takeSpoof, q⟩ :=
      exec_eq_next rfl ((Part.receiveSouth_running running).trans (by rw [spoof]))
    let d : Part := { c.goodFrame with south.spoofs := bump16 c.goodFrame.south.spoofs }
    have awake' : d.power.state ≠ .patrol := by simpa [d] using awake
    obtain ⟨run, sweeps⟩ := Part.eventClass_sched awake' .chainSpoof
    refine ⟨_, effect, ?_, ?_, ?_, ?_, ?_, ?_, ?_, run.trans (by simp [d]), sweeps.trans (by simp [d])⟩
    · refine (Part.eventClass_south awake' .chainSpoof).trans ?_
      simp only [d, Part.goodFrame_spoofs]
      rfl
    · exact (Part.eventClass_events awake' .chainSpoof).trans (by simp [d])
    · simp [Part.takeSpoof]
    · simp [Part.takeSpoof]
    · exact (Part.eventClass_power awake' .chainSpoof).trans (by simp [d])
    · simp [Part.takeSpoof]
    · simp [Part.takeSpoof]
  · let d : Part := { c with interlock.supervision := none, interlock.silence := true }
    have effect : exec .supervisionExpiry ⟨c, q⟩ = .next ⟨d.setCondition .hostSilent, q⟩ :=
      exec_eq_next rfl (if_pos (by rw [supervised]; exact due))
    obtain ⟨run, sweeps, stopped⟩ := Part.setCondition_sched (c := d) awake .hostSilent
    refine ⟨_, effect, ?_, stopped, Part.mem_tripObject .., ?_, Part.setCondition_south (c := d) awake _, ?_,
      Part.setCondition_power (c := d) awake _, ?_, ?_, run, sweeps⟩ <;> simp [d]

end Sys2Proof.Machine
end

section
/-!
# Escalation of a patrol, the last report made, and what an identity check changes

A notice escalates only a patrol, and only by a class that wakes; so the identity check leaves the links, the runs and
the power state alone unless it runs in PATROL.
-/
namespace Sys2Proof.Machine

variable {c d e : Part} {f : Forming}

/-! ### The last report made -/

theorem Part.offerReport_reported (payload : List Byte) (c : Part) :
    (c.offerReport .priority payload).reported payload := by
  unfold Part.reported
  by_cases room : c.reports.queue.length < 64
  · left
    rw [Part.offerReport_of_lt_limit payload (by exact room), Part.admitReport_eq]
    simp
  · right
    rw [Part.offerReport_priority_of_full payload (Nat.not_lt.mp room)]
    exact ⟨Nat.not_lt.mp room, rfl⟩

theorem Part.reported_congr {payload : List Byte} (same : d.reports = c.reports) (made : c.reported payload) :
    d.reported payload := by
  unfold Part.reported
  rwa [same]

/-! ### Escalation (R154) -/

theorem Part.syncDue_south (t : Time) (c : Part) :
    (c.syncDue t).south = { c.south with sampling := (c.syncDue t).south.sampling } := by
  unfold Part.syncDue
  split <;> rfl

theorem Part.supercycle_sampling (t : Time) (c : Part) :
    (c.supercycle t).south = { c.south with sampling := (c.supercycle t).south.sampling } := by
  unfold Part.supercycle
  split
  · rfl
  · exact Part.syncDue_south t c

theorem Part.startRun_sampling (kind : RunKind) (hold : Bool) (c : Part) :
    (c.startRun kind hold).south = { c.south with sampling := (c.startRun kind hold).south.sampling } := by
  unfold Part.startRun
  dsimp only
  split
  · exact Part.supercycle_sampling ..
  · rfl

theorem Part.startNormalRun_sampling (hold : Bool) (c : Part) :
    (c.startNormalRun hold).south = { c.south with sampling := (c.startNormalRun hold).south.sampling } := by
  unfold Part.startNormalRun
  split
  · exact Part.startRun_sampling ..
  · rfl

theorem Part.abortSweeps_of_no_run (p : Sweep → Bool) (idle : c.sched.run = none) : c.abortSweeps p =
    { c with
      sched.sweeps := c.sched.sweeps.filter (fun w => !p w),
      south.sampling := c.south.sampling.filter
        (fun f => !(((c.sched.sweeps.filter p).map (·.number)).any (fun n => f.triggers n))) } :=
  Part.settleRun_of_begun fun r run => by simp [idle] at run

theorem Part.powerReport_south (left : PowerState) (escalated : Bool) (c : Part) :
    (c.powerReport left escalated).south = c.south := by simp

theorem Part.powerReport_reported (left : PowerState) (escalated : Bool) (c : Part) :
    (c.powerReport left escalated).reported
      (powerPayload left c.power.causes c.sched.packTime c.power.patrols c.power.escalating) :=
  Part.reported_congr rfl (Part.offerReport_reported ..)

/-- The part of an escalation up to the south link's move. -/
def Part.endPatrol (w : WakeCause) (cls : Option FaultClass) (c : Part) : Part :=
  let ended := Part.abortSweeps (fun s => decide (s.runKind = .patrol))
    { c with power.causes := c.power.causes ||| BitVec.twoPow 8 w.bit, power.escalating := cls, sched.run := none }
  Part.restartSupervision { ended with power.state := .active, power.step := .none, power.sleepSent := false }

/-- The report of an escalation, and the normal run that follows it. -/
def Part.endEscalation (c : Part) : Part :=
  let told := c.powerReport .patrol true
  told.startNormalRun told.holdForNewRun

theorem Part.escalate_eq (w : WakeCause) (cls : Option FaultClass) (c : Part) : c.escalate w cls =
    if c.power.step = .returning ∧ c.power.sleepSent = true then (c.endPatrol w cls).enterWaking.endEscalation
    else { c.endPatrol w cls with south.sleepDue := none }.endEscalation := by
  unfold Part.escalate
  by_cases returning : c.power.step = .returning ∧ c.power.sleepSent = true
  · simp only [returning, decide_true, Bool.true_and, ↓reduceIte, and_self]
    rfl
  · rw [if_neg returning]
    dsimp only
    rw [if_neg (by simpa using returning)]
    rfl

theorem Part.endEscalation_power (c : Part) : c.endEscalation.power =
    { c.power with causes := 0, escalating := none, hostWake := true } := by
  simp [Part.endEscalation, Part.powerReport]

theorem Part.endPatrol_power (w : WakeCause) (cls : Option FaultClass) (c : Part) : (c.endPatrol w cls).power =
    { c.power with
      causes := c.power.causes ||| BitVec.twoPow 8 w.bit, escalating := cls, state := .active, step := .none,
      sleepSent := false } := by
  simp [Part.endPatrol]

theorem Part.escalate_power (w : WakeCause) (cls : Option FaultClass) (c : Part) : (c.escalate w cls).power =
    { c.power with state := .active, step := .none, causes := 0, escalating := none, hostWake := true,
                   sleepSent := false } := by
  rw [Part.escalate_eq]
  split <;> simp [Part.endEscalation_power, Part.endPatrol_power]

theorem Part.escalate_reported (w : WakeCause) (cls : Option FaultClass) (c : Part) : (c.escalate w cls).reported
    (powerPayload .patrol (c.power.causes ||| BitVec.twoPow 8 w.bit) c.sched.packTime c.power.patrols cls) := by
  have told (d : Part) : d.endEscalation.reported
      (powerPayload .patrol d.power.causes d.sched.packTime d.power.patrols d.power.escalating) :=
    Part.reported_congr (by simp [Part.endEscalation]) (Part.powerReport_reported .patrol true d)
  have time : (c.endPatrol w cls).sched.packTime = c.sched.packTime := by simp [Part.endPatrol]
  rw [Part.escalate_eq]
  split
  · have made := told (c.endPatrol w cls).enterWaking
    simpa [Part.endPatrol_power, time] using made
  · have made := told { c.endPatrol w cls with south.sleepDue := none }
    simpa [Part.endPatrol_power, time] using made

theorem Part.endPatrol_south (w : WakeCause) (cls : Option FaultClass) (c : Part) :
    (c.endPatrol w cls).south = { c.south with sampling := (c.endPatrol w cls).south.sampling } := by
  have ended := Part.abortSweeps_of_no_run (c := { c with
    power.causes := c.power.causes ||| BitVec.twoPow 8 w.bit, power.escalating := cls, sched.run := none })
    (fun s => decide (s.runKind = .patrol)) rfl
  unfold Part.endPatrol
  dsimp only
  rw [ended]
  rfl

theorem Part.endEscalation_south (c : Part) :
    c.endEscalation.south = { c.south with sampling := c.endEscalation.south.sampling } := by
  unfold Part.endEscalation
  dsimp only
  rw [Part.startNormalRun_sampling, Part.powerReport_south]

/-- A patrol that has not sent its SLEEP broadcast keeps its link when it escalates. -/
theorem Part.escalate_south (w : WakeCause) (cls : Option FaultClass)
    (unsent : ¬ (c.power.step = .returning ∧ c.power.sleepSent = true)) : (c.escalate w cls).south =
    { c.south with sampling := (c.escalate w cls).south.sampling, sleepDue := none } := by
  rw [Part.escalate_eq, if_neg unsent, Part.endEscalation_south]
  dsimp only
  rw [Part.endPatrol_south]

theorem Part.escalate_effective (w : WakeCause) (cls : Option FaultClass) (c : Part) :
    (c.escalate w cls).interlock.effective = c.interlock.effective := by
  have ended : (c.endPatrol w cls).interlock.effective = c.interlock.effective := by
    simp [Part.endPatrol, Part.restartSupervision]
  have told (d : Part) : d.endEscalation.interlock = d.interlock := by simp [Part.endEscalation]
  rw [Part.escalate_eq]
  split <;> rw [told]
  · simpa using ended
  · exact ended

/-! ### Notices that escalate nothing -/

/-- An activation of the class escalates nothing: the part is not in PATROL, or the class does not wake (R97, R153). -/
def Part.Quiet (k : FaultClass) (c : Part) : Prop := c.power.state ≠ .patrol ∨ c.store.tables.wakes k = false

theorem Part.notice_of_quiet {k : FaultClass} (quiet : c.Quiet k) : c.notice k = c :=
  if_neg fun asleep => quiet.elim (· asleep.1) fun unwoken => by
    have woken : c.store.tables.wakes k = true := asleep.2
    simp [unwoken] at woken

theorem Part.tripObject_of_quiet {o : FaultObject} (quiet : c.Quiet o.cls) (f : Forming) :
    c.tripObject o f = c.countTrip o f := by
  unfold Part.tripObject
  split
  · rfl
  · exact Part.notice_of_quiet (by simpa [Part.Quiet] using quiet)

theorem Part.tripObject_cases (o : FaultObject) (f : Forming) (c : Part) : c.tripObject o f = c.countTrip o f ∨
    c.tripObject o f = (c.countTrip o f).notice o.cls := by
  unfold Part.tripObject
  split
  · exact .inl rfl
  · exact .inr rfl

/-! ### What a check of identities changes (R9) -/

/-- The classes whose objects an identity check moves. -/
def FaultClass.ofIdentity (k : FaultClass) : Prop := k = .moduleForeign ∨ k = .moduleLost

/-- What the check of identities changes, one position or sixteen. With `.later` the effective action is left alone. -/
structure Checks (f : Forming) (c d : Part) : Prop where
  tables : d.store.tables = c.store.tables
  objects : d.eval.channels = c.eval.channels ∧ d.eval.sum = c.eval.sum ∧ d.eval.sense = c.eval.sense
  power : d.power = c.power ∨ (d.power.state = .active ∧ d.power.hostWake = true)
  south : (c.power.state = .patrol → c.power.step ≠ .returning) → d.south = { c.south with
    foreign := d.south.foreign, sampling := d.south.sampling, sleepDue := d.south.sleepDue }
  quiet : c.Quiet .moduleForeign → c.Quiet .moduleLost → d.power = c.power ∧
    d.south = { c.south with foreign := d.south.foreign } ∧ d.sched.run = c.sched.run ∧ d.sched.sweeps = c.sched.sweeps
  later : f = .later → d.seq = c.seq ∧ d.interlock.effective = c.interlock.effective

theorem Checks.refl (c : Part) : Checks f c c :=
  ⟨rfl, ⟨rfl, rfl, rfl⟩, .inl rfl, fun _ => rfl, fun _ _ => ⟨rfl, rfl, rfl, rfl⟩, fun _ => ⟨rfl, rfl⟩⟩

theorem Checks.trans (h : Checks f c d) (h' : Checks f d e) : Checks f c e where
  tables := h'.tables.trans h.tables
  objects := by
    obtain ⟨channels, sum, sense⟩ := h.objects
    obtain ⟨channels', sum', sense'⟩ := h'.objects
    exact ⟨channels'.trans channels, sum'.trans sum, sense'.trans sense⟩
  power := by
    obtain same' | woken' := h'.power
    · rw [same']
      exact h.power
    · exact .inr woken'
  south going := by
    have going' : d.power.state = .patrol → d.power.step ≠ .returning := by
      obtain same | ⟨active, -⟩ := h.power
      · rwa [same]
      · exact fun patrol => absurd (active.symm.trans patrol) nofun
    rw [h'.south going', h.south going]
  quiet foreign lost := by
    obtain ⟨power, south, run, sweeps⟩ := h.quiet foreign lost
    have still {k : FaultClass} (quiet : c.Quiet k) : d.Quiet k := by
      unfold Part.Quiet
      rwa [power, h.tables]
    obtain ⟨power', south', run', sweeps'⟩ := h'.quiet (still foreign) (still lost)
    exact ⟨power'.trans power, by rw [south', south], run'.trans run, sweeps'.trans sweeps⟩
  later is := by
    obtain ⟨seq, effective⟩ := h.later is
    obtain ⟨seq', effective'⟩ := h'.later is
    exact ⟨seq'.trans seq, effective'.trans effective⟩

/-- A move that leaves the links, the runs, the power state and the objects alone. -/
theorem Checks.of_kept (tables : d.store.tables = c.store.tables := by simp)
    (objects : d.eval.channels = c.eval.channels ∧ d.eval.sum = c.eval.sum ∧ d.eval.sense = c.eval.sense := by simp)
    (power : d.power = c.power := by simp) (south : d.south = { c.south with foreign := d.south.foreign } := by simp)
    (run : d.sched.run = c.sched.run := by simp) (sweeps : d.sched.sweeps = c.sched.sweeps := by simp)
    (later : f = .later → d.seq = c.seq ∧ d.interlock.effective = c.interlock.effective := by simp) : Checks f c d :=
  ⟨tables, objects, .inl power, fun _ => by rw [south], fun _ _ => ⟨power, south, run, sweeps⟩, later⟩

theorem Part.countTrip_later (o : FaultObject) (c : Part) : (c.countTrip o .later).seq = c.seq ∧
    (c.countTrip o .later).interlock.effective = c.interlock.effective := by
  unfold Part.countTrip
  split <;> exact ⟨rfl, rfl⟩

theorem Part.clearObject_later (o : FaultObject) (c : Part) : (c.clearObject o .later).seq = c.seq ∧
    (c.clearObject o .later).interlock.effective = c.interlock.effective := by
  unfold Part.clearObject
  split <;> exact ⟨rfl, rfl⟩

theorem Checks.countTrip (h : Checks f c d) (o : FaultObject) : Checks f c (d.countTrip o f) :=
  h.trans (.of_kept (later := fun is => is ▸ Part.countTrip_later o d))

theorem Checks.notice (h : Checks f c d) {k : FaultClass} (own : k.ofIdentity) : Checks f c (d.notice k) := by
  refine h.trans ?_
  by_cases asleep : d.power.state = .patrol ∧ d.store.tables.wakes k = true
  · have woken : d.notice k = d.escalate .classActivated (some k) := if_pos asleep
    have power := Part.escalate_power .classActivated (some k) d
    rw [woken]
    refine ⟨by simp, by simp, .inr (by rw [power]; exact ⟨rfl, rfl⟩), fun going => ?_, fun foreign lost => ?_,
      fun _ => ⟨by simp, Part.escalate_effective ..⟩⟩
    · have south := Part.escalate_south (c := d) .classActivated (some k) (fun returns => going asleep.1 returns.1)
      rw [south]
    · have quiet : d.Quiet k := own.elim (· ▸ foreign) (· ▸ lost)
      simp [Part.Quiet, asleep] at quiet
  · rw [show d.notice k = d from if_neg asleep]
    exact .refl d

theorem Checks.tripObject (h : Checks f c d) {o : FaultObject} (own : o.cls.ofIdentity) :
    Checks f c (d.tripObject o f) := by
  obtain counted | noticed := Part.tripObject_cases o f d
  · rw [counted]
    exact h.countTrip o
  · rw [noticed]
    exact (h.countTrip o).notice own

theorem Checks.clearObject (h : Checks f c d) (o : FaultObject) : Checks f c (d.clearObject o f) :=
  h.trans (.of_kept (later := fun is => is ▸ Part.clearObject_later o d))

theorem Part.recordTrip_channels (k : FaultKey) (t : Time) (v : Option Int) (c : Part) :
    (c.recordTrip k t v).interlock = c.interlock ∧ (c.recordTrip k t v).seq = c.seq := by simp

theorem Checks.recordTrip (h : Checks f c d) (k : FaultKey) (t : Time) (v : Option Int) :
    Checks f c (d.recordTrip k t v) := h.trans .of_kept

theorem Checks.recordClear (h : Checks f c d) (k : FaultKey) (t : Time) : Checks f c (d.recordClear k t) :=
  h.trans .of_kept

theorem Checks.setForeign (h : Checks f c d) (p : Nat) (b : Bool) : Checks f c (d.setForeign p b f) := by
  unfold Part.setForeign
  dsimp only
  split
  · exact h
  · split
    · refine Checks.tripObject (Checks.recordTrip (h.trans .of_kept) ..) (.inl rfl)
    · exact Checks.clearObject (Checks.recordClear (h.trans .of_kept) ..) _

theorem Checks.handChange (h : Checks f c d) (ch : Change) {key : Direction → FaultKey} (t : Time)
    (own : ∀ x, (key x).cls.ofIdentity) : Checks f c (d.handChange ch key t none f) := by
  cases ch with
  | none => exact h
  | trip x => exact (h.recordTrip ..).tripObject (own x)
  | clear x => exact (h.recordClear ..).clearObject _
  | offer x => exact h

theorem Checks.feedLost (h : Checks f c d) (run : RunKind) (p : Nat) (missed : Bool) :
    Checks f c (d.feedLost run p missed f) :=
  Checks.handChange (h.trans .of_kept) _ _ fun _ => .inr rfl

theorem Checks.lostPosition (h : Checks f c d) (p : Nat) : Checks f c (d.lostPosition p f) := by
  unfold Part.lostPosition
  dsimp only
  split
  · exact Checks.feedLost (h.trans .of_kept) ..
  · exact h.trans .of_kept

theorem Checks.checkPosition (h : Checks f c d) (p : Nat) : Checks f c (d.checkPosition p f) := by
  unfold Part.checkPosition
  split
  · exact h.setForeign ..
  · exact h.setForeign ..
  · exact h.lostPosition ..
  · exact h.setForeign ..
  · exact h.setForeign ..

theorem Part.identityCheck_checks (f : Forming) (c : Part) : Checks f c (c.identityCheck f) := by
  have folds (l : List Nat) (d : Part) (h : Checks f c d) :
      Checks f c (l.foldl (fun c p => c.checkPosition p f) d) := by
    induction l generalizing d with
    | nil => exact h
    | cons p l ih => exact ih _ (h.checkPosition p)
  exact folds allPositions c (.refl c)

/-! ### The verdicts of the sixteen positions -/

/-- A fold of moves that each act on one position and keep what they read acts on each position of a list once. -/
theorem foldl_at {α : Type} {step : Part → Nat → Part} (view : Part → Nat → α) (fixed : Part → Prop)
    (value : α → α) {p : Nat} {l : List Nat} (keeps : ∀ c n, fixed c → fixed (step c n))
    (own : ∀ c, fixed c → view (step c p) p = value (view c p))
    (others : ∀ c n, n ∈ l → n ≠ p → view (step c n) p = view c p) (once : l.Nodup) (member : p ∈ l)
    (c : Part) (start : fixed c) : view (l.foldl step c) p = value (view c p) := by
  have apart (l : List Nat) (others : ∀ c n, n ∈ l → n ≠ p → view (step c n) p = view c p) (absent : p ∉ l) (c : Part) :
      view (l.foldl step c) p = view c p := by
    induction l generalizing c with
    | nil => rfl
    | cons n l ih =>
      obtain ⟨other, absent⟩ := List.ne_and_not_mem_of_not_mem_cons absent
      exact (ih (fun c m later => others c m (List.mem_cons_of_mem n later)) absent _).trans
        (others c n List.mem_cons_self other.symm)
  induction l generalizing c with
  | nil => cases member
  | cons n l ih =>
    obtain ⟨new, once⟩ := List.nodup_cons.mp once
    have others' (c : Part) (m : Nat) (later : m ∈ l) : m ≠ p → view (step c m) p = view c p :=
      others c m (List.mem_cons_of_mem n later)
    obtain rfl | later := List.mem_cons.mp member
    · exact (apart l others' new _).trans (own c start)
    · have other : n ≠ p := fun same => new (same ▸ later)
      exact (ih others' once later _ (keeps c n start)).trans (congrArg value (others c n List.mem_cons_self other))

theorem allPositions_nodup : allPositions.Nodup := by decide

/-- What a check reads: the tables and the stored replies. -/
def Part.Reads (c d : Part) : Prop := d.store.tables = c.store.tables ∧ d.south.replies = c.south.replies

theorem Part.setForeign_missed (p : Nat) (b : Bool) (f : Forming) (c : Part) :
    (c.setForeign p b f).sched.missed = c.sched.missed := by simp

theorem Part.setForeign_foreign (p : Nat) (b : Bool) (f : Forming) (c : Part) : (c.setForeign p b f).south.foreign =
    if hasPos c.south.foreign p = b then c.south.foreign else if b then addPos c.south.foreign p
    else dropPos c.south.foreign p := by
  unfold Part.setForeign
  dsimp only
  split
  · rfl
  · split <;> simp

theorem Part.setForeign_own {p : Nat} (range : p ∈ allPositions) (b : Bool) (f : Forming) (c : Part) :
    hasPos (c.setForeign p b f).south.foreign p = b := by
  obtain ⟨low, high⟩ := mem_allPositions_iff.mp range
  rw [Part.setForeign_foreign]
  split
  next same => exact same
  next =>
    cases b
    · simp [hasPos_dropPos _ low high low]
    · simp [hasPos_addPos _ low high low]

theorem Part.setForeign_other {p n : Nat} (range : p ∈ allPositions) (other : n ≠ p) (low : 1 ≤ n) (high : n ≤ 16)
    (b : Bool) (f : Forming) (c : Part) :
    hasPos (c.setForeign n b f).south.foreign p = hasPos c.south.foreign p := by
  obtain ⟨low', -⟩ := mem_allPositions_iff.mp range
  rw [Part.setForeign_foreign]
  split
  next same => rfl
  next =>
    cases b
    · simp [hasPos_dropPos _ low high low', other.symm]
    · simp [hasPos_addPos _ low high low', other.symm]

theorem Part.lostPosition_missed (p : Nat) (f : Forming) (c : Part) :
    (c.lostPosition p f).sched.missed = setPos c.sched.missed p c.store.tables.header.missedLimit := by
  unfold Part.lostPosition
  dsimp only
  split
  · simp [Part.tables]
  · rfl

theorem Part.lostPosition_foreign (p : Nat) (f : Forming) (c : Part) :
    (c.lostPosition p f).south.foreign = c.south.foreign := by simp

/-- What a check of one position sees: its map entry and its stored reply. -/
def Part.verdictAt (p : Nat) (c : Part) : Verdict :=
  verdict (c.store.tables.byPosition p) (atPos c.south.replies none p)

theorem Part.checkPosition_eq (p : Nat) (f : Forming) (c : Part) : c.checkPosition p f =
    if c.verdictAt p = .lost then c.lostPosition p f
    else c.setForeign p (decide (c.verdictAt p = .foreign ∨ c.verdictAt p = .extra)) f := by
  unfold Part.checkPosition Part.verdictAt Part.tables
  cases verdict (c.store.tables.byPosition p) (atPos c.south.replies none p) <;> rfl

theorem Part.verdictAt_of_reads (reads : c.Reads d) (p : Nat) : d.verdictAt p = c.verdictAt p := by
  unfold Part.verdictAt
  rw [reads.1, reads.2]

theorem Part.Reads.checkPosition (reads : c.Reads d) (p : Nat) (f : Forming) : c.Reads (d.checkPosition p f) :=
  ⟨Eq.trans (by simp) reads.1, Eq.trans (by simp) reads.2⟩

theorem Part.identityCheck_eq (f : Forming) (c : Part) :
    c.identityCheck f = allPositions.foldl (fun c p => c.checkPosition p f) c := rfl

theorem Part.identityCheck_missed {p : Nat} (range : p ∈ allPositions) (f : Forming) (c : Part) :
    atPos (c.identityCheck f).sched.missed 0 p =
      if c.verdictAt p = .lost then c.store.tables.header.missedLimit else atPos c.sched.missed 0 p := by
  obtain ⟨low, high⟩ := mem_allPositions_iff.mp range
  have own (d : Part) (reads : c.Reads d) : atPos (d.checkPosition p f).sched.missed 0 p =
      if c.verdictAt p = .lost then c.store.tables.header.missedLimit else atPos d.sched.missed 0 p := by
    rw [Part.checkPosition_eq, Part.verdictAt_of_reads reads]
    split
    · rw [Part.lostPosition_missed, reads.1]
      exact atPos_setPos_self _ _ _ low high
    · rw [Part.setForeign_missed]
  have others (d : Part) (n : Nat) (other : n ≠ p) :
      atPos (d.checkPosition n f).sched.missed 0 p = atPos d.sched.missed 0 p := by
    rw [Part.checkPosition_eq]
    split
    · rw [Part.lostPosition_missed]
      exact atPos_setPos_of_ne _ _ _ other.symm
    · rw [Part.setForeign_missed]
  rw [Part.identityCheck_eq]
  exact foldl_at (step := fun c p => c.checkPosition p f) (fun c p => atPos c.sched.missed 0 p) c.Reads
    (fun m => if c.verdictAt p = .lost then c.store.tables.header.missedLimit else m)
    (fun d n reads => reads.checkPosition n f) own (fun d n _ => others d n) allPositions_nodup range c ⟨rfl, rfl⟩

theorem Part.identityCheck_foreign {p : Nat} (range : p ∈ allPositions) (f : Forming) (c : Part) :
    hasPos (c.identityCheck f).south.foreign p =
      if c.verdictAt p = .lost then hasPos c.south.foreign p
      else decide (c.verdictAt p = .foreign ∨ c.verdictAt p = .extra) := by
  have own (d : Part) (reads : c.Reads d) : hasPos (d.checkPosition p f).south.foreign p =
      if c.verdictAt p = .lost then hasPos d.south.foreign p
      else decide (c.verdictAt p = .foreign ∨ c.verdictAt p = .extra) := by
    rw [Part.checkPosition_eq, Part.verdictAt_of_reads reads]
    split
    · rw [Part.lostPosition_foreign]
    · exact Part.setForeign_own range ..
  have others (d : Part) (n : Nat) (inside : n ∈ allPositions) (other : n ≠ p) :
      hasPos (d.checkPosition n f).south.foreign p = hasPos d.south.foreign p := by
    obtain ⟨low, high⟩ := mem_allPositions_iff.mp inside
    rw [Part.checkPosition_eq]
    split
    · rw [Part.lostPosition_foreign]
    · exact Part.setForeign_other range other low high ..
  rw [Part.identityCheck_eq]
  exact foldl_at (step := fun c p => c.checkPosition p f) (fun c p => hasPos c.south.foreign p) c.Reads
    (fun b => if c.verdictAt p = .lost then b else decide (c.verdictAt p = .foreign ∨ c.verdictAt p = .extra))
    (fun d n reads => reads.checkPosition n f) own others allPositions_nodup range c ⟨rfl, rfl⟩

end Sys2Proof.Machine
end

section
/-!
# The end of a switch's load (O51)

Objects, counts and verdicts under the new tables, and then the effective action, once.
-/
namespace Sys2Proof.Machine

variable {c d : Part}

/-! ### The effective action, formed -/

theorem Part.refreshAction_effective (c : Part) : c.refreshAction.interlock.effective = c.effectiveAction := by
  rw [Part.refreshAction_interlock]

theorem Part.refreshAction_conn_of_opened (opened : c.seq.conn = .opened) : c.refreshAction.seq.conn =
    if c.effectiveAction = .lockout ∧ c.interlock.effective ≠ .lockout then .lockedOut else .opened := by
  have answer : c.refreshAction.seq = c.ordered.seq := congrArg (·.seq) (Part.refreshAction_ordered c)
  rw [answer]
  unfold Part.ordered
  split
  next same =>
    rw [if_neg fun new => new.2 (same ▸ new.1)]
    exact opened
  next new =>
    by_cases lockout : c.effectiveAction = .lockout
    · rw [if_pos ⟨lockout, fun old => new (lockout.trans old.symm)⟩,
        Part.takeAction_of_opened (c := { c with interlock.effective := c.effectiveAction }) opened lockout]
      exact (Part.enterLockedOut_shows _ _).1
    · rw [if_neg fun h => lockout h.1, Part.takeAction_of_quiet (c := { c with interlock.effective := c.effectiveAction })
        (.inr (.inr (.inl ⟨opened, lockout⟩)))]
      exact opened

theorem Part.effectiveAction_of_no_table (empty : c.store.tables.interlock = none) : c.effectiveAction ≠ .lockout := by
  unfold Part.effectiveAction
  rw [empty]
  dsimp only
  split <;> nofun

theorem Part.effectiveAction_of_active {k : FaultClass} (empty : c.store.tables.interlock = none)
    (active : c.classActive k = true) : c.effectiveAction = .report := by
  have found : ¬ c.activeClasses.isEmpty = true := fun none_active => by
    have member := Part.mem_activeClasses_iff.mpr active
    rw [List.isEmpty_iff.mp none_active] at member
    cases member
  unfold Part.effectiveAction
  rw [empty]
  exact if_neg found

theorem Part.eventClass_of_quiet {k : FaultClass} (quiet : c.Quiet k) : c.eventClass k =
    let recorded := c.recordTrip (packKey k) c.now none
    Part.refreshAction { recorded with interlock.events := recorded.interlock.events ||| k.bit } := by
  unfold Part.eventClass
  dsimp only
  split
  · rfl
  · exact Part.notice_of_quiet (by simpa [Part.Quiet] using quiet)

/-! ### Objects, counts and verdicts under the new tables (R173) -/

theorem atPos_replicate {α : Type} (x : α) (p : Nat) : atPos (Vector.replicate 16 x) x p = x := by
  unfold atPos
  split
  · rfl
  · by_cases inside : p - 1 < 16 <;> simp [Vector.getD, inside]

/-- The part whose objects and counts a table switch has returned to their first values. -/
def Part.remapped (c : Part) : Part :=
  { c.removeRecords.objectsToNormal .later with sched.slotMiss := Vector.replicate 24 0 }

theorem Part.objectsToNormal_later (c : Part) : (c.objectsToNormal .later).seq = c.seq ∧
    (c.objectsToNormal .later).interlock.effective = c.interlock.effective := by
  simp [Part.objectsToNormal, Part.formAction]

theorem Part.switchTables_eq (c : Part) : c.switchTables = (c.remapped.identityCheck .later).refreshAction := rfl

theorem Part.verdictAt_lost_iff {p : Nat} : c.verdictAt p = .lost ↔
    (c.store.tables.byPosition p).isSome ∧ atPos c.south.replies none p = none := by
  unfold Part.verdictAt verdict
  cases c.store.tables.byPosition p <;> cases atPos c.south.replies none p <;> simp
  split <;> simp

/-- What a table switch shows before its run and its report. -/
structure Switched (c t : Part) : Prop where
  channels : t.eval.channels = Vector.replicate 16 (Vector.replicate 16 ChanState.normal)
  sum : t.eval.sum = ChanState.normal
  sense : t.eval.sense = Vector.replicate 16 ObjState.normal
  slotMiss : t.sched.slotMiss = Vector.replicate 24 0
  missed : ∀ p ∈ allPositions, atPos t.sched.missed 0 p =
    if (t.store.tables.byPosition p).isSome ∧ atPos c.south.replies none p = none then t.store.tables.header.missedLimit
    else 0
  conn : c.seq.conn = .opened → t.seq.conn =
    if t.interlock.effective = .lockout ∧ c.interlock.effective ≠ .lockout then .lockedOut else .opened
  formed : t.formed
  levelled : t.levelled

theorem Part.switchTables_switched (c : Part) : Switched c c.switchTables := by
  have checks := Part.identityCheck_checks .later c.remapped
  obtain ⟨channels, sum, sense⟩ := checks.objects
  obtain ⟨seq, effective⟩ := checks.later rfl
  obtain ⟨seq', effective'⟩ := Part.objectsToNormal_later c.removeRecords
  have conn : (c.remapped.identityCheck .later).seq.conn = c.seq.conn := congrArg (·.conn) (seq.trans seq')
  rw [Part.switchTables_eq]
  constructor
  · simpa using channels.trans (Part.objectsToNormal_channels _ .later)
  · simpa using sum.trans (by simp [Part.remapped, Part.objectsToNormal])
  · simpa using sense.trans (by simp [Part.remapped, Part.objectsToNormal])
  · simp [Part.remapped]
  · intro p range
    have zero : atPos c.remapped.sched.missed 0 p = 0 := by
      have reset : c.remapped.sched.missed = Vector.replicate 16 0 := Part.objectsToNormal_missed c.removeRecords .later
      rw [reset, atPos_replicate]
    have verdict := Part.identityCheck_missed range .later c.remapped
    rw [zero] at verdict
    have tables : c.remapped.store.tables = c.store.tables := by simp [Part.remapped]
    have replies : c.remapped.south.replies = c.south.replies := by simp [Part.remapped]
    simp only [Part.verdictAt_lost_iff, tables, replies] at verdict
    simpa [tables] using verdict
  · intro opened
    rw [Part.refreshAction_conn_of_opened (conn.trans opened), Part.refreshAction_effective, effective]
    rw [show c.remapped.interlock.effective = c.interlock.effective from effective']
  · exact Part.refreshAction_formed _
  · exact Part.refreshAction_levelled _

/-- In ACTIVE nothing of the switch reaches the link, the run or the power state. -/
theorem Part.switchTables_quiet (awake : c.power.state ≠ .patrol) :
    c.switchTables.south = { c.south with foreign := c.switchTables.south.foreign } ∧
    c.switchTables.sched.run = c.sched.run := by
  have checks := Part.identityCheck_checks .later c.remapped
  have awake' : c.remapped.power.state ≠ .patrol := by simpa [Part.remapped] using awake
  obtain ⟨-, south, run, -⟩ := checks.quiet (.inl awake') (.inl awake')
  have same : c.remapped.south = c.south := by simp [Part.remapped]
  rw [Part.switchTables_eq]
  constructor
  · have kept : (c.remapped.identityCheck .later).refreshAction.south = (c.remapped.identityCheck .later).south := by simp
    rw [kept, south, same]
  · simpa [Part.remapped] using run

theorem Part.startNormalRun_hold (released : c.sched.hold = false) (done : c.sched.holdInEffect = false) :
    (c.startNormalRun false).sched.hold = false ∧ (c.startNormalRun false).sched.holdInEffect = false := by
  unfold Part.startNormalRun
  split
  · by_cases clear : c.south.sampling = []
    · rw [Part.startRun_released .normal clear]
      exact ⟨rfl, rfl⟩
    · rw [Part.startRun_of_waiting .normal false clear]
      exact ⟨rfl, rfl⟩
  · exact ⟨released, done⟩

/-! ### The end of the load (R172 to R174) -/

/-- The part whose tables a switch has replaced. -/
def Part.replaced (tables : Tables) (k : StoreState) (version : Option Nat) (c : Part) : Part :=
  { c with store.tables := tables, store.state := k, store.versionInUse := version }

/-- The part with the tables of the new bank, before anything else of a sound switch. -/
def Part.soundly (n : BankName) (c : Part) : Part :=
  c.replaced (loadTables (c.store.bank n).bytes) .configured (some c.store.copy.floor)

/-- The part without tables, before anything else of an unsound switch. -/
def Part.unsoundly (c : Part) : Part := c.replaced Tables.empty .unconfigured none

/-- A sound switch up to its run. -/
def Part.reloaded (n : BankName) (c : Part) : Part :=
  { (c.soundly n).switchTables.handFill with sched.hold := false, sched.holdInEffect := false }

/-- A sound switch up to its report. -/
def Part.switchedRun (n : BankName) (c : Part) : Part := (c.reloaded n).startNormalRun false

/-- An unsound switch up to its event. -/
def Part.stopped (c : Part) : Part :=
  Part.endRun
    { c.unsoundly.switchTables.handFill with sched.hold := false, sched.holdInEffect := false, sched.state := .stopped }

/-- The end of the update and the report of it. -/
def Part.closeSwitch (o : UpdateOutcome) (n : BankName) (c : Part) : Part :=
  Part.updateReport o n { c with store.update := .idle, store.switch := .none, store.abortPending := false }

theorem Part.switchDone_eq (n : BankName) (c : Part) : c.switchDone n =
    (c.switchedRun n).closeSwitch (.switched (c.switchedRun n).store.copy.floor) n := by
  unfold Part.switchDone Part.closeSwitch Part.switchedRun Part.reloaded Part.soundly Part.replaced
  with_reducible rfl

theorem Part.loadDone_of_early {due : Time} {n : BankName} (loading : c.store.switch = .loading due)
    (active : c.store.copy.active = some n) (early : atOrAfter c.sched.packTime due = false) : c.loadDone = c := by
  simp only [Part.loadDone, loading, active, Part.now, early, Bool.false_eq_true, if_false]

theorem Part.loadDone_of_due {due : Time} {n : BankName} (loading : c.store.switch = .loading due)
    (active : c.store.copy.active = some n) (now : atOrAfter c.sched.packTime due = true) : c.loadDone =
      if crcOk (c.store.bank n).bytes = true then c.switchDone n else c.switchFailed n := by
  simp only [Part.loadDone, loading, active, Part.now, now, if_true]

/-- What the end of a load shows, sound and unsound, before the end of the update and its report. -/
structure Loaded (c r : Part) : Prop where
  active : r.store.copy.active = c.store.copy.active
  floor : r.store.copy.floor = c.store.copy.floor
  banks : r.store.bankA = c.store.bankA ∧ r.store.bankB = c.store.bankB
  router : r.router = c.router
  packTime : r.sched.packTime = c.sched.packTime
  mgmt : r.mgmt = c.mgmt
  hold : r.sched.hold = false ∧ r.sched.holdInEffect = false
  slotMiss : r.sched.slotMiss = Vector.replicate 24 0
  channels : r.eval.channels = Vector.replicate 16 (Vector.replicate 16 ChanState.normal)
  sum : r.eval.sum = ChanState.normal
  sense : r.eval.sense = Vector.replicate 16 ObjState.normal
  missed : ∀ p ∈ allPositions, atPos r.sched.missed 0 p =
    if (r.store.tables.byPosition p).isSome ∧ atPos c.south.replies none p = none then r.store.tables.header.missedLimit
    else 0
  formed : r.formed
  levelled : r.levelled

/-- A move of the run and the fill after the switch keeps what the switch shows. -/
theorem Switched.loaded {r : Part} (h : Switched c d) (store : r.store = d.store := by simp)
    (eval : r.eval = d.eval := by simp) (interlock : r.interlock = d.interlock := by simp)
    (seq : r.seq = d.seq := by simp) (power : r.power = d.power := by simp)
    (slotMiss : r.sched.slotMiss = d.sched.slotMiss := by simp) (missed : r.sched.missed = d.sched.missed := by simp) :
    Switched c r := by
  refine ⟨?_, ?_, ?_, ?_, ?_, ?_, ?_, ?_⟩
  · rw [eval, h.channels]
  · rw [eval, h.sum]
  · rw [eval, h.sense]
  · rw [slotMiss, h.slotMiss]
  · rw [store, missed]
    exact h.missed
  · rw [seq, interlock]
    exact h.conn
  · unfold Part.formed
    rw [interlock, show r.effectiveAction = d.effectiveAction from Part.effectiveAction_congr (by rw [interlock])
      (by rw [interlock]) (by rw [interlock]) (by rw [power]) (by rw [store])]
    exact h.formed
  · unfold Part.levelled Part.faultLevel
    rw [interlock, seq]
    exact h.levelled

theorem Part.switchedRun_switched (n : BankName) (c : Part) : Switched (c.soundly n) (c.switchedRun n) :=
  (Part.switchTables_switched (c.soundly n)).loaded (by simp [Part.switchedRun, Part.reloaded]) (by simp [Part.switchedRun, Part.reloaded])
    (by simp [Part.switchedRun, Part.reloaded]) (by simp [Part.switchedRun, Part.reloaded]) (by simp [Part.switchedRun, Part.reloaded]) (by simp [Part.switchedRun, Part.reloaded])
    (by simp [Part.switchedRun, Part.reloaded])

theorem Part.stopped_switched (c : Part) : Switched c.unsoundly c.stopped :=
  (Part.switchTables_switched c.unsoundly).loaded (by simp [Part.stopped]) (by simp [Part.stopped])
    (by simp [Part.stopped]) (by simp [Part.stopped]) (by simp [Part.stopped]) (by simp [Part.stopped])
    (by simp [Part.stopped])

theorem Part.switchedRun_loaded (n : BankName) (c : Part) : Loaded c (c.switchedRun n) where
  active := by simp [Part.switchedRun, Part.reloaded, Part.soundly, Part.replaced]
  floor := by simp [Part.switchedRun, Part.reloaded, Part.soundly, Part.replaced]
  banks := by simp [Part.switchedRun, Part.reloaded, Part.soundly, Part.replaced]
  router := by simp [Part.switchedRun, Part.reloaded, Part.soundly, Part.replaced]
  packTime := by simp [Part.switchedRun, Part.reloaded, Part.soundly, Part.replaced]
  mgmt := by simp [Part.switchedRun, Part.reloaded, Part.soundly, Part.replaced]
  hold := by
    unfold Part.switchedRun
    exact Part.startNormalRun_hold rfl rfl
  slotMiss := (c.switchedRun_switched n).slotMiss
  channels := (c.switchedRun_switched n).channels
  sum := (c.switchedRun_switched n).sum
  sense := (c.switchedRun_switched n).sense
  missed := by
    have missed := (c.switchedRun_switched n).missed
    rw [show (c.soundly n).south = c.south from rfl] at missed
    exact missed
  formed := (c.switchedRun_switched n).formed
  levelled := (c.switchedRun_switched n).levelled

/-- An unsound load leaves no tables, so its event escalates nothing. -/
theorem Part.stopped_quiet (k : FaultClass) (c : Part) : c.stopped.Quiet k := by
  have empty : c.stopped.store.tables = Tables.empty := by simp [Part.stopped, Part.unsoundly, Part.replaced]
  right
  rw [empty]
  rfl

/-- An unsound switch up to its report. -/
def Part.failed (c : Part) : Part := c.stopped.eventClass .configSwitch

theorem Part.failed_eq (c : Part) : c.failed =
    let recorded := c.stopped.recordTrip (packKey .configSwitch) c.stopped.now none
    Part.refreshAction
      { recorded with interlock.events := recorded.interlock.events ||| FaultClass.configSwitch.bit } :=
  Part.eventClass_of_quiet (c.stopped_quiet .configSwitch)

theorem Part.switchFailed_eq (n : BankName) (c : Part) :
    c.switchFailed n = c.failed.closeSwitch .switchFailed n := by
  unfold Part.switchFailed Part.closeSwitch Part.failed Part.stopped Part.unsoundly Part.replaced
  with_reducible rfl

theorem Part.failed_store (c : Part) : c.failed.store.state = .unconfigured ∧ c.failed.store.tables = Tables.empty ∧
    c.failed.store.versionInUse = none ∧ c.failed.sched.state = .stopped := by
  simp [Part.failed, Part.stopped, Part.endRun, Part.unsoundly, Part.replaced]

theorem Part.failed_run (c : Part) : c.failed.sched.run = none ∧ c.failed.sched.hold = false ∧
    c.failed.sched.holdInEffect = false := by
  rw [Part.failed_eq]
  simp [Part.stopped, Part.endRun]

theorem Part.failed_events (c : Part) : hasClass c.failed.interlock.events .configSwitch = true := by
  have raised : c.failed.interlock.events = c.stopped.interlock.events ||| FaultClass.configSwitch.bit := by
    rw [Part.failed_eq]
    simp
  rw [raised, hasClass_set]
  simp

theorem Part.failed_conn (opened : c.seq.conn = .opened) : c.failed.seq.conn = .opened := by
  have tables : c.stopped.store.tables.interlock = none := by
    rw [show c.stopped.store.tables = Tables.empty by simp [Part.stopped, Part.endRun, Part.unsoundly, Part.replaced]]
    rfl
  have still : c.stopped.seq.conn = .opened := by
    have formed : c.stopped.interlock.effective = c.stopped.effectiveAction := c.stopped_switched.formed
    have conn := c.stopped_switched.conn opened
    rwa [formed, if_neg fun new => Part.effectiveAction_of_no_table tables new.1] at conn
  rw [Part.failed_eq, Part.refreshAction_conn_of_opened (by simpa using still),
    if_neg fun new => Part.effectiveAction_of_no_table (by simpa using tables) new.1]

theorem Part.failed_loaded (c : Part) : Loaded c c.failed := by
  have switched := c.stopped_switched
  obtain ⟨-, hold⟩ := c.failed_run
  refine ⟨?_, ?_, ?_, ?_, ?_, ?_, hold, ?_, ?_, ?_, ?_, ?_, ?_, ?_⟩
  · simp [Part.failed, Part.stopped, Part.unsoundly, Part.replaced]
  · simp [Part.failed, Part.stopped, Part.unsoundly, Part.replaced]
  · simp [Part.failed, Part.stopped, Part.unsoundly, Part.replaced]
  · simp [Part.failed, Part.stopped, Part.unsoundly, Part.replaced]
  · simp [Part.failed, Part.stopped, Part.unsoundly, Part.replaced]
  · simp [Part.failed, Part.stopped, Part.unsoundly, Part.replaced]
  · simpa [Part.failed] using switched.slotMiss
  · simpa [Part.failed] using switched.channels
  · simpa [Part.failed] using switched.sum
  · simpa [Part.failed] using switched.sense
  · have missed := switched.missed
    rw [show c.unsoundly.south = c.south from rfl] at missed
    simpa [Part.failed] using missed
  · rw [Part.failed_eq]
    exact Part.refreshAction_formed _
  · rw [Part.failed_eq]
    exact Part.refreshAction_levelled _

theorem Part.reloaded_sched (n : BankName) (c : Part) : (c.reloaded n).sched.state = c.sched.state ∧
    (c.reloaded n).sched.packTime = c.sched.packTime := by
  simp [Part.reloaded, Part.soundly, Part.replaced]

theorem Part.reloaded_quiet {n : BankName} (awake : c.power.state = .active) : (c.reloaded n).south =
    { c.south with foreign := (c.reloaded n).south.foreign } ∧ (c.reloaded n).sched.run = c.sched.run := by
  obtain ⟨south, run⟩ := Part.switchTables_quiet (c := c.soundly n)
    (fun patrol => PowerState.noConfusion (awake.symm.trans patrol))
  have south' : (c.reloaded n).south = (c.soundly n).switchTables.south := by simp [Part.reloaded]
  have run' : (c.reloaded n).sched.run = (c.soundly n).switchTables.sched.run := by simp [Part.reloaded, Part.handFill]
  rw [south', run']
  exact ⟨south, run⟩

theorem Part.switchedRun_of_stopped {n : BankName} (awake : c.power.state = .active) (still : c.sched.state = .stopped) :
    (c.switchedRun n).sched.run = c.sched.run := by
  have off : (c.reloaded n).sched.state ≠ .running := by
    rw [(c.reloaded_sched n).1, still]
    nofun
  rw [Part.switchedRun, Part.startNormalRun, if_neg off]
  exact (Part.reloaded_quiet awake).2

theorem Part.switchedRun_of_running {n : BankName} (awake : c.power.state = .active)
    (running : c.sched.state = .running) (clear : c.south.sampling = []) :
    (c.switchedRun n).south.sampling = (if c.south.link = .up then [.sync c.sched.packTime] else []) ∧
    (c.switchedRun n).sched.run = some
      { kind := .normal, begun := true, cycle := 0, cycleStart := c.sched.packTime, launched := [],
        cycles := ((loadTables (c.store.bank n).bytes).params.power.map (fun p => p.cycles)).getD 0,
        launchEnded := false } := by
  obtain ⟨south, -⟩ := Part.reloaded_quiet (n := n) awake
  obtain ⟨state, time⟩ := c.reloaded_sched n
  have sampling : (c.reloaded n).south.sampling = [] := (congrArg South.sampling south).trans clear
  have link : (c.reloaded n).south.link = c.south.link := (congrArg South.link south).trans rfl
  have tables : (c.reloaded n).store.tables = loadTables (c.store.bank n).bytes := by
    simp [Part.reloaded, Part.soundly, Part.replaced]
  rw [Part.switchedRun, Part.startNormalRun_of_running (state.trans running), Part.startRun_released .normal sampling,
    ← time, ← link, ← tables]
  generalize c.reloaded n = r
  exact ⟨rfl, rfl⟩

theorem Part.closeSwitch_reported (o : UpdateOutcome) (n : BankName) (c : Part) : (c.closeSwitch o n).reported
    (updatePayload o n .idle c.store.state c.store.copy.floor) := Part.offerReport_reported ..

theorem Part.closeSwitch_formed (o : UpdateOutcome) (n : BankName) (formed : c.formed) :
    (c.closeSwitch o n).interlock.effective = (c.closeSwitch o n).effectiveAction := by
  have same : (c.closeSwitch o n).effectiveAction = c.effectiveAction := by
    apply Part.effectiveAction_congr <;> simp [Part.closeSwitch]
  rw [same, ← show c.interlock.effective = c.effectiveAction from formed]
  simp [Part.closeSwitch]

theorem Part.closeSwitch_levelled (o : UpdateOutcome) (n : BankName) (levelled : c.levelled) :
    (c.closeSwitch o n).interlock.faultOut =
      decide (3 ≤ (c.closeSwitch o n).interlock.effective.code ∨ (c.closeSwitch o n).seq.conn = .lockedOut) := by
  have interlock : (c.closeSwitch o n).interlock = c.interlock := by simp [Part.closeSwitch]
  have seq : (c.closeSwitch o n).seq = c.seq := by simp [Part.closeSwitch]
  rw [interlock, seq, show c.interlock.faultOut = c.faultLevel from levelled, Part.faultLevel, Bool.decide_or]
  rfl

/-- Settles O51: the switch's tables and objects by `Part.switchTables_switched`, and then the run, or the event of a
failed switch, and the report. -/
theorem loadEndsTheSwitch : Obligations.LoadEndsTheSwitch := by
  intro c q due n loading active m ended
  have effect : exec .tableLoadComplete ⟨c, q⟩ = .next ⟨c.loadDone, q⟩ := rfl
  have close {r : Part} (o : UpdateOutcome) (h : Loaded c r) : ended (r.closeSwitch o n) := by
    refine ⟨?_, ?_, ?_, ?_, ?_, ?_, ?_, ?_, ?_, ?_, ?_, ?_, ?_, ?_, ?_, ?_, ?_, Part.closeSwitch_formed o n h.formed,
      Part.closeSwitch_levelled o n h.levelled⟩
    · simp [Part.closeSwitch]
    · simp [Part.closeSwitch]
    · simp [Part.closeSwitch]
    · simpa [Part.closeSwitch] using h.hold.1
    · simpa [Part.closeSwitch] using h.hold.2
    · simpa [Part.closeSwitch] using h.slotMiss
    · simpa [Part.closeSwitch] using h.router
    · simpa [Part.closeSwitch] using h.active.trans active
    · simpa [Part.closeSwitch] using h.floor
    · simpa [Part.closeSwitch] using h.banks.1
    · simpa [Part.closeSwitch] using h.banks.2
    · simpa [Part.closeSwitch, ChanState.normal, ObjState.normal] using h.channels
    · simpa [Part.closeSwitch, ChanState.normal, ObjState.normal] using h.sum
    · simpa [Part.closeSwitch, ChanState.normal, ObjState.normal] using h.sense
    · simpa [Part.closeSwitch] using h.missed
    · simpa [Part.closeSwitch] using h.packTime
    · simpa [Part.closeSwitch] using h.mgmt
  refine ⟨fun early => ?_, fun now sound => ?_, fun now unsound => ?_⟩
  · exact exec_eq_next effect (Part.loadDone_of_early loading active early)
  · have done := (Part.loadDone_of_due loading active now).trans (if_pos sound)
    rw [done, Part.switchDone_eq] at effect
    have loaded := c.switchedRun_loaded n
    have switched := c.switchedRun_switched n
    have state : (c.switchedRun n).store.state = .configured := by
      simp [Part.switchedRun, Part.reloaded, Part.soundly, Part.replaced]
    have reported := (c.switchedRun n).closeSwitch_reported (.switched (c.switchedRun n).store.copy.floor) n
    rw [state, loaded.floor] at reported
    rw [loaded.floor] at effect
    have interlock (o : UpdateOutcome) : ((c.switchedRun n).closeSwitch o n).interlock = (c.switchedRun n).interlock := by
      simp [Part.closeSwitch]
    have run (o : UpdateOutcome) : ((c.switchedRun n).closeSwitch o n).sched.run = (c.switchedRun n).sched.run := by
      simp [Part.closeSwitch]
    refine ⟨_, effect, close _ loaded, ?_, ?_, ?_, ?_, reported, fun opened => ?_, fun awake still => ?_,
      fun awake running clear => ?_⟩
    · simpa [Part.closeSwitch] using state
    · simp [Part.closeSwitch, Part.switchedRun, Part.reloaded, Part.soundly, Part.replaced, m]
    · simp [Part.closeSwitch, Part.switchedRun, Part.reloaded, Part.soundly, Part.replaced]
    · simp [Part.closeSwitch, Part.switchedRun, Part.reloaded, Part.soundly, Part.replaced]
    · have conn := switched.conn opened
      have seq (o : UpdateOutcome) : ((c.switchedRun n).closeSwitch o n).seq = (c.switchedRun n).seq := by
        simp [Part.closeSwitch]
      rw [show (c.soundly n).interlock = c.interlock from rfl] at conn
      rw [interlock, seq]
      exact conn
    · rw [run, Part.switchedRun_of_stopped awake still]
    · have south (o : UpdateOutcome) : ((c.switchedRun n).closeSwitch o n).south = (c.switchedRun n).south := by
        simp [Part.closeSwitch]
      rw [run, south]
      exact Part.switchedRun_of_running awake running clear
  · have done := (Part.loadDone_of_due loading active now).trans (if_neg (by rw [unsound]; nofun))
    rw [done, Part.switchFailed_eq] at effect
    have loaded := c.failed_loaded
    obtain ⟨state, tables, version, stopped⟩ := c.failed_store
    have reported := c.failed.closeSwitch_reported .switchFailed n
    rw [state, loaded.floor] at reported
    have active_event : c.failed.classActive .configSwitch = true := (Part.classActive_of_event rfl).trans c.failed_events
    have report : c.failed.effectiveAction = .report := Part.effectiveAction_of_active (by rw [tables]; rfl) active_event
    have formed : c.failed.interlock.effective = .report := Eq.trans loaded.formed report
    refine ⟨_, effect, close _ loaded, ?_, ?_, ?_, ?_, fun _ => ?_, ?_, ?_, reported, fun opened => ?_⟩
    · simpa [Part.closeSwitch] using state
    · simpa [Part.closeSwitch] using tables
    · simpa [Part.closeSwitch] using version
    · simpa [Part.closeSwitch] using stopped
    · simpa [Part.closeSwitch] using c.failed_run.1
    · simpa [Part.closeSwitch] using c.failed_events
    · simpa [Part.closeSwitch] using formed
    · simpa [Part.closeSwitch] using Part.failed_conn opened

end Sys2Proof.Machine
end

section
/-!
# Return from PATROL, the loss of the link in PATROL, and the close of the enumeration window (O39)
-/
namespace Sys2Proof.Machine

variable {c d : Part} {q : List Instr}

/-! ### What an escalation leaves (R154) -/

/-- What the part shows once a patrol has ended in ACTIVE. -/
structure Returned (c t : Part) : Prop where
  state : t.power.state = .active
  step : t.power.step = .none
  causes : t.power.causes = 0
  escalating : t.power.escalating = none
  hostWake : t.power.hostWake = true
  patrols : t.power.patrols = c.power.patrols
  sweeps : ∀ w ∈ t.sched.sweeps, w.runKind = .normal
  supervision : t.interlock.supervision =
    some (c.sched.packTime + BitVec.ofNat 32 (c.store.tables.params.supervisionMs * 1000))
  link : c.power.step ≠ .returning → t.south.link = .down ∨ t.south.link = c.south.link
  run : c.sched.state = .running → ∃ r, t.sched.run = some r ∧ r.kind = .normal

theorem Part.supercycle_run (t : Time) (c : Part) : (c.supercycle t).sched.run = c.sched.run := by
  unfold Part.supercycle Part.syncDue
  split
  · rfl
  · split <;> rfl

theorem Part.startRun_run (kind : RunKind) (hold : Bool) (c : Part) :
    ∃ begun, (c.startRun kind hold).sched.run = some (c.newRun kind begun) := by
  by_cases clear : c.south.sampling = []
  · exact ⟨true, by rw [Part.startRun_of_clear kind hold clear, Part.supercycle_run]⟩
  · exact ⟨false, by rw [Part.startRun_of_waiting kind hold clear]⟩

theorem Part.startNormalRun_run (running : c.sched.state = .running) (hold : Bool) :
    ∃ r, (c.startNormalRun hold).sched.run = some r ∧ r.kind = .normal := by
  obtain ⟨begun, run⟩ := Part.startRun_run .normal hold c
  exact ⟨_, by rw [Part.startNormalRun_of_running running, run], rfl⟩

theorem Part.dropSampling_sweeps_subset (c : Part) : ∀ w ∈ c.dropSampling.sched.sweeps, w ∈ c.sched.sweeps := by
  intro w member
  unfold Part.dropSampling at member
  rw [Part.settleRun_sweeps, Part.abortSweeps_sweeps] at member
  exact List.mem_of_mem_filter member

theorem Part.endPatrol_sweeps (w : WakeCause) (cls : Option FaultClass) (c : Part) :
    ∀ s ∈ (c.endPatrol w cls).sched.sweeps, s.runKind = .normal := by
  have swept : (c.endPatrol w cls).sched.sweeps = c.sched.sweeps.filter (fun s => !decide (s.runKind = .patrol)) :=
    Part.abortSweeps_sweeps ..
  intro s member
  rw [swept] at member
  have kind := (List.mem_filter.mp member).2
  cases runKind : s.runKind <;> simp [runKind] at kind ⊢

theorem Part.endEscalation_sweeps (c : Part) : c.endEscalation.sched.sweeps = c.sched.sweeps := by
  simp [Part.endEscalation]

theorem Part.endPatrol_supervision (w : WakeCause) (cls : Option FaultClass) (c : Part) :
    (c.endPatrol w cls).interlock.supervision =
      some (c.sched.packTime + BitVec.ofNat 32 (c.store.tables.params.supervisionMs * 1000)) := by
  simp [Part.endPatrol, Part.restartSupervision, Part.now, Part.tables, laterMs, later]

theorem Part.escalate_link (w : WakeCause) (cls : Option FaultClass) (going : c.power.step ≠ .returning) :
    (c.escalate w cls).south.link = c.south.link := by
  rw [Part.escalate_south w cls (fun returns => going returns.1)]

theorem Part.escalate_returned (w : WakeCause) (cls : Option FaultClass) (c : Part) :
    Returned c (c.escalate w cls) := by
  have power := Part.escalate_power w cls c
  have told (d : Part) : d.endEscalation.interlock = d.interlock := by simp [Part.endEscalation]
  have run (d : Part) (running : d.sched.state = .running) :
      ∃ r, d.endEscalation.sched.run = some r ∧ r.kind = .normal :=
    Part.startNormalRun_run (by simpa using running) _
  have state : (c.endPatrol w cls).sched.state = c.sched.state := by simp [Part.endPatrol]
  refine ⟨?_, ?_, ?_, ?_, ?_, ?_, ?_, ?_, fun going => .inr (Part.escalate_link w cls going), fun running => ?_⟩
  · rw [power]
  · rw [power]
  · rw [power]
  · rw [power]
  · rw [power]
  · rw [power]
  · rw [Part.escalate_eq]
    split <;> rw [Part.endEscalation_sweeps]
    · exact fun s member => Part.endPatrol_sweeps w cls c s (Part.dropSampling_sweeps_subset _ s member)
    · exact Part.endPatrol_sweeps w cls c
  · rw [Part.escalate_eq]
    split <;> rw [told]
    · simpa using Part.endPatrol_supervision w cls c
    · exact Part.endPatrol_supervision w cls c
  · rw [Part.escalate_eq]
    split
    · exact run _ (by simpa using state.trans running)
    · exact run _ (state.trans running)

/-! ### The loss of the link in PATROL (R13, R153) -/

/-- The link-lost condition with its record and object, before any notice. -/
def Part.countLoss (c : Part) : Part :=
  if c.south.linkLost then c
  else (Part.recordTrip (packKey .linkDown) c.now none { c with south.linkLost := true }).countTrip (packObject .linkDown)

@[simp] theorem Part.countLoss_keeps (c : Part) : Part.Keeps [.south, .linkLost, .sched, .eval, .records, .interlock,
    .tripped, .latches, .seq, .conn, .contactors, .eventQueue, .reports, .store, .copy, .write] c c.countLoss := by
  unfold Part.countLoss
  split <;> simp [Part.Keeps]

theorem Part.countLoss_south (c : Part) : c.countLoss.south = { c.south with linkLost := true } := by
  unfold Part.countLoss
  split
  next lost => rw [← lost]
  next => simp

/-- The loss of the link is an activation that escalates: LINK_DOWN wakes, and was inactive. -/
def Part.lossWakes (c : Part) : Prop :=
  c.south.linkLost = false ∧ c.power.state = .patrol ∧ c.store.tables.wakes .linkDown = true ∧
    c.classActive .linkDown = false

theorem Part.hasObject_of_contains {o : FaultObject} (tripped : c.interlock.tripped.contains o = true) :
    c.hasObject o.cls = true := Part.hasObject_iff _ |>.mpr ⟨o, by simpa using tripped, rfl⟩

theorem Part.classActive_congr {k : FaultClass} (interlock : d.interlock = c.interlock) (power : d.power = c.power) :
    d.classActive k = c.classActive k := by
  simp only [Part.classActive, Part.hasObject, interlock, power]

theorem Part.loseLink_of_wakes (wakes : c.lossWakes) :
    c.loseLink = c.countLoss.escalate .classActivated (some .linkDown) := by
  obtain ⟨kept, patrol, wake, inactive⟩ := wakes
  let recorded := Part.recordTrip (packKey .linkDown) c.now none { c with south.linkLost := true }
  have same : recorded.classActive .linkDown = false := by
    rw [Part.classActive_congr (c := c) (by simp [recorded]) (by simp [recorded])]
    exact inactive
  have untripped : ¬ (recorded.interlock.tripped.contains (packObject .linkDown) = true ∨
      recorded.classActive .linkDown = true) := by
    rintro (tripped | active)
    · have object := Part.hasObject_of_contains tripped
      have active := (Part.classActive_of_condition (c := recorded) (k := .linkDown) rfl).mpr
        ⟨fun deep => by simp [recorded, patrol] at deep, .inl object⟩
      simp [same] at active
    · simp [same] at active
  have counted : c.countLoss = recorded.countTrip (packObject .linkDown) := if_neg (by simp [kept])
  have asleep : c.countLoss.power.state = .patrol ∧ c.countLoss.store.tables.wakes .linkDown = true := by
    simpa using ⟨patrol, wake⟩
  have lost : c.loseLink = recorded.tripObject (packObject .linkDown) := if_neg (by simp [kept])
  rw [lost, show recorded.tripObject (packObject .linkDown) =
    (recorded.countTrip (packObject .linkDown)).notice .linkDown from if_neg untripped, ← counted]
  exact if_pos asleep

theorem Part.loseLink_of_not_wakes (still : ¬ c.lossWakes) : c.loseLink = c.countLoss := by
  unfold Part.loseLink Part.countLoss
  split
  · rfl
  next kept =>
    let recorded := Part.recordTrip (packKey .linkDown) c.now none { c with south.linkLost := true }
    change recorded.tripObject (packObject .linkDown) = recorded.countTrip (packObject .linkDown)
    have same : recorded.classActive .linkDown = c.classActive .linkDown :=
      Part.classActive_congr (by simp [recorded]) (by simp [recorded])
    unfold Part.tripObject
    split
    · rfl
    next untripped =>
      refine if_neg fun asleep => still ⟨by simpa using kept, ?_, ?_, ?_⟩
      · simpa [recorded] using asleep.1
      · simpa [recorded, Part.tables, packObject] using asleep.2
      · have inactive := fun active => untripped (.inr active)
        simpa [packObject, same] using inactive

/-! ### The entry to DOWN in PATROL -/

/-- The link down, with the loss counted (R13). -/
def Part.lostLink (c : Part) : Part := (c.linkDown true).countLoss

theorem Part.lostLink_south (c : Part) : c.lostLink.south = { c.south with
    link := .down, downEvents := bump16 c.south.downEvents, retry := some (laterMs c.sched.packTime 100),
    window := none, bringAt := none, bringDue := none, linkLost := true } := by
  unfold Part.lostLink
  rw [Part.countLoss_south]
  rfl

@[simp] theorem Part.lostLink_keeps (c : Part) : Part.Keeps [.south, .link, .linkLost, .sched, .eval, .records, .interlock,
    .tripped, .latches, .seq, .conn, .contactors, .eventQueue, .reports, .store, .copy, .write] c c.lostLink := by
  simp [Part.Keeps, Part.lostLink, Part.linkDown]

theorem Part.enterDown_of_wakes (wakes : c.lossWakes) :
    c.enterDown true = (c.lostLink.escalate .classActivated (some .linkDown)).dropTraffic := by
  have lost : (c.linkDown true).loseLink = c.lostLink.escalate .classActivated (some .linkDown) :=
    Part.loseLink_of_wakes (c := c.linkDown true) wakes
  have awake : (c.lostLink.escalate .classActivated (some .linkDown)).dropTraffic.power.state ≠ .patrol := by
    have power : (c.lostLink.escalate .classActivated (some .linkDown)).power.state = .active := by
      rw [Part.escalate_power]
    simp [power]
  rw [Part.enterDown_eq, lost]
  exact if_neg awake

theorem Part.enterDown_of_sleeping (patrol : c.power.state = .patrol) (still : ¬ c.lossWakes) :
    c.enterDown true = c.lostLink.dropTraffic.escalate .linkFailed none := by
  have lost : (c.linkDown true).loseLink = c.lostLink := Part.loseLink_of_not_wakes (c := c.linkDown true) still
  rw [Part.enterDown_eq, lost]
  exact if_pos (by simpa using patrol)

theorem Part.dropTraffic_tracker (c : Part) : c.dropTraffic.router.tracker = [] := by
  rw [Part.dropTraffic_router]
  rfl

theorem Part.settleRun_kind {r : Run} (run : c.sched.run = some r) :
    ∃ r', c.settleRun.sched.run = some r' ∧ r'.kind = r.kind := by
  unfold Part.settleRun
  rw [run]
  dsimp only
  split
  · exact ⟨_, Part.supercycle_run .., rfl⟩
  · exact ⟨r, run, rfl⟩

theorem Part.abortSweeps_kind {r : Run} (p : Sweep → Bool) (run : c.sched.run = some r) :
    ∃ r', (c.abortSweeps p).sched.run = some r' ∧ r'.kind = r.kind := Part.settleRun_kind (by exact run)

theorem Part.dropTraffic_kind {r : Run} (run : c.sched.run = some r) :
    ∃ r', c.dropTraffic.sched.run = some r' ∧ r'.kind = r.kind := by
  obtain ⟨r₁, run₁, kind₁⟩ := Part.abortSweeps_kind (c := c.completeAll) (fun _ => true) run
  unfold Part.dropTraffic Part.dropSampling
  obtain ⟨r₂, run₂, kind₂⟩ := Part.abortSweeps_kind
    (fun w => (c.completeAll.abortSweeps (fun _ => true)).south.sampling.any (fun f => f.triggers w.number)) run₁
  obtain ⟨r₃, run₃, kind₃⟩ := Part.settleRun_kind (c := { (Part.abortSweeps
    (fun w => (c.completeAll.abortSweeps (fun _ => true)).south.sampling.any (fun f => f.triggers w.number))
    (c.completeAll.abortSweeps (fun _ => true))) with south.sampling := [] }) run₂
  exact ⟨r₃, run₃, kind₃.trans (kind₂.trans kind₁)⟩

/-- What the loss of the link leaves of a patrol. -/
structure Lost (c t : Part) : Prop extends Returned c t where
  tracker : t.router.tracker = []
  none_open : t.sched.sweeps = []
  south : c.power.step ≠ .returning → t.south = { c.south with
    link := .down, downEvents := bump16 c.south.downEvents, retry := some (laterMs c.sched.packTime 100),
    window := none, bringAt := none, bringDue := none, linkLost := true,
    wire := c.south.wire.map OnWire.forgetRecord, sampling := t.south.sampling, sleepDue := none }
  class_told : c.lossWakes → t.reported
    (powerPayload .patrol (c.power.causes ||| 32#8) c.sched.packTime c.power.patrols (some .linkDown))
  link_told : ¬ c.lossWakes → t.reported
    (powerPayload .patrol (c.power.causes ||| 64#8) c.sched.packTime c.power.patrols none)

theorem Part.escalate_sweeps_subset (w : WakeCause) (cls : Option FaultClass) (c : Part) :
    ∀ s ∈ (c.escalate w cls).sched.sweeps, s ∈ c.sched.sweeps := by
  have ended (s : Sweep) (member : s ∈ (c.endPatrol w cls).sched.sweeps) : s ∈ c.sched.sweeps := by
    have swept : (c.endPatrol w cls).sched.sweeps = c.sched.sweeps.filter (fun s => !decide (s.runKind = .patrol)) :=
      Part.abortSweeps_sweeps ..
    rw [swept] at member
    exact List.mem_of_mem_filter member
  rw [Part.escalate_eq]
  split <;> rw [Part.endEscalation_sweeps]
  · exact fun s member => ended s (Part.dropSampling_sweeps_subset _ s member)
  · exact ended

theorem Part.enterDown_lost_of_wakes (wakes : c.lossWakes) : Lost c (c.enterDown true) := by
  let back := c.lostLink.escalate .classActivated (some .linkDown)
  have entered : c.enterDown true = back.dropTraffic := Part.enterDown_of_wakes wakes
  have returned : Returned c.lostLink back := Part.escalate_returned ..
  have told : back.reported _ := Part.escalate_reported .classActivated (some .linkDown) c.lostLink
  have bit : BitVec.twoPow 8 WakeCause.classActivated.bit = 32#8 := by decide
  have south (going : c.power.step ≠ .returning) : back.south =
      { c.lostLink.south with sampling := back.south.sampling, sleepDue := none } :=
    Part.escalate_south (c := c.lostLink) .classActivated (some .linkDown) (fun returns => going (by simpa using returns.1))
  have down (going : c.power.step ≠ .returning) : back.south.link ≠ .up := by
    rw [south going, Part.lostLink_south]
    nofun
  have power : back.dropTraffic.power = back.power := by simp
  clear_value back
  rw [entered]
  refine { state := ?_, step := ?_, causes := ?_, escalating := ?_, hostWake := ?_, patrols := ?_, sweeps := ?_,
           supervision := ?_, link := fun going => ?_, run := fun running => ?_, tracker := back.dropTraffic_tracker,
           none_open := back.dropTraffic_sweeps, south := fun going => ?_, class_told := fun _ => ?_,
           link_told := fun still => absurd wakes still }
  · rw [power, returned.state]
  · rw [power, returned.step]
  · rw [power, returned.causes]
  · rw [power, returned.escalating]
  · rw [power, returned.hostWake]
  · rw [power, returned.patrols]
    simp
  · rw [back.dropTraffic_sweeps]
    nofun
  · simpa using returned.supervision
  · left
    rw [Part.dropTraffic_south (down going), south going, Part.lostLink_south]
  · obtain ⟨r, run, kind⟩ := returned.run (by simpa using running)
    obtain ⟨r', run', kind'⟩ := Part.dropTraffic_kind run
    exact ⟨r', run', kind'.trans kind⟩
  · rw [Part.dropTraffic_south (down going), south going, Part.lostLink_south]
  · rw [bit] at told
    exact Part.reported_congr (c := back) (by simp) (by simpa using told)

theorem Part.enterDown_lost_of_sleeping (patrol : c.power.state = .patrol) (still : ¬ c.lossWakes) :
    Lost c (c.enterDown true) := by
  let dropped := c.lostLink.dropTraffic
  have entered : c.enterDown true = dropped.escalate .linkFailed none := Part.enterDown_of_sleeping patrol still
  have returned : Returned dropped (dropped.escalate .linkFailed none) := Part.escalate_returned ..
  have told := Part.escalate_reported .linkFailed none dropped
  have bit : BitVec.twoPow 8 WakeCause.linkFailed.bit = 64#8 := by decide
  have power : dropped.power = c.power := by simp [dropped]
  have time : dropped.sched.packTime = c.sched.packTime := by simp [dropped]
  have down : c.lostLink.south.link ≠ .up := by
    rw [Part.lostLink_south]
    nofun
  have link : dropped.south = _ := Part.dropTraffic_south down
  have south (going : c.power.step ≠ .returning) :=
    Part.escalate_south (c := dropped) .linkFailed none (fun returns => going (power ▸ returns.1))
  rw [Part.lostLink_south] at link
  rw [entered]
  refine { state := returned.state, step := returned.step, causes := returned.causes, escalating := returned.escalating,
           hostWake := returned.hostWake, patrols := returned.patrols.trans (by rw [power]), sweeps := returned.sweeps,
           supervision := ?_, link := fun going => ?_, run := fun running => ?_, tracker := ?_, none_open := ?_,
           south := fun going => ?_, class_told := fun wakes => absurd wakes still, link_told := fun _ => ?_ }
  · simpa [dropped] using returned.supervision
  · left
    rw [south going, link]
  · exact returned.run (by simpa [dropped] using running)
  · simpa using Part.dropTraffic_tracker c.lostLink
  · refine List.eq_nil_iff_forall_not_mem.mpr fun w member => ?_
    have member' := Part.escalate_sweeps_subset .linkFailed none dropped w member
    rw [Part.dropTraffic_sweeps c.lostLink] at member'
    cases member'
  · rw [south going, link]
  · rwa [bit, power, time] at told

theorem Part.enterDown_lost (patrol : c.power.state = .patrol) : Lost c (c.enterDown true) := by
  by_cases wakes : c.lossWakes
  · exact Part.enterDown_lost_of_wakes wakes
  · exact Part.enterDown_lost_of_sleeping patrol wakes

/-! ### The entry to UP (R11 to R13, R45, R58) -/

theorem Part.clearLinkLost_south (c : Part) : c.clearLinkLost.south = { c.south with linkLost := false } := by
  unfold Part.clearLinkLost
  split
  next => simp
  next kept => rw [← show c.south.linkLost = false by simpa using kept]

theorem Part.clearLinkLost_power (c : Part) : c.clearLinkLost.power = c.power := by simp

/-- The link in UP with its counts at 0 (R11 to R13). -/
def Part.linkUp (c : Part) : Part :=
  Part.clearLinkLost
    { c with south.link := .up, south.errorCount := 0, south.goodRun := 0, south.silentRun := 0, south.window := none }

theorem Part.linkUp_south (c : Part) : c.linkUp.south = { c.south with
    link := .up, errorCount := 0, goodRun := 0, silentRun := 0, window := none, linkLost := false } :=
  Part.clearLinkLost_south _

@[simp] theorem Part.linkUp_keeps (c : Part) : Part.Keeps [.south, .link, .linkLost, .sched, .eval, .records,
    .interlock, .tripped, .seq, .conn, .contactors, .eventQueue, .reports, .store, .copy, .write] c c.linkUp := by
  simp [Part.Keeps, Part.linkUp]

/-- The run that an entry to UP starts, by the power state (R45, R58). -/
def Part.runForUp (c : Part) : Part :=
  match c.power.state with
  | .active => c.startNormalRun c.holdForNewRun
  | .patrol => c.startRun .patrol false
  | .sleepEntry | .deep => c

theorem Part.runForUp_south (c : Part) :
    c.runForUp.south = { c.south with sampling := c.runForUp.south.sampling } := by
  unfold Part.runForUp
  split
  · exact Part.startNormalRun_sampling ..
  · exact Part.startRun_sampling ..
  · rfl
  · rfl

@[simp] theorem Part.runForUp_keeps (c : Part) : Part.Keeps [.south, .sched, .run] c c.runForUp := by
  unfold Part.runForUp
  split <;> simp [Part.Keeps]

/-- The part after an entry to UP (R11). -/
def Part.enteredUp (c : Part) : Part := Part.identityCheck (f := .now) c.linkUp.runForUp

theorem Part.closeWindow_of_reply (due : timerDue c.sched.packTime c.south.window = true)
    (replied : c.south.replied = true) : c.closeWindow = c.enteredUp := by
  have closed : c.closeWindow = Part.enterUp { c with south.window := none } :=
    (if_pos due).trans (if_pos (by exact replied))
  exact closed.trans rfl

theorem Part.closeWindow_of_silence (due : timerDue c.sched.packTime c.south.window = true)
    (silent : c.south.replied = false) : c.closeWindow = Part.enterDown true { c with south.window := none } :=
  (if_pos due).trans (if_neg (by simpa [South.replied] using silent))

theorem South.replied_iff (s : South) : s.replied = true ↔ ∃ p, (atPos s.replies none p).isSome = true := by
  unfold South.replied
  rw [List.any_eq_true]
  constructor
  · rintro ⟨r, member, some⟩
    obtain ⟨n, inside, at_n⟩ := List.mem_iff_getElem.mp member
    refine ⟨n + 1, ?_⟩
    have inside' : n < 16 := by simpa using inside
    have entry : s.replies[n] = r := by simpa using at_n
    simpa [atPos, Vector.getD, inside', entry] using some
  · rintro ⟨p, some⟩
    by_cases zero : p = 0
    · simp [atPos, zero] at some
    · by_cases inside : p - 1 < 16
      · exact ⟨s.replies[p - 1], by simp, by simpa [atPos, zero, Vector.getD, inside] using some⟩
      · simp [atPos, zero, Vector.getD, inside] at some

/-- What an entry to UP shows, before what the power state adds. -/
theorem Part.linkUp_checked (going : c.power.state = .patrol → c.power.step ≠ .returning) :
    let t := c.enteredUp
    t.south = { c.south with
      link := .up, window := none, linkLost := false, errorCount := 0, goodRun := 0, silentRun := 0,
      foreign := t.south.foreign, sampling := t.south.sampling, sleepDue := t.south.sleepDue } ∧
    (∀ p ∈ allPositions, hasPos t.south.foreign p =
      if c.verdictAt p = .lost then hasPos c.south.foreign p
      else decide (c.verdictAt p = .foreign ∨ c.verdictAt p = .extra)) ∧
    ∀ p ∈ allPositions, atPos t.sched.missed 0 p =
      if c.verdictAt p = .lost then c.store.tables.header.missedLimit else atPos c.sched.missed 0 p := by
  have south : c.linkUp.runForUp.south = { c.south with
      link := .up, errorCount := 0, goodRun := 0, silentRun := 0, window := none, linkLost := false,
      sampling := c.linkUp.runForUp.south.sampling } := by
    rw [Part.runForUp_south, Part.linkUp_south]
  have checks : Checks .now c.linkUp.runForUp c.enteredUp := Part.identityCheck_checks .now _
  have tables : c.linkUp.runForUp.store.tables = c.store.tables := by simp
  have missed : c.linkUp.runForUp.sched.missed = c.sched.missed := by simp
  have same (p : Nat) : c.linkUp.runForUp.verdictAt p = c.verdictAt p :=
    Part.verdictAt_of_reads ⟨tables, by rw [south]⟩ p
  have flags : c.linkUp.runForUp.south.foreign = c.south.foreign := by rw [south]
  have found {p : Nat} (range : p ∈ allPositions) := Part.identityCheck_foreign range .now c.linkUp.runForUp
  have counted {p : Nat} (range : p ∈ allPositions) := Part.identityCheck_missed range .now c.linkUp.runForUp
  rw [show c.linkUp.runForUp.identityCheck .now = c.enteredUp from rfl] at found counted
  refine ⟨?_, fun p range => ?_, fun p range => ?_⟩
  · rw [checks.south (by simpa using going), south]
  · exact (found range).trans (by rw [same, flags])
  · exact (counted range).trans (by rw [same, tables, missed])

theorem Part.foreign_of_verdict (p : Nat) (c : Part) :
    (if c.verdictAt p = .lost then hasPos c.south.foreign p
      else decide (c.verdictAt p = .foreign ∨ c.verdictAt p = .extra)) =
      match c.store.tables.map.find? (fun e => e.position == p), atPos c.south.replies none p with
      | some e, some r => !(decide (r.identity = e.identity) && decide (r.kind = e.kind) &&
          decide (r.cells = e.cells) && decide (r.temps = e.temps))
      | some _, none => hasPos c.south.foreign p
      | none, some _ => true
      | none, none => false := by
  unfold Part.verdictAt Tables.byPosition verdict
  cases c.store.tables.map.find? (fun e => e.position == p) with
  | none => cases atPos c.south.replies none p <;> simp
  | some e =>
    cases atPos c.south.replies none p with
    | none => simp
    | some r =>
      change _ = !(r.agrees e)
      cases agrees : r.agrees e <;> simp [agrees]

theorem Part.missed_of_verdict (p : Nat) (c : Part) :
    (if c.verdictAt p = .lost then c.store.tables.header.missedLimit else atPos c.sched.missed 0 p) =
      match c.store.tables.map.find? (fun e => e.position == p), atPos c.south.replies none p with
      | some _, none => c.store.tables.header.missedLimit
      | _, _ => atPos c.sched.missed 0 p := by
  unfold Part.verdictAt Tables.byPosition verdict
  cases c.store.tables.map.find? (fun e => e.position == p) with
  | none => cases atPos c.south.replies none p <;> simp
  | some e =>
    cases atPos c.south.replies none p with
    | none => simp
    | some r => cases agrees : r.agrees e <;> simp [agrees]

/-- Settles O39: without a reply the entry to DOWN, and with one the entry to UP with the identity check. -/
theorem windowCloseChecksIdentities : Obligations.WindowCloseChecksIdentities := by
  intro c q ends window reached told failed entered begun
  have due : timerDue c.sched.packTime c.south.window = true := by
    rw [window]
    exact reached
  have effect : exec .enumWindowClose ⟨c, q⟩ = .next ⟨c.closeWindow, q⟩ := rfl
  refine ⟨fun silent => ?_, fun reply => ?_⟩
  · have unreplied : c.south.replied = false := by
      refine Bool.eq_false_iff.mpr fun replied => ?_
      obtain ⟨p, some⟩ := (South.replied_iff c.south).mp replied
      simp [silent p] at some
    rw [Part.closeWindow_of_silence due unreplied] at effect
    let closed : Part := { c with south.window := none }
    refine ⟨fun awake => ?_, fun patrol running => ?_⟩
    · have awake' : closed.power.state ≠ .patrol := fun patrol => by
        obtain h | h := awake <;> exact PowerState.noConfusion (h.symm.trans patrol)
      have south := Part.enterDown_south (c := closed) true awake'
      refine ⟨_, effect, ⟨?_, ?_, ?_, ?_, ?_, ?_, ?_, ?_⟩, Part.enterDown_power (c := closed) true awake'⟩
      · rw [south]
        rfl
      · rw [south]
        rfl
      · rw [south]
      · rw [south]
        rfl
      · rw [south]
        rfl
      · simp
      · rw [Part.enterDown_router (c := closed) true awake']
        rfl
      · exact Part.enterDown_sweeps (c := closed) true awake'
    · have lost := Part.enterDown_lost (c := closed) patrol
      have going : closed.power.step ≠ .returning := fun returning => EntryStep.noConfusion (running.symm.trans returning)
      have south := lost.south going
      refine ⟨_, effect, ⟨?_, ?_, ?_, ?_, ?_, ?_, lost.tracker, lost.none_open⟩, lost.state, lost.step, lost.causes,
        lost.hostWake, lost.run, fun quiet => lost.link_told ?_, fun kept wakes inactive => lost.class_told
          ⟨kept, patrol, wakes, inactive⟩⟩
      · rw [south]
      · rw [south]
      · rw [south]
      · rw [south]
        rfl
      · rw [south]
      · simp
      · rintro ⟨kept, -, wakes, -⟩
        obtain is_lost | unwoken := quiet
        · exact Bool.noConfusion (is_lost.symm.trans kept)
        · exact Bool.noConfusion (unwoken.symm.trans wakes)
  · have replied : c.south.replied = true := (South.replied_iff c.south).mpr reply
    rw [Part.closeWindow_of_reply due replied] at effect
    let started := c.linkUp.runForUp
    have checks : Checks .now started c.enteredUp := Part.identityCheck_checks .now _
    have enter (going : c.power.state = .patrol → c.power.step ≠ .returning) : entered c.enteredUp := by
      obtain ⟨south, foreign, missed⟩ := Part.linkUp_checked going
      refine ⟨?_, ?_, ?_, ?_, ?_, ?_, ?_, ?_, fun p range => ⟨?_, ?_⟩⟩
      · rw [south]
      · rw [south]
      · rw [south]
      · rw [south]
      · rw [south]
      · rw [south]
      · rw [south]
      · simp [Part.enteredUp]
      · exact (foreign p range).trans (Part.foreign_of_verdict p c)
      · exact (missed p range).trans (Part.missed_of_verdict p c)
    have quiet (still : c.power.state ≠ .patrol ∨
        (c.store.tables.wakes .moduleForeign = false ∧ c.store.tables.wakes .moduleLost = false)) :=
      checks.quiet (by simpa [started, Part.Quiet] using still.imp_right And.left)
        (by simpa [started, Part.Quiet] using still.imp_right And.right)
    have power : started.power = c.power := by simp [started]
    have sweeps : started.sched.sweeps = c.sched.sweeps := by simp [started]
    refine ⟨fun active => ?_, fun entry => ?_, fun patrol running => ?_⟩
    · have awake : c.power.state ≠ .patrol := fun patrol => PowerState.noConfusion (active.symm.trans patrol)
      obtain ⟨power', -, run', sweeps'⟩ := quiet (.inl awake)
      have normal : started = c.linkUp.startNormalRun c.linkUp.holdForNewRun := by
        simp only [started, Part.runForUp, show c.linkUp.power.state = .active by simpa using active]
      refine ⟨_, effect, enter (absurd · awake), sweeps'.trans sweeps, power'.trans power, fun stopped => ?_,
        fun scheduled clear => ?_⟩
      · rw [run', normal, Part.startNormalRun, if_neg (by simp [stopped])]
        simp
      · have clear' : c.linkUp.south.sampling = [] := by rw [Part.linkUp_south, clear]
        rw [run', normal, Part.startNormalRun_of_running (by simpa using scheduled),
          Part.startRun_of_clear .normal _ clear', Part.supercycle_run]
        refine ⟨_, rfl, rfl, rfl, rfl, rfl, ?_⟩
        simp [Part.newRun]
    · have awake : c.power.state ≠ .patrol := fun patrol => PowerState.noConfusion (entry.symm.trans patrol)
      obtain ⟨power', -, run', sweeps'⟩ := quiet (.inl awake)
      have same : started = c.linkUp := by
        simp only [started, Part.runForUp, show c.linkUp.power.state = .sleepEntry by simpa using entry]
      refine ⟨_, effect, enter (absurd · awake), sweeps'.trans sweeps, power'.trans power, run'.trans ?_⟩
      rw [same]
      simp
    · have going : c.power.step ≠ .returning := fun returning => EntryStep.noConfusion (running.symm.trans returning)
      have patrolRun : started = c.linkUp.startRun .patrol false := by
        simp only [started, Part.runForUp, show c.linkUp.power.state = .patrol by simpa using patrol]
      refine ⟨_, effect, enter fun _ => going, checks.power.imp (fun same => same.trans power) id, fun foreign lost => ?_⟩
      obtain ⟨power', south', run', sweeps'⟩ := quiet (.inr ⟨foreign, lost⟩)
      refine ⟨power'.trans power, sweeps'.trans sweeps, fun clear => ?_⟩
      have clear' : c.linkUp.south.sampling = [] := by rw [Part.linkUp_south, clear]
      rw [run', south', patrolRun, Part.startRun_released .patrol clear', Part.linkUp_south]
      refine ⟨?_, _, rfl, ⟨rfl, rfl, rfl, rfl, ?_⟩, rfl, ?_⟩
      · simp
      · simp [Part.newRun]
      · simp [Part.newRun]

end Sys2Proof.Machine
end

section
/-!
# The wake from DEEP (R146 to R148)

Up to its POWER report a wake touches no contactor; the sleep feedbacks that follow it are contactor faults in ACTIVE,
which reach neither the links nor the power state.
-/
namespace Sys2Proof.Machine

variable {c d : Part} {q : List Instr}

/-! ### Contactor faults in ACTIVE -/

theorem Part.setCondition_keeps_of_not_patrol (awake : c.power.state ≠ .patrol) (k : FaultClass) :
    Part.Keeps [.sched, .eval, .records, .interlock, .tripped, .latches, .seq, .conn, .contactors, .eventQueue, .reports,
      .store, .copy, .write] c (c.setCondition k) := by
  rw [Part.setCondition_of_not_patrol awake]
  simp [Part.Keeps]

theorem Part.eventClass_keeps_of_not_patrol (awake : c.power.state ≠ .patrol) (k : FaultClass) :
    Part.Keeps [.sched, .eval, .records, .interlock, .eventClasses, .seq, .conn, .contactors, .eventQueue, .reports,
      .store, .copy, .write] c (c.eventClass k) := by
  rw [Part.eventClass_of_not_patrol awake]
  simp [Part.Keeps]

/-- What a contactor fault reaches in ACTIVE. -/
abbrev faultFields : List Field :=
  [.sched, .eval, .records, .interlock, .tripped, .latches, .eventClasses, .seq, .conn, .contactors, .eventQueue, .reports,
    .store, .recordRead, .copy, .activeFloor, .tamperLatch, .write]

theorem Part.withRecord_keeps (r : ServiceRecord) (c : Part) : Part.Keeps faultFields c (c.withRecord r) := by
  unfold Part.withRecord
  dsimp only
  split <;> simp [Part.Keeps]

theorem Part.readRecord_keeps_of_not_patrol (awake : c.power.state ≠ .patrol) :
    Part.Keeps faultFields c c.readRecord := by
  cases read : c.store.recordRead with
  | true =>
    rw [Part.readRecord_of_read read]
    exact .refl _ c
  | false =>
    have taken := Part.withRecord_keeps c.bootRecord c
    have power : (c.withRecord c.bootRecord).power = c.power := by
      unfold Part.withRecord
      dsimp only
      split <;> simp
    have noted := (Part.setCondition_keeps_of_not_patrol (by rwa [power]) .tamper).mono
      (t' := faultFields) (a := c.withRecord c.bootRecord) (by decide)
    rw [Part.readRecord_of_unread read]
    refine Part.Keeps.trans ?_ ((Part.driveFaultOut_keeps _).mono (by decide))
    split
    · exact taken.trans noted
    · exact taken

theorem Part.readRecord_power (awake : c.power.state ≠ .patrol) : c.readRecord.power = c.power := by
  have kept := Part.readRecord_keeps_of_not_patrol awake
  simp only [Part.Keeps] at kept
  simp_all

theorem Part.contactorFault_active (active : c.power.state = .active) (kind : EventKind) (k : Contactor) (cause : Cause) :
    c.contactorFault kind k cause = (c.readRecord.faultTransition kind k cause).eventClass .contactorFault := by
  have state : (c.readRecord.faultTransition kind k cause).power.state = .active := by
    simp [Part.readRecord_power (c := c) (by simp [active]), active]
  simp only [Part.contactorFault, state]

theorem Part.contactorFault_keeps_of_active (active : c.power.state = .active) (kind : EventKind) (k : Contactor)
    (cause : Cause) : Part.Keeps faultFields c (c.contactorFault kind k cause) := by
  have awake : c.power.state ≠ .patrol := by simp [active]
  rw [Part.contactorFault_active active]
  refine ((Part.readRecord_keeps_of_not_patrol awake).trans ((Part.faultTransition_keeps kind k cause _).mono
    (by decide))).trans ((Part.eventClass_keeps_of_not_patrol ?_ _).mono (by decide))
  simpa [Part.readRecord_power awake] using awake

theorem Part.sleepFeedback_keeps_of_active (active : c.power.state = .active) (f : ContactorFlags) (k : Contactor) :
    Part.Keeps faultFields c (c.sleepFeedback f k) := by
  unfold Part.sleepFeedback
  split
  · exact ((Part.withContactor_keeps ..).mono (by decide)).trans
      (Part.contactorFault_keeps_of_active (by simpa using active) ..)
  · exact .refl _ c

theorem Part.sleepFeedback_power (active : c.power.state = .active) (f : ContactorFlags) (k : Contactor) :
    (c.sleepFeedback f k).power = c.power := by
  have kept := Part.sleepFeedback_keeps_of_active active f k
  simp only [Part.Keeps] at kept
  simp_all

theorem Part.sleepFeedbacks_keeps_of_active (active : c.power.state = .active) (f : ContactorFlags) :
    Part.Keeps faultFields c (c.sleepFeedbacks f) := by
  have first := Part.sleepFeedback_power active f .kPos
  have second := Part.sleepFeedback_power (c := c.sleepFeedback f .kPos) (by rw [first, active]) f .kNeg
  exact ((Part.sleepFeedback_keeps_of_active active f .kPos).trans
    (Part.sleepFeedback_keeps_of_active (by rw [first, active]) f .kNeg)).trans
    (Part.sleepFeedback_keeps_of_active (by rw [second, first, active]) f .kPre)

theorem Part.sleepFeedbacks_of_none (c : Part) : c.sleepFeedbacks {} = c := rfl

/-! ### The event class that a fault leaves -/

theorem Part.contactorFault_events (active : c.power.state = .active) (kind : EventKind) (k : Contactor) (cause : Cause) :
    (c.contactorFault kind k cause).interlock.events = c.interlock.events ||| FaultClass.contactorFault.bit := by
  have awake : c.power.state ≠ .patrol := by simp [active]
  rw [Part.contactorFault_active active, Part.eventClass_events (by simpa [Part.readRecord_power awake] using awake)]
  have kept : (c.readRecord.faultTransition kind k cause).interlock.events = c.interlock.events := by
    have read := Part.readRecord_keeps_of_not_patrol awake
    simp only [Part.Keeps] at read
    simp_all
  rw [kept]

/-! ### The wake from DEEP (R146 to R148) -/

/-- The wake from DEEP up to its POWER report (R148). -/
def Part.woken (c : Part) : Part :=
  let restored := Part.objectsToNormal { c with power.patrolTimer := none }
  let active : Part := { restored with power.state := .active, power.step := .none }
  active.restartSupervision.refreshAction.enterWaking.powerReport .deep false

theorem Part.woken_power (c : Part) : c.woken.power = { c.power with
    patrolTimer := none, state := .active, step := .none, causes := 0, escalating := none,
    hostWake := if c.hasCause .tamper || c.hasCause .feedback then true else c.power.hostWake } := by
  simp [Part.woken, Part.powerReport, Part.hasCause]

theorem Part.leaveDeep_eq (c : Part) :
    c.leaveDeep = (c.woken.sleepFeedbacks c.power.closedFeedback).resumeSequencer := by
  have closed : c.woken.power.closedFeedback = c.power.closedFeedback := by rw [Part.woken_power]
  rw [← closed]
  rfl

theorem Part.woken_reported (c : Part) : c.woken.reported
    (powerPayload .deep c.power.causes c.sched.packTime c.power.patrols c.power.escalating) := by
  let restored := Part.objectsToNormal { c with power.patrolTimer := none }
  let active : Part := { restored with power.state := .active, power.step := .none }
  have told := Part.powerReport_reported .deep false active.restartSupervision.refreshAction.enterWaking
  have power : active.restartSupervision.refreshAction.enterWaking.power =
      { c.power with patrolTimer := none, state := .active, step := .none } := by simp [active, restored]
  have time : active.restartSupervision.refreshAction.enterWaking.sched.packTime = c.sched.packTime := by
    simp [active, restored]
  rwa [power, time] at told

/-- What a wake from DEEP shows, whatever woke the part (R98, R146 to R148). -/
structure Woken (c t : Part) : Prop where
  state : t.power.state = .active
  step : t.power.step = .none
  causes : t.power.causes = 0
  escalating : t.power.escalating = none
  hostWake : t.power.hostWake = if c.hasCause .tamper || c.hasCause .feedback then true else c.power.hostWake
  patrolTimer : t.power.patrolTimer = none
  supervision : t.interlock.supervision =
    some (c.sched.packTime + BitVec.ofNat 32 (c.store.tables.params.supervisionMs * 1000))
  packTime : t.sched.packTime = c.sched.packTime
  tables : t.store.tables = c.store.tables
  mgmt : t.mgmt = c.mgmt
  lines : t.lines = c.lines
  channels : t.eval.channels = Vector.replicate 16 (Vector.replicate 16 ChanState.normal)
  sum : t.eval.sum = ChanState.normal
  sense : t.eval.sense = Vector.replicate 16 ObjState.normal
  lost : t.eval.lost = Vector.replicate 16 ObjState.normal
  missed : t.sched.missed = Vector.replicate 16 0
  link : t.south.link = .waking

theorem Part.woken_woken (c : Part) : Woken c c.woken := by
  have power := Part.woken_power c
  refine ⟨?_, ?_, ?_, ?_, ?_, ?_, ?_, ?_, ?_, ?_, ?_, ?_, ?_, ?_, ?_, ?_, ?_⟩
  · rw [power]
  · rw [power]
  · rw [power]
  · rw [power]
  · rw [power]
  · rw [power]
  · simp [Part.woken, Part.restartSupervision, Part.now, Part.tables, laterMs, later]
  · simp [Part.woken]
  · simp [Part.woken]
  · simp [Part.woken]
  · simp [Part.woken]
  · simp [Part.woken, Part.objectsToNormal]
  · simp [Part.woken, Part.objectsToNormal]
  · simp [Part.woken, Part.objectsToNormal]
  · simp [Part.woken, Part.objectsToNormal]
  · simp [Part.woken, Part.objectsToNormal]
  · simp [Part.woken, Part.enterWaking_south]

theorem Woken.keeps {t u : Part} (h : Woken c t) (kept : Part.Keeps faultFields t u) : Woken c u := by
  simp only [Part.Keeps] at kept
  have power : u.power = t.power := by simp_all
  have south : u.south = t.south := by simp_all
  have supervision : u.interlock.supervision = t.interlock.supervision := by simp_all
  have packTime : u.sched.packTime = t.sched.packTime := by simp_all
  have tables : u.store.tables = t.store.tables := by simp_all
  have mgmt : u.mgmt = t.mgmt := by simp_all
  have lines : u.lines = t.lines := by simp_all
  have missed : u.sched.missed = t.sched.missed := by simp_all
  have objects : u.eval.channels = t.eval.channels ∧ u.eval.sum = t.eval.sum ∧ u.eval.sense = t.eval.sense ∧
      u.eval.lost = t.eval.lost := by simp_all
  obtain ⟨channels, sum, sense, lost⟩ := objects
  exact ⟨power ▸ h.state, power ▸ h.step, power ▸ h.causes, power ▸ h.escalating, power ▸ h.hostWake,
    power ▸ h.patrolTimer, supervision.trans h.supervision, packTime.trans h.packTime, tables.trans h.tables,
    mgmt.trans h.mgmt, lines.trans h.lines, channels.trans h.channels, sum.trans h.sum, sense.trans h.sense,
    lost.trans h.lost, missed.trans h.missed, south ▸ h.link⟩

theorem Part.leaveDeep_woken (c : Part) : Woken c c.leaveDeep := by
  rw [Part.leaveDeep_eq]
  exact (c.woken_woken.keeps (Part.sleepFeedbacks_keeps_of_active c.woken_woken.state _)).keeps
    ((Part.resumeSequencer_keeps _).mono (by decide))

/-- A wake whose report is the last one made: no feedback of the open-feedback set has closed. -/
theorem Part.leaveDeep_reported (none_closed : c.power.closedFeedback = {}) : c.leaveDeep.reported
    (powerPayload .deep c.power.causes c.sched.packTime c.power.patrols c.power.escalating) := by
  rw [Part.leaveDeep_eq, none_closed, Part.sleepFeedbacks_of_none]
  exact Part.reported_congr (by simp) c.woken_reported

/-! ### The events of the wake (R145, R153) -/

theorem Part.abandonEntry_reported (w : WakeCause) (c : Part) : (c.abandonEntry w).reported
    (powerPayload .sleepEntry (c.power.causes ||| BitVec.twoPow 8 w.bit) c.sched.packTime c.power.patrols
      c.power.escalating) := by
  let abandoned : Part := { c.addCause w with
    power.state := .active, power.step := .none, power.sleepSent := false, south.sleepDue := none }
  have told := Part.powerReport_reported .sleepEntry false abandoned.restartSupervision.enterWaking
  have power : abandoned.restartSupervision.enterWaking.power = { c.power with
      causes := c.power.causes ||| BitVec.twoPow 8 w.bit, state := .active, step := .none, sleepSent := false } := by
    simp [abandoned, Part.addCause]
  have time : abandoned.restartSupervision.enterWaking.sched.packTime = c.sched.packTime := by simp [abandoned]
  rwa [power, time] at told

theorem Part.abandonEntry_power (w : WakeCause) (c : Part) : (c.abandonEntry w).power = { c.power with
    state := .active, step := .none, causes := 0, escalating := none, sleepSent := false,
    hostWake := if (c.addCause w).hasCause .tamper || (c.addCause w).hasCause .feedback then true
      else c.power.hostWake } := by
  simp [Part.abandonEntry, Part.powerReport, Part.hasCause, Part.addCause]

end Sys2Proof.Machine
end

section
/-!
# The events that wake the part
-/
namespace Sys2Proof.Machine

variable {c d : Part} {q : List Instr}

/-! ### A wake cause by power state (R145, R146, R153) -/

theorem Part.powerCause_of_sleepEntry (entry : c.power.state = .sleepEntry) (w : WakeCause) :
    c.powerCause q w = c.abandonEntry w := by
  simp only [Part.powerCause, entry]

theorem Part.powerCause_of_deep (deep : c.power.state = .deep) (w : WakeCause) :
    c.powerCause q w = c.wakeFromDeep q w := by
  simp only [Part.powerCause, deep]

theorem Part.powerCause_of_patrol (patrol : c.power.state = .patrol) (w : WakeCause) :
    c.powerCause q w = c.escalate w none := by
  simp only [Part.powerCause, patrol]

/-- With no wake source waiting, only the cause itself joins the set. -/
theorem Part.wakeFromDeep_of_quiet (quiet : ∀ j ∈ q, j.wakes = false) (w : WakeCause) (c : Part) :
    c.wakeFromDeep q w = (c.addCause w).leaveDeep := by
  rw [Part.wakeFromDeep, Part.arriveTogether_quiet _ _ quiet]

/-- The POWER report of a wake cause is the last report made. -/
theorem Part.powerCause_reported (asleep : c.power.state ≠ .active) (no_class : c.power.escalating = none)
    (alone : c.power.state = .deep → (∀ j ∈ q, j.wakes = false) ∧ c.power.closedFeedback = {}) (w : WakeCause) :
    (c.powerCause q w).reported (powerPayload c.power.state (c.power.causes ||| BitVec.twoPow 8 w.bit) c.sched.packTime
      c.power.patrols none) := by
  cases state : c.power.state with
  | active => exact absurd state asleep
  | sleepEntry =>
    rw [Part.powerCause_of_sleepEntry state, ← no_class]
    exact Part.abandonEntry_reported w c
  | deep =>
    obtain ⟨quiet, none_closed⟩ := alone state
    rw [Part.powerCause_of_deep state, Part.wakeFromDeep_of_quiet quiet, ← no_class]
    exact Part.leaveDeep_reported (c := c.addCause w) none_closed
  | patrol =>
    rw [Part.powerCause_of_patrol state]
    exact Part.escalate_reported w none c

/-- What every return to ACTIVE by a wake cause shows. -/
structure Awakened (c : Part) (quiet : Prop) (t : Part) : Prop where
  state : t.power.state = .active
  step : t.power.step = .none
  causes : t.power.causes = 0
  escalating : t.power.escalating = none
  supervision : t.interlock.supervision =
    some (c.sched.packTime + BitVec.ofNat 32 (c.store.tables.params.supervisionMs * 1000))
  packTime : t.sched.packTime = c.sched.packTime
  tables : t.store.tables = c.store.tables
  mgmt : t.mgmt = c.mgmt
  lines : c.power.state ≠ .deep ∨ quiet → t.lines = c.lines
  objects : c.power.state = .deep → t.eval.channels = Vector.replicate 16 (Vector.replicate 16 ChanState.normal) ∧
    t.eval.sum = ChanState.normal ∧ t.eval.sense = Vector.replicate 16 ObjState.normal ∧
    t.eval.lost = Vector.replicate 16 ObjState.normal ∧ t.sched.missed = Vector.replicate 16 0 ∧
    t.power.patrolTimer = none
  link : c.power.state = .deep ∨ c.power.state = .sleepEntry → t.south.link = .waking
  hostWake : c.power.state = .patrol → t.power.hostWake = true

theorem Part.abandonEntry_awakened (entry : c.power.state = .sleepEntry) (w : WakeCause) (quiet : Prop) :
    Awakened c quiet (c.abandonEntry w) := by
  have power := Part.abandonEntry_power w c
  refine ⟨by rw [power], by rw [power], by rw [power], by rw [power], ?_, by simp, by simp, by simp, fun _ => by simp,
    fun deep => ?_, fun _ => ?_, fun patrol => ?_⟩
  · simp [Part.abandonEntry, Part.restartSupervision, Part.now, Part.tables, laterMs, later]
  · simp [entry] at deep
  · simp [Part.abandonEntry, Part.enterWaking_south]
  · simp [entry] at patrol

theorem Woken.awakened {t : Part} {quiet : Prop} (deep : c.power.state = .deep) (h : Woken d t)
    (packTime : d.sched.packTime = c.sched.packTime) (tables : d.store.tables = c.store.tables)
    (mgmt : d.mgmt = c.mgmt) (lines : quiet → d.lines = c.lines) : Awakened c quiet t := by
  refine ⟨h.state, h.step, h.causes, h.escalating, ?_, h.packTime.trans packTime, h.tables.trans tables,
    h.mgmt.trans mgmt, fun still => h.lines.trans (lines (still.resolve_left (not_not.mpr deep))), fun _ =>
    ⟨h.channels, h.sum, h.sense, h.lost, h.missed, h.patrolTimer⟩, fun _ => h.link, fun patrol => ?_⟩
  · rw [h.supervision, packTime, tables]
  · simp [deep] at patrol

theorem Part.wakeFromDeep_awakened (deep : c.power.state = .deep) (w : WakeCause) :
    Awakened c (∀ j ∈ q, j.wakes = false) (c.wakeFromDeep q w) := by
  have woken := Part.leaveDeep_woken ((c.addCause w).arriveTogether q)
  refine woken.awakened deep (by simp) (by simp) (by simp) fun quiet => ?_
  rw [Part.arriveTogether_quiet _ _ quiet]
  rfl

theorem Part.escalate_awakened (patrol : c.power.state = .patrol) (w : WakeCause) (cls : Option FaultClass)
    (quiet : Prop) : Awakened c quiet (c.escalate w cls) := by
  have returned := Part.escalate_returned w cls c
  refine ⟨returned.state, returned.step, returned.causes, returned.escalating, returned.supervision, by simp, by simp,
    by simp, fun _ => by simp, fun deep => ?_, fun other => ?_, fun _ => returned.hostWake⟩
  · simp [patrol] at deep
  · simp [patrol] at other

theorem Part.powerCause_awakened (asleep : c.power.state ≠ .active) (w : WakeCause) :
    Awakened c (∀ j ∈ q, j.wakes = false) (c.powerCause q w) := by
  cases state : c.power.state with
  | active => exact absurd state asleep
  | sleepEntry =>
    rw [Part.powerCause_of_sleepEntry state]
    exact Part.abandonEntry_awakened state w _
  | deep =>
    rw [Part.powerCause_of_deep state]
    exact Part.wakeFromDeep_awakened state w
  | patrol =>
    rw [Part.powerCause_of_patrol state]
    exact Part.escalate_awakened state w none _

/-! ### The sources by their commands -/

theorem Part.wakeIn_of_assert (clear : c.lines.wakeIn = false) :
    c.wakeIn q true = Part.powerCause q .wakeLine { c with lines.wakeIn := true } := if_pos ⟨rfl, clear⟩

theorem Part.wakeIn_of_set (set : c.lines.wakeIn = true) : c.wakeIn q true = c := by
  refine (if_neg (by simp [set])).trans ?_
  rw [← set]

theorem Part.northActivity_of_watching (watching : c.power.state = .deep ∨ c.power.state = .patrol) :
    c.northActivity q = c.powerCause q .northActivity :=
  if_neg fun entry => by obtain h | h := watching <;> exact PowerState.noConfusion (h.symm.trans entry)

theorem Part.receiveNorth_of_watching (watching : c.power.state = .deep ∨ c.power.state = .patrol) (r : Reception) :
    c.receiveNorth q r = c.powerCause q .northActivity := by
  have stopped : ¬ c.northRunning = true := fun runs => by
    obtain run | run := Part.northRunning_iff.mp runs <;> obtain h | h := watching <;>
      exact PowerState.noConfusion (h.symm.trans run)
  exact (if_neg stopped).trans (Part.northActivity_of_watching watching)

/-- A feedback of the open-feedback set has closed in DEEP, before anything else is done. -/
def Part.closedDeep (f : ContactorFlags) (c : Part) : Part :=
  { c with
    lines.feedback := c.lines.feedback.or f,
    power.closedFeedback := c.power.closedFeedback.or (f.and c.power.openFeedback) }

theorem Part.deepFeedback_of_deep {f : ContactorFlags} (deep : c.power.state = .deep)
    (seen : (f.and c.power.openFeedback).any = true) :
    c.deepFeedback q f = (c.closedDeep f).wakeFromDeep q .feedback := by
  have closes : c.deepFeedback q f = c.deepClosed q f := by simp only [Part.deepFeedback, deep]
  exact closes.trans (if_pos seen)

theorem Part.deepFeedback_of_active (active : c.power.state = .active) (f : ContactorFlags) :
    c.deepFeedback q f = c := by
  simp only [Part.deepFeedback, active]

/-! ### Two sources together (R146, R150; log entry 42) -/

/-- Two sets of sources that differ at most in the FEEDBACK cause. -/
structure Together.Agrees (x y : Together) : Prop where
  wakeIn : x.wakeIn = y.wakeIn
  closed : x.closed = y.closed
  causes : x.causes ||| 8#8 = y.causes ||| 8#8

theorem Together.Agrees.add {x y : Together} (h : x.Agrees y) (source : Bool) (w : WakeCause) :
    (x.add source w).Agrees (y.add source w) := by
  cases source with
  | false => exact h
  | true =>
    refine ⟨h.wakeIn, h.closed, ?_⟩
    change x.causes ||| BitVec.twoPow 8 w.bit ||| 8#8 = y.causes ||| BitVec.twoPow 8 w.bit ||| 8#8
    rw [BitVec.or_assoc, BitVec.or_comm (BitVec.twoPow 8 w.bit), ← BitVec.or_assoc, h.causes, BitVec.or_assoc,
      BitVec.or_comm 8#8, ← BitVec.or_assoc]

theorem Together.Agrees.add_feedback {x y : Together} (h : x.Agrees y) (source source' : Bool) :
    (x.add source .feedback).Agrees (y.add source' .feedback) := by
  have bit : BitVec.twoPow 8 WakeCause.feedback.bit = 8#8 := by decide
  have added (z : Together) (s : Bool) : (z.add s .feedback).causes ||| 8#8 = z.causes ||| 8#8 := by
    cases s with
    | false => rfl
    | true =>
      change z.causes ||| BitVec.twoPow 8 WakeCause.feedback.bit ||| 8#8 = _
      rw [bit, BitVec.or_assoc, BitVec.or_self]
  refine ⟨?_, ?_, ?_⟩
  · cases source <;> cases source' <;> exact h.wakeIn
  · cases source <;> cases source' <;> exact h.closed
  · rw [added, added, h.causes]

/-- Of the levels only those of WAKE_IN, TAMPER_IN and SERVICE_IN matter to what arrives together, and a feedback that
reads closed matters only to the FEEDBACK cause. -/
theorem Part.together_agrees (same : d.power.openFeedback = c.power.openFeedback) (latch : d.canLatch = c.canLatch)
    (l : Lines) (closed : ContactorFlags) :
    (d.together { l with feedback := closed } q).Agrees (c.together l q) := by
  induction q generalizing l with
  | nil => exact ⟨rfl, rfl, rfl⟩
  | cons i q ih =>
    have rest := ih l
    cases i with
    | wakeInAssert v =>
      let up := decide (v = Level.asserted)
      have next := ih { l with wakeIn := up }
      have joined : Together.Agrees
          { d.together { l with wakeIn := up, feedback := closed } q with
            wakeIn := (d.together { l with wakeIn := up, feedback := closed } q).wakeIn || up }
          { c.together { l with wakeIn := up } q with wakeIn := (c.together { l with wakeIn := up } q).wakeIn || up } :=
        ⟨congrArg (· || up) next.wakeIn, next.closed, next.causes⟩
      exact joined.add (up && !l.wakeIn) .wakeLine
    | northActivity => exact rest.add true .northActivity
    | tamperInAssert v =>
      let up := decide (v = Level.asserted)
      have added := (ih { l with tamperIn := up }).add (up && !l.tamperIn && !l.serviceIn && c.canLatch) .tamper
      rw [Part.together, latch]
      exact added
    | serviceInDeassert v =>
      let up := decide (v = Level.asserted)
      have added := (ih { l with serviceIn := up }).add (!up && l.serviceIn && l.tamperIn && c.canLatch) .tamper
      rw [Part.together, latch]
      exact added
    | deepFeedbackClosed a b e =>
      let f : ContactorFlags := { kPos := a, kNeg := b, kPre := e }
      have joined : Together.Agrees
          { d.together { l with feedback := closed } q with
            closed := (d.together { l with feedback := closed } q).closed.or f }
          { c.together l q with closed := (c.together l q).closed.or f } :=
        ⟨rest.wakeIn, congrArg (·.or f) rest.closed, rest.causes⟩
      have added := joined.add (f.and c.power.openFeedback).any .feedback
      rw [Part.together, same]
      exact added
    | watchExpiry k => exact rest.add_feedback _ _
    | feedbackTimerExpiry k => exact rest.add_feedback _ _
    | _ => exact rest

end Sys2Proof.Machine
end

section
/-!
# Contactor faults (O45)
-/
namespace Sys2Proof.Machine

variable {c d : Part} {q : List Instr}

/-! ### Records that stay in the event queue -/

/-- The record stands in the queue with at most `n` newer ones behind it. -/
def Part.Recent (e : EventRecord) (n : Nat) (c : Part) : Prop :=
  ∃ older newer, c.seq.events = older ++ e :: newer ∧ newer.length ≤ n

theorem Part.Recent.mem {e : EventRecord} {n : Nat} (recent : c.Recent e n) : e ∈ c.seq.events := by
  obtain ⟨older, newer, queue, -⟩ := recent
  simp [queue]

theorem Part.Recent.mono {e : EventRecord} {m n : Nat} (recent : c.Recent e m) (le : m ≤ n) : c.Recent e n := by
  obtain ⟨older, newer, queue, few⟩ := recent
  exact ⟨older, newer, queue, few.trans le⟩

theorem Part.Recent.congr {e : EventRecord} {n : Nat} (recent : c.Recent e n) (same : d.seq.events = c.seq.events) :
    d.Recent e n := by
  unfold Part.Recent
  rwa [same]

theorem Part.recent_of_last {e : EventRecord} (last : c.seq.events.getLast? = some e) : c.Recent e 0 := by
  obtain ⟨older, queue⟩ := List.getLast?_eq_some_iff.mp last
  exact ⟨older, [], queue, Nat.le_refl 0⟩

/-- One more record pushes out at most the oldest. -/
theorem Part.Recent.appendEvent {e : EventRecord} {n : Nat} (recent : c.Recent e n) (few : n ≤ 30) (kind : EventKind)
    (k : Option Contactor) (cause : Cause) (before after : ConnState) (current linkVoltage : Option Int) :
    (c.appendEvent kind k cause before after current linkVoltage).Recent e (n + 1) := by
  obtain ⟨older, newer, queue, short⟩ := recent
  unfold Part.Recent Part.appendEvent
  dsimp only
  rw [Part.offerAnswer_seq, queue]
  generalize EventRecord.mk _ _ _ _ _ _ _ _ _ = r
  cases older with
  | nil =>
    have room : ¬ 31 ≤ newer.length := by omega
    exact ⟨[], newer ++ [r], by simp [room], by simpa using short⟩
  | cons first others =>
    split
    · exact ⟨others, newer ++ [r], by simp, by simpa using short⟩
    · exact ⟨first :: others, newer ++ [r], by simp, by simpa using short⟩

/-! ### The end of an opening and LOCKED_OUT keep a recent record -/

theorem Part.Recent.opened {e : EventRecord} {n : Nat} (recent : c.Recent e n) (few : n ≤ 30) (after : ConnState) :
    (c.opened after).Recent e (n + 1) := by
  let before : Part := { c.openDrives with seq.conn := after, seq.tSo := none }
  have kept : before.Recent e n := recent.congr (by simp [before])
  have logged : (before.logOpening after c.seq.underLoad (c.seq.openingCause.getD .request)).Recent e (n + 1) := by
    unfold Part.logOpening
    split
    · exact kept.appendEvent few ..
    · exact kept.appendEvent few ..
  exact logged.congr rfl

theorem Part.Recent.enterLockedOut {e : EventRecord} {n : Nat} (recent : c.Recent e n) (few : n ≤ 30)
    (before : ConnState) : (c.enterLockedOut before).Recent e (n + 1) := by
  have kept : c.locked.Recent e n := recent.congr (by simp [Part.locked])
  exact (kept.appendEvent few .lockoutEnter none (.cls (c.seq.pendingLockout.getD .contactorFault)) before .lockedOut _ _).congr
    (congrArg (·.events) (Part.enterLockedOut_seq before c))

theorem Part.Recent.endOpening {e : EventRecord} {n : Nat} (recent : c.Recent e n) (few : n ≤ 29) :
    c.endOpening.Recent e (n + 2) := by
  cases pending : c.seq.pendingLockout with
  | none =>
    rw [Part.endOpening_of_none pending]
    exact (recent.opened (by omega) .opened).mono (by omega)
  | some k =>
    rw [Part.endOpening_of_pending pending]
    exact (recent.opened (by omega) .lockedOut).enterLockedOut (by omega) .opening

/-! ### OPENING goes on with lockout pending (R116, R117) -/

/-- OPENING goes on, or has ended in LOCKED_OUT, with the record in the queue. -/
structure Part.OpensOn (e : EventRecord) (n : Nat) (c : Part) : Prop where
  conn : c.seq.conn = .opening ∨ c.seq.conn = .lockedOut
  pending : c.seq.conn = .opening → c.seq.pendingLockout ≠ none
  recent : c.Recent e n

theorem Part.OpensOn.mono {e : EventRecord} {m n : Nat} (h : c.OpensOn e m) (le : m ≤ n) : c.OpensOn e n :=
  ⟨h.conn, h.pending, h.recent.mono le⟩

theorem Part.OpensOn.drive {e : EventRecord} {n : Nat} (h : c.OpensOn e n) (k : Contactor) (v : Bool) :
    (c.drive k v).OpensOn e n := by
  have conn : (c.drive k v).seq.conn = c.seq.conn := by rw [Part.drive_seq, Sequencer.withContactor_conn]
  have pending : (c.drive k v).seq.pendingLockout = c.seq.pendingLockout := by
    rw [Part.drive_seq]
    cases k <;> rfl
  exact ⟨conn ▸ h.conn, conn ▸ pending ▸ h.pending, h.recent.congr (by simp)⟩

theorem Part.OpensOn.ended {e : EventRecord} {n : Nat} (h : c.OpensOn e n) (opening : c.seq.conn = .opening) :
    c.endOpening.seq.conn = .lockedOut := by
  obtain ⟨conn, -⟩ := Part.endOpening_shows c
  rwa [if_neg (h.pending opening)] at conn

theorem Part.OpensOn.endOpening {e : EventRecord} (h : c.OpensOn e 0) (opening : c.seq.conn = .opening) :
    c.endOpening.OpensOn e 2 := by
  have conn := h.ended opening
  exact ⟨.inr conn, fun still => by simp [conn] at still, h.recent.endOpening (by omega)⟩

theorem Part.advanceOpening_of_not_opening (out : c.seq.conn ≠ .opening) : c.advanceOpening = c := by
  simp [Part.advanceOpening, out]

theorem Part.OpensOn.advanceOpening {e : EventRecord} (h : c.OpensOn e 0) : c.advanceOpening.OpensOn e 2 := by
  let c1 : Part := if c.seq.conn = .opening ∧ c.feedback .kPos = false then c.drive .kNeg false else c
  have driven : c1.OpensOn e 0 := by
    simp only [c1]
    split
    · exact h.drive .kNeg false
    · exact h
  have result : c.advanceOpening = if c1.seq.conn = .opening ∧ c1.seq.kNeg.drive = false ∧ c1.feedback .kNeg = false
      then c1.endOpening else c1 := rfl
  rw [result]
  split
  next ends => exact driven.endOpening ends.1
  next => exact driven.mono (by omega)

/-! ### The sequencer's part of a fault (R106) -/

/-- What a contactor fault leaves of the sequencer. -/
structure FaultMade (c t : Part) (kind : EventKind) (k : Contactor) (cause : Cause) : Prop where
  conn : t.seq.conn = .opening ∨ t.seq.conn = .lockedOut
  rest : c.seq.conn = .opened ∨ c.seq.conn = .lockedOut → t.seq.conn = .lockedOut
  pending : t.seq.conn = .opening → t.seq.pendingLockout ≠ none
  kept : c.seq.conn = .lockedOut → t.seq.pendingLockout = some (c.seq.pendingLockout.getD .contactorFault)
  event : ∃ e, t.Recent e 2 ∧ e.kind = kind ∧ e.contactor = some k ∧ e.cause = cause ∧ e.time = c.sched.packTime

theorem Part.setPending_seq (x : FaultClass) (c : Part) : (c.setPending x).seq =
    { c.seq with pendingLockout := some (c.seq.pendingLockout.getD x) } := by
  unfold Part.setPending
  cases c.seq.pendingLockout <;> rfl

theorem Part.logEvent_opensOn (kind : EventKind) (k : Contactor) (cause : Cause) (before after : ConnState)
    (opening : c.seq.conn = .opening) (pending : c.seq.pendingLockout ≠ none) : ∃ e,
    (c.logEvent kind (some k) cause before after).OpensOn e 0 ∧ e.kind = kind ∧ e.contactor = some k ∧ e.cause = cause ∧
      e.time = c.sched.packTime := by
  obtain ⟨e, last, isKind, isContactor, isCause, -, -, time⟩ := Part.logEvent_last kind (some k) cause before after c
  have seq := Part.logEvent_seq kind (some k) cause before after c
  refine ⟨e, ⟨.inl ?_, fun _ => ?_, Part.recent_of_last last⟩, isKind, isContactor, isCause, time⟩
  · rw [seq]
    exact opening
  · rw [seq]
    exact pending

/-- A fault in a close, CLOSED or SOFT_OPENING: OPENING is entered (R106). -/
theorem Part.faultTransition_of_moving (moving : c.seq.conn.atRest = false) (not_yet : c.seq.conn ≠ .opening)
    (kind : EventKind) (k : Contactor) (cause : Cause) : c.faultTransition kind k cause =
      ((((c.setPending .contactorFault).enterOpening (.cls .contactorFault)).logEvent kind (some k) cause c.seq.conn
        .opening).advanceOpening) := by
  cases conn : c.seq.conn <;> simp_all [Part.faultTransition, ConnState.atRest]

/-- A fault in OPENING: a weld lets the sequence go on (R106, R116). -/
theorem Part.faultTransition_of_opening (opening : c.seq.conn = .opening) (kind : EventKind) (k : Contactor)
    (cause : Cause) : c.faultTransition kind k cause =
      let c1 := (c.setPending .contactorFault).logEvent kind (some k) cause .opening .opening
      if kind = .weld ∧ k = .kPos then (c1.drive .kNeg false).advanceOpening
      else if kind = .weld ∧ k = .kNeg then c1.endOpening.advanceOpening
      else c1.advanceOpening := by
  simp only [Part.faultTransition, opening]
  split
  · rfl
  · split <;> rfl

theorem Part.OpensOn.made {t : Part} {e : EventRecord} {kind : EventKind} {k : Contactor} {cause : Cause}
    (opens : t.OpensOn e 2) (moving : c.seq.conn.atRest = false) (isKind : e.kind = kind)
    (isContactor : e.contactor = some k) (isCause : e.cause = cause) (stamp : e.time = c.sched.packTime) :
    FaultMade c t kind k cause := by
  have awake : ¬ (c.seq.conn = .opened ∨ c.seq.conn = .lockedOut) := fun rest => by
    simp [(ConnState.atRest_iff _).mpr rest] at moving
  exact ⟨opens.conn, fun rest => (awake rest).elim, opens.pending, fun locked => (awake (.inr locked)).elim, e,
    opens.recent, isKind, isContactor, isCause, stamp⟩

theorem Part.faultTransition_made (kind : EventKind) (k : Contactor) (cause : Cause) (c : Part) :
    FaultMade c (c.faultTransition kind k cause) kind k cause := by
  have time : (c.setPending .contactorFault).sched.packTime = c.sched.packTime := by simp
  have pends : (c.setPending .contactorFault).seq.pendingLockout ≠ none := by simp [Part.setPending_seq]
  have conn : (c.setPending .contactorFault).seq.conn = c.seq.conn := by rw [Part.setPending_seq]
  by_cases opening : c.seq.conn = .opening
  · obtain ⟨e, opens, isKind, isContactor, isCause, stamp⟩ := Part.logEvent_opensOn kind k cause .opening .opening
      (conn.trans opening) pends
    have moving : c.seq.conn.atRest = false := by rw [opening]; rfl
    rw [Part.faultTransition_of_opening opening]
    dsimp only
    split
    · exact (opens.drive .kNeg false).advanceOpening.made moving isKind isContactor isCause (stamp.trans time)
    · split
      · have still : ((c.setPending .contactorFault).logEvent kind (some k) cause .opening .opening).seq.conn =
            .opening := by
          rw [Part.logEvent_seq]
          exact conn.trans opening
        rw [Part.advanceOpening_of_not_opening (by rw [opens.ended still]; nofun)]
        exact (opens.endOpening still).made moving isKind isContactor isCause (stamp.trans time)
      · exact opens.advanceOpening.made moving isKind isContactor isCause (stamp.trans time)
  · cases rest : c.seq.conn.atRest with
    | false =>
      obtain ⟨only, entered, -, -, -, -, -, -, -, -, pending⟩ :=
        Part.enterOpening_shows (.cls .contactorFault) (c.setPending .contactorFault)
      obtain ⟨e, opens, isKind, isContactor, isCause, stamp⟩ := Part.logEvent_opensOn kind k cause c.seq.conn .opening
        entered (pending ▸ pends)
      rw [Part.faultTransition_of_moving rest opening]
      exact opens.advanceOpening.made rest isKind isContactor isCause
        (stamp.trans ((congrArg (·.sched.packTime) only).trans time))
    | true =>
      obtain opened | locked := (ConnState.atRest_iff _).mp rest
      · let noted := (c.setPending .contactorFault).logEvent kind (some k) cause .opened .lockedOut
        obtain ⟨e, last, isKind, isContactor, isCause, -, -, stamp⟩ :=
          Part.logEvent_last kind (some k) cause .opened .lockedOut (c.setPending .contactorFault)
        have effect : c.faultTransition kind k cause = noted.enterLockedOut .opened := by
          simp only [Part.faultTransition, opened, noted]
        obtain ⟨out, -⟩ := Part.enterLockedOut_shows .opened noted
        rw [effect]
        exact ⟨.inr out, fun _ => out, fun still => by simp [out] at still, fun locked => by simp [opened] at locked, e,
          ((Part.recent_of_last last).enterLockedOut (by omega) .opened).mono (by omega), isKind, isContactor, isCause,
          stamp.trans time⟩
      · obtain ⟨e, last, isKind, isContactor, isCause, -, -, stamp⟩ :=
          Part.logEvent_last kind (some k) cause .lockedOut .lockedOut (c.setPending .contactorFault)
        have effect : c.faultTransition kind k cause =
            (c.setPending .contactorFault).logEvent kind (some k) cause .lockedOut .lockedOut := by
          simp only [Part.faultTransition, locked]
        have seq := Part.logEvent_seq kind (some k) cause .lockedOut .lockedOut (c.setPending .contactorFault)
        have out : ((c.setPending .contactorFault).logEvent kind (some k) cause .lockedOut .lockedOut).seq.conn =
            .lockedOut := by
          rw [seq]
          exact conn.trans locked
        rw [effect]
        refine ⟨.inr out, fun _ => out, fun still => ConnState.noConfusion (out.symm.trans still), fun _ => ?_, e,
          (Part.recent_of_last last).mono (by omega), isKind, isContactor, isCause, stamp.trans time⟩
        rw [seq, Part.setPending_seq]

/-! ### The interlock unit's part of a fault, and the record read first (R106) -/

theorem Part.refreshAction_seq (c : Part) : c.refreshAction.seq = c.ordered.seq :=
  congrArg (·.seq) (Part.refreshAction_ordered c)

theorem Part.refreshAction_of_lockedOut (locked : c.seq.conn = .lockedOut) : c.refreshAction.seq = c.seq := by
  rw [Part.refreshAction_seq]
  unfold Part.ordered
  split
  · rfl
  · rw [Part.takeAction_of_quiet (c := { c with interlock.effective := c.effectiveAction }) (.inr (.inl locked))]

/-- A new action in OPENING can only set another class for the lockout that is pending (R113). -/
theorem Part.refreshAction_of_opening (opening : c.seq.conn = .opening) :
    c.refreshAction.seq = { c.seq with pendingLockout := c.refreshAction.seq.pendingLockout } ∧
    (c.seq.pendingLockout ≠ none → c.refreshAction.seq.pendingLockout ≠ none) := by
  rw [Part.refreshAction_seq]
  unfold Part.ordered
  split
  · exact ⟨rfl, id⟩
  next new =>
    by_cases low : c.effectiveAction.code < 2
    · rw [Part.takeAction_of_quiet (c := { c with interlock.effective := c.effectiveAction }) (.inl low)]
      exact ⟨rfl, id⟩
    · rw [Part.takeAction_of_opening (c := { c with interlock.effective := c.effectiveAction }) (Nat.not_lt.mp low)
        opening, Part.withOrder_seq (c := { c with interlock.effective := c.effectiveAction }) (fun locked => ConnState.noConfusion (opening.symm.trans locked))]
      refine ⟨rfl, fun pending => ?_⟩
      dsimp only
      split
      · nofun
      · exact pending

theorem FaultMade.refreshAction {t : Part} {kind : EventKind} {k : Contactor} {cause : Cause}
    (h : FaultMade c t kind k cause) : FaultMade c t.refreshAction kind k cause := by
  obtain ⟨e, recent, about⟩ := h.event
  obtain opening | locked := h.conn
  · obtain ⟨seq, pending⟩ := Part.refreshAction_of_opening opening
    have conn : t.refreshAction.seq.conn = t.seq.conn := congrArg (·.conn) seq
    refine ⟨conn ▸ h.conn, fun rest => conn.trans (h.rest rest), fun _ => pending (h.pending opening), fun locked => ?_, e,
      recent.congr (congrArg (·.events) seq), about⟩
    exact absurd (opening.symm.trans (h.rest (.inr locked))) nofun
  · have seq := Part.refreshAction_of_lockedOut locked
    exact ⟨seq ▸ h.conn, seq ▸ h.rest, seq ▸ h.pending, seq ▸ h.kept, e, recent.congr (by rw [seq]), about⟩

/-- A move that leaves the sequencer alone. -/
theorem FaultMade.congr {t u : Part} {kind : EventKind} {k : Contactor} {cause : Cause}
    (h : FaultMade c t kind k cause) (seq : u.seq = t.seq) : FaultMade c u kind k cause := by
  obtain ⟨e, recent, about⟩ := h.event
  exact ⟨seq ▸ h.conn, seq ▸ h.rest, seq ▸ h.pending, seq ▸ h.kept, e, recent.congr (by rw [seq]), about⟩

theorem Part.notice_seq (k : FaultClass) (c : Part) : (c.notice k).seq = c.seq := by simp

theorem FaultMade.eventClass {t : Part} {kind : EventKind} {k : Contactor} {cause : Cause}
    (h : FaultMade c t kind k cause) (x : FaultClass) : FaultMade c (t.eventClass x) kind k cause := by
  let recorded := t.recordTrip (packKey x) t.now none
  have noted : FaultMade c { recorded with interlock.events := recorded.interlock.events ||| x.bit } kind k cause :=
    h.congr (by simp [recorded])
  unfold Part.eventClass
  dsimp only
  split
  · exact noted.refreshAction
  · exact noted.refreshAction.congr (Part.notice_seq ..)

/-! ### Rest (OPEN and LOCKED_OUT) -/

/-- The contactors at rest: OPEN or LOCKED_OUT; from LOCKED_OUT nothing moves, and OPEN may give way to LOCKED_OUT. -/
structure Rests (c t : Part) : Prop where
  conn : t.seq.conn = .opened ∨ t.seq.conn = .lockedOut
  locked : c.seq.conn = .lockedOut → t.seq.conn = .lockedOut ∧ t.seq.pendingLockout = c.seq.pendingLockout

theorem Rests.trans {t u : Part} (h : Rests c t) (h' : Rests t u) : Rests c u :=
  ⟨h'.conn, fun locked => by
    obtain ⟨out, pending⟩ := h.locked locked
    obtain ⟨out', pending'⟩ := h'.locked out
    exact ⟨out', pending'.trans pending⟩⟩

theorem Rests.of_seq {t : Part} (rest : c.seq.conn = .opened ∨ c.seq.conn = .lockedOut)
    (conn : t.seq.conn = c.seq.conn := by simp) (pending : t.seq.pendingLockout = c.seq.pendingLockout := by simp) :
    Rests c t := ⟨conn ▸ rest, fun locked => ⟨conn.trans locked, pending⟩⟩

theorem Part.refreshAction_rests (rest : c.seq.conn = .opened ∨ c.seq.conn = .lockedOut) :
    Rests c c.refreshAction := by
  obtain opened | locked := rest
  · refine ⟨?_, fun locked => by simp [opened] at locked⟩
    rw [Part.refreshAction_conn_of_opened opened]
    split <;> simp
  · have seq := Part.refreshAction_of_lockedOut locked
    exact .of_seq (.inr locked) (by rw [seq]) (by rw [seq])

theorem Part.countTrip_rests (o : FaultObject) (rest : c.seq.conn = .opened ∨ c.seq.conn = .lockedOut) :
    Rests c (c.countTrip o) := by
  unfold Part.countTrip
  split
  · exact .of_seq rest rfl rfl
  · obtain ⟨conn, locked⟩ := Part.refreshAction_rests (c := { c with
      interlock.tripped := c.interlock.tripped ++ [o],
      interlock.latches := if c.tables.latches o.cls then c.interlock.latches ||| o.cls.bit else c.interlock.latches }) rest
    exact ⟨conn, locked⟩

theorem Part.tripObject_rests (o : FaultObject) (rest : c.seq.conn = .opened ∨ c.seq.conn = .lockedOut) :
    Rests c (c.tripObject o) := by
  have counted := Part.countTrip_rests o rest
  obtain same | noticed := Part.tripObject_cases o .now c
  · rwa [same]
  · rw [noticed]
    exact counted.trans (.of_seq counted.conn)

theorem Part.readRecord_rests (rest : c.seq.conn = .opened ∨ c.seq.conn = .lockedOut) : Rests c c.readRecord := by
  cases read : c.store.recordRead with
  | true =>
    rw [Part.readRecord_of_read read]
    exact .of_seq rest rfl rfl
  | false =>
    have taken : Rests c (c.withRecord c.bootRecord) := by
      unfold Part.withRecord
      dsimp only
      split
      · refine ⟨.inr rfl, fun locked => ⟨rfl, ?_⟩⟩
        exact (congrArg Sequencer.pendingLockout (Part.openDrives_contactors _)).trans rfl
      · exact .of_seq rest rfl rfl
    have tripped : Rests c ((c.withRecord c.bootRecord).setCondition .tamper) :=
      taken.trans (Rests.trans (.of_seq taken.conn) (Part.tripObject_rests _ (by simpa using taken.conn)))
    rw [Part.readRecord_of_unread read]
    split
    · exact ⟨tripped.conn, tripped.locked⟩
    · exact ⟨taken.conn, taken.locked⟩

/-! ### A contactor fault in any power state (R106, R145, R153) -/

theorem Part.notice_power (k : FaultClass) (c : Part) : (c.notice k).power = c.power ∨
    ((c.notice k).power.state = .active ∧ (c.notice k).power.hostWake = true) := by
  unfold Part.notice
  split
  · right
    rw [Part.escalate_power]
    exact ⟨rfl, rfl⟩
  · exact .inl rfl

theorem Part.setCondition_woken (k : FaultClass) (c : Part) : (c.setCondition k).power = c.power ∨
    ((c.setCondition k).power.state = .active ∧ (c.setCondition k).power.hostWake = true) := by
  let recorded := c.recordTrip (packKey k) c.now none
  have same : (recorded.countTrip (packObject k)).power = c.power := by simp [recorded]
  have tripped : c.setCondition k = recorded.tripObject (packObject k) := rfl
  rw [tripped]
  obtain counted | noticed := Part.tripObject_cases (packObject k) .now recorded
  · rw [counted]
    exact .inl same
  · rw [noticed, ← same]
    exact Part.notice_power ..

theorem Part.readRecord_woken (c : Part) : c.readRecord.power = c.power ∨
    (c.readRecord.power.state = .active ∧ c.readRecord.power.hostWake = true) := by
  cases read : c.store.recordRead with
  | true => exact .inl (by rw [Part.readRecord_of_read read])
  | false =>
    have same : (c.withRecord c.bootRecord).power = c.power := by
      unfold Part.withRecord
      dsimp only
      split <;> simp
    rw [Part.readRecord_of_unread read]
    split
    · rw [← same]
      exact Part.setCondition_woken .tamper (c.withRecord c.bootRecord)
    · exact .inl same

/-- The wake cause that a fault carries where the part is asleep (R145, R153). -/
def Part.wakeByFault (c : Part) : Part :=
  match c.power.state with
  | .sleepEntry => c.abandonEntry .feedback
  | .patrol => c.escalate .feedback none
  | .active | .deep => c

theorem Part.contactorFault_eq (kind : EventKind) (k : Contactor) (cause : Cause) (c : Part) :
    c.contactorFault kind k cause =
      ((c.readRecord.faultTransition kind k cause).wakeByFault).eventClass .contactorFault := rfl

theorem Part.wakeByFault_seq (c : Part) : c.wakeByFault.seq = c.seq := by
  unfold Part.wakeByFault
  split <;> simp

theorem Part.wakeByFault_power (awake : c.power.state ≠ .deep) : c.wakeByFault.power.state = .active ∧
    (c.power.state = .patrol → c.wakeByFault.power.hostWake = true) ∧
    (c.power.state = .active → c.wakeByFault.power = c.power) := by
  unfold Part.wakeByFault
  split
  next entry =>
    rw [Part.abandonEntry_power]
    exact ⟨rfl, fun patrol => by simp [entry] at patrol, fun active => by simp [entry] at active⟩
  next patrol =>
    rw [Part.escalate_power]
    exact ⟨rfl, fun _ => rfl, fun active => by simp [patrol] at active⟩
  next active => exact ⟨active, fun patrol => by simp [active] at patrol, fun _ => rfl⟩
  next deep => exact absurd deep awake

/-- The part before the event of the fault: ACTIVE, and woken from a patrol with HOST_WAKE. -/
theorem Part.faultWoken (awake : c.power.state ≠ .deep) (kind : EventKind) (k : Contactor) (cause : Cause) :
    let t := (c.readRecord.faultTransition kind k cause).wakeByFault
    t.power.state = .active ∧ (c.power.state = .patrol → t.power.hostWake = true) := by
  intro t
  have moved : (c.readRecord.faultTransition kind k cause).power = c.readRecord.power := by simp
  obtain same | ⟨active, hostWake⟩ := c.readRecord_woken
  · obtain ⟨state, woken, -⟩ := Part.wakeByFault_power (c := c.readRecord.faultTransition kind k cause)
      (by rw [moved, same]; exact awake)
    exact ⟨state, fun patrol => woken (by rw [moved, same]; exact patrol)⟩
  · obtain ⟨state, -, still⟩ := Part.wakeByFault_power (c := c.readRecord.faultTransition kind k cause)
      (by rw [moved, active]; nofun)
    have kept : t.power = c.readRecord.power := (still (by rw [moved, active])).trans moved
    exact ⟨state, fun _ => kept ▸ hostWake⟩

theorem Part.contactorFault_power (awake : c.power.state ≠ .deep) (kind : EventKind) (k : Contactor) (cause : Cause) :
    (c.contactorFault kind k cause).power.state = .active ∧
    (c.power.state = .patrol → (c.contactorFault kind k cause).power.hostWake = true) := by
  obtain ⟨state, hostWake⟩ := Part.faultWoken awake kind k cause
  rw [Part.contactorFault_eq, Part.eventClass_power (by rw [state]; nofun)]
  exact ⟨state, hostWake⟩

theorem Part.contactorFault_hasClass (awake : c.power.state ≠ .deep) (kind : EventKind) (k : Contactor) (cause : Cause) :
    hasClass (c.contactorFault kind k cause).interlock.events .contactorFault = true := by
  obtain ⟨state, -⟩ := Part.faultWoken awake kind k cause
  rw [Part.contactorFault_eq, Part.eventClass_events (by rw [state]; nofun), hasClass_set]
  simp

theorem Part.contactorFault_levelled (awake : c.power.state ≠ .deep) (kind : EventKind) (k : Contactor) (cause : Cause) :
    (c.contactorFault kind k cause).levelled := by
  obtain ⟨state, -⟩ := Part.faultWoken awake kind k cause
  rw [Part.contactorFault_eq, Part.eventClass_of_not_patrol (by rw [state]; nofun)]
  exact Part.refreshAction_levelled _

theorem FaultMade.of_rests {t : Part} {kind : EventKind} {k : Contactor} {cause : Cause} (h : FaultMade d t kind k cause)
    (rests : c.seq.conn = .opened ∨ c.seq.conn = .lockedOut → Rests c d)
    (time : d.sched.packTime = c.sched.packTime) : FaultMade c t kind k cause := by
  obtain ⟨e, recent, isKind, isContactor, isCause, stamp⟩ := h.event
  refine ⟨h.conn, fun rest => h.rest (rests rest).conn, h.pending, fun locked => ?_, e, recent, isKind, isContactor,
    isCause, stamp.trans time⟩
  obtain ⟨out, pending⟩ := (rests (.inr locked)).locked locked
  rw [← pending]
  exact h.kept out

theorem Part.contactorFault_made (kind : EventKind) (k : Contactor) (cause : Cause) (c : Part) :
    FaultMade c (c.contactorFault kind k cause) kind k cause := by
  have made := Part.faultTransition_made kind k cause c.readRecord
  rw [Part.contactorFault_eq]
  exact ((made.congr (Part.wakeByFault_seq _)).eventClass _).of_rests Part.readRecord_rests (by simp)

/-! ### The contactors through a wake from DEEP -/

/-- OPEN or LOCKED_OUT with every drive open. -/
structure Sequencer.Dark (s : Sequencer) : Prop where
  conn : s.conn = .opened ∨ s.conn = .lockedOut
  kPos : s.kPos.drive = false
  kNeg : s.kNeg.drive = false
  kPre : s.kPre.drive = false

theorem Part.dark_of_deep (laws : c.contactorLaws = true) (deep : c.power.state = .deep) : c.seq.Dark := by
  obtain ⟨fit, active, -⟩ := (Part.contactorLaws_iff c).mp laws
  have rest := (ConnState.atRest_iff _).mp (active.resolve_left (by simp [deep]))
  obtain conn | conn := rest <;> simp only [Part.drivesFit, conn, Bool.and_eq_true, Bool.not_eq_true'] at fit <;>
    obtain ⟨⟨neg, pre⟩, pos⟩ := fit
  · exact ⟨.inl conn, pos, neg, pre⟩
  · exact ⟨.inr conn, pos, neg, pre⟩

/-- At rest, and the contactors as they were. -/
structure Still (c t : Part) : Prop where
  rests : Rests c t
  kept : t.seq.kPos = c.seq.kPos ∧ t.seq.kNeg = c.seq.kNeg ∧ t.seq.kPre = c.seq.kPre

theorem Still.trans {t u : Part} (h : Still c t) (h' : Still t u) : Still c u := by
  obtain ⟨pos, neg, pre⟩ := h.kept
  obtain ⟨pos', neg', pre'⟩ := h'.kept
  exact ⟨h.rests.trans h'.rests, pos'.trans pos, neg'.trans neg, pre'.trans pre⟩

theorem Still.dark {t : Part} (h : Still c t) (dark : c.seq.Dark) : t.seq.Dark := by
  obtain ⟨pos, neg, pre⟩ := h.kept
  exact ⟨h.rests.conn, pos ▸ dark.kPos, neg ▸ dark.kNeg, pre ▸ dark.kPre⟩

theorem Still.of_seq {t : Part} (dark : c.seq.Dark) (seq : t.seq = c.seq := by simp) : Still c t :=
  ⟨.of_seq dark.conn (by rw [seq]) (by rw [seq]), by rw [seq], by rw [seq], by rw [seq]⟩

/-- A move that starts from the same sequencer. -/
theorem Still.from_seq {d t : Part} (h : Still d t) (seq : d.seq = c.seq) : Still c t := by
  obtain ⟨⟨conn, locked⟩, kept⟩ := h
  rw [seq] at locked kept
  exact ⟨⟨conn, locked⟩, kept⟩

theorem Part.refreshAction_still (dark : c.seq.Dark) : Still c c.refreshAction := by
  refine ⟨Part.refreshAction_rests dark.conn, ?_⟩
  obtain opened | locked := dark.conn
  · rw [Part.refreshAction_seq]
    unfold Part.ordered
    split
    · simp
    · let asked : Part := { c with interlock.effective := c.effectiveAction }
      by_cases lockout : c.effectiveAction = .lockout
      · have order : (asked.withOrder c.effectiveAction).seq.kPos = c.seq.kPos ∧
            (asked.withOrder c.effectiveAction).seq.kNeg = c.seq.kNeg ∧
            (asked.withOrder c.effectiveAction).seq.kPre = c.seq.kPre := by
          unfold Part.withOrder
          split <;> exact ⟨rfl, rfl, rfl⟩
        have kept : (asked.withOrder c.effectiveAction).openDrives = asked.withOrder c.effectiveAction := by
          obtain ⟨pos, neg, pre⟩ := order
          exact Part.openDrives_of_open (by rw [pos, dark.kPos]) (by rw [neg, dark.kNeg]) (by rw [pre, dark.kPre])
        rw [Part.takeAction_of_opened (c := asked) opened lockout, Part.enterLockedOut_seq, Part.logEvent_seq,
          Part.locked, kept]
        exact order
      · rw [Part.takeAction_of_quiet (c := asked) (.inr (.inr (.inl ⟨opened, lockout⟩)))]
        simp [asked]
  · rw [Part.refreshAction_of_lockedOut locked]
    simp

theorem Part.objectsToNormal_still (dark : c.seq.Dark) : Still c c.objectsToNormal := by
  have seq : c.clearRecords.seq = c.seq := by simp
  exact (Part.refreshAction_still (c := { c.clearRecords with
    eval.channels := Vector.replicate 16 (Vector.replicate 16 ChanState.normal), eval.sum := ChanState.normal,
    eval.sense := Vector.replicate 16 ObjState.normal, eval.lost := Vector.replicate 16 ObjState.normal,
    sched.missed := Vector.replicate 16 0,
    interlock.tripped := c.clearRecords.interlock.tripped.filter (fun o => !o.cls.ofEvaluator) })
    (by rw [seq]; exact dark)).from_seq seq

theorem Part.woken_still (dark : c.seq.Dark) : Still c c.woken := by
  let stopped : Part := { c with power.patrolTimer := none }
  have normal : Still c stopped.objectsToNormal := (Part.objectsToNormal_still (c := stopped) dark).from_seq rfl
  let active : Part := { stopped.objectsToNormal with power.state := .active, power.step := .none }
  have formed : Still c active.restartSupervision.refreshAction :=
    normal.trans ((Part.refreshAction_still (c := active.restartSupervision) (normal.dark dark)).from_seq rfl)
  exact formed.trans (.of_seq (formed.dark dark) (by simp [Part.woken, active, stopped]))

theorem Part.sleepFeedbacks_of_any_false {f : ContactorFlags} (none_closed : f.any = false) :
    c.sleepFeedbacks f = c := by
  obtain ⟨kPos, kNeg, kPre⟩ := f
  simp only [ContactorFlags.any, Bool.or_eq_false_iff] at none_closed
  obtain ⟨⟨rfl, rfl⟩, rfl⟩ := none_closed
  rfl

/-! ### The sequencer runs again (R120) -/

theorem Part.passCheck_other {j k : Contactor} (other : j ≠ k) (c : Part) :
    (c.passCheck j).seq.contactor k = c.seq.contactor k := by
  rw [Part.passCheck_eq]
  cases j <;> cases k <;> simp_all [Part.withContactor, Sequencer.withContactor]

theorem Part.updateWatch_other {j k : Contactor} (other : j ≠ k) (awake : c.power.state ≠ .deep) :
    (c.updateWatch j).seq.contactor k = c.seq.contactor k := by
  rw [Part.updateWatch_eq j awake]
  cases j <;> cases k <;> simp_all [Part.withContactor, Sequencer.withContactor]

theorem Part.passCheck_own (k : Contactor) (c : Part) : (c.passCheck k).seq.contactor k =
    { c.seq.contactor k with timer := (c.seq.contactor k).timer.filter (fun t => t.target != c.feedback k) } := by
  rw [Part.passCheck_eq, Part.withContactor, Sequencer.contactor_withContactor]

theorem Part.updateWatch_own (k : Contactor) (awake : c.power.state ≠ .deep) : (c.updateWatch k).seq.contactor k =
    { c.seq.contactor k with watch := c.watchAfter k (c.seq.contactor k) } := by
  rw [Part.updateWatch_eq k awake, Part.withContactor, Sequencer.contactor_withContactor]

theorem Part.passChecks_contactor (k : Contactor) (c : Part) :
    (((c.passCheck .kPos).passCheck .kNeg).passCheck .kPre).seq.contactor k =
      { c.seq.contactor k with timer := (c.seq.contactor k).timer.filter (fun t => t.target != c.feedback k) } := by
  have feedback (j : Contactor) (d : Part) : (d.passCheck j).feedback k = d.feedback k := by simp [Part.feedback]
  cases k
  · rw [Part.passCheck_other (by decide), Part.passCheck_other (by decide), Part.passCheck_own]
  · rw [Part.passCheck_other (by decide), Part.passCheck_own, Part.passCheck_other (by decide), feedback]
  · rw [Part.passCheck_own, Part.passCheck_other (by decide), Part.passCheck_other (by decide), feedback, feedback]

theorem Part.watchAfter_congr {k : Contactor} (lines : d.lines = c.lines) (time : d.sched.packTime = c.sched.packTime)
    (tables : d.store.tables = c.store.tables) (x : ContactorState) : d.watchAfter k x = c.watchAfter k x := by
  unfold Part.watchAfter Part.now Part.tables Part.feedback
  rw [lines, time, tables]

theorem Part.updateWatches_contactor (awake : c.power.state ≠ .deep) (k : Contactor) :
    c.updateWatches.seq.contactor k = { c.seq.contactor k with watch := c.watchAfter k (c.seq.contactor k) } := by
  have awake' (j : Contactor) : (c.updateWatch j).power.state ≠ .deep := by simpa using awake
  have awake'' (i j : Contactor) : ((c.updateWatch j).updateWatch i).power.state ≠ .deep := by simpa using awake
  have first (j : Contactor) (x : ContactorState) : (c.updateWatch j).watchAfter k x = c.watchAfter k x :=
    Part.watchAfter_congr (by simp) (by simp) (by simp) x
  have second (i j : Contactor) (x : ContactorState) :
      ((c.updateWatch j).updateWatch i).watchAfter k x = c.watchAfter k x :=
    Part.watchAfter_congr (by simp) (by simp) (by simp) x
  unfold Part.updateWatches
  cases k
  · rw [Part.updateWatch_other (j := .kPre) (k := .kPos) (by decide) (awake'' .kNeg .kPos),
      Part.updateWatch_other (j := .kNeg) (k := .kPos) (by decide) (awake' .kPos), Part.updateWatch_own _ awake]
  · rw [Part.updateWatch_other (j := .kPre) (k := .kNeg) (by decide) (awake'' .kNeg .kPos),
      Part.updateWatch_own _ (awake' .kPos),
      Part.updateWatch_other (j := .kPos) (k := .kNeg) (by decide) awake, first]
  · rw [Part.updateWatch_own _ (awake'' .kNeg .kPos),
      Part.updateWatch_other (j := .kNeg) (k := .kPre) (by decide) (awake' .kPos),
      Part.updateWatch_other (j := .kPos) (k := .kPre) (by decide) awake, second]

/-- What the sequencer that runs again makes of one contactor: its check, and then its watch. -/
theorem Part.resumeSequencer_contactor (awake : c.power.state ≠ .deep) (k : Contactor) :
    c.resumeSequencer.seq.contactor k =
      let checked : ContactorState :=
        { c.seq.contactor k with timer := (c.seq.contactor k).timer.filter (fun t => t.target != c.feedback k) }
      { checked with watch := c.watchAfter k checked } := by
  have after := Part.updateWatches_contactor (c := ((c.passCheck .kPos).passCheck .kNeg).passCheck .kPre)
    (by simpa using awake) k
  rw [Part.watchAfter_congr (c := c) (by simp) (by simp) (by simp), Part.passChecks_contactor] at after
  exact after

/-! ### Expired checks and watches (R104, R105; log entry 47) -/

theorem Part.contactorLaws_of_drives (conn : d.seq.conn = c.seq.conn)
    (drives : ∀ k, (d.seq.contactor k).drive = (c.seq.contactor k).drive) (power : d.power = c.power)
    (store : d.store = c.store) (laws : c.contactorLaws = true) : d.contactorLaws = true := by
  have pos : d.seq.kPos.drive = c.seq.kPos.drive := drives .kPos
  have neg : d.seq.kNeg.drive = c.seq.kNeg.drive := drives .kNeg
  have pre : d.seq.kPre.drive = c.seq.kPre.drive := drives .kPre
  rw [← laws]
  simp only [Part.contactorLaws, Part.drivesFit, conn, pos, neg, pre, power, store]

/-- The contactor whose check has failed, with its watch. -/
def Part.failedCheck (k : Contactor) (c : Part) : Part :=
  (c.withContactor k { c.seq.contactor k with timer := none }).updateWatch k

/-- The contactor whose watch has found its fault. -/
def Part.spentWatch (k : Contactor) (c : Part) : Part :=
  c.withContactor k { c.seq.contactor k with watch := .spent }

theorem Part.failCheck_of_due {k : Contactor} {tm : FbTimer} (runs : (c.seq.contactor k).timer = some tm)
    (due : atOrAfter c.sched.packTime tm.expiry = true) : c.failCheck k =
      (c.failedCheck k).contactorFault (if tm.target then .failClose else .weld) k (.cls .contactorFault) := by
  simp only [Part.failCheck, runs, Part.now, due, if_true]
  rfl

theorem Part.failCheck_of_early {k : Contactor} {tm : FbTimer} (runs : (c.seq.contactor k).timer = some tm)
    (early : atOrAfter c.sched.packTime tm.expiry = false) : c.failCheck k = c := by
  simp only [Part.failCheck, runs, Part.now, early, Bool.false_eq_true, if_false]

theorem Part.spendWatch_of_due {k : Contactor} {e : Time} (runs : (c.seq.contactor k).watch = .timing e)
    (due : atOrAfter c.sched.packTime e = true) : c.spendWatch k =
      (c.spentWatch k).contactorFault .feedbackLost k (faultCause (decide (c.power.state = .patrol))) := by
  simp only [Part.spendWatch, runs, Part.now, due, if_true]
  rfl

theorem Part.spendWatch_of_early {k : Contactor} {e : Time} (runs : (c.seq.contactor k).watch = .timing e)
    (early : atOrAfter c.sched.packTime e = false) : c.spendWatch k = c := by
  simp only [Part.spendWatch, runs, Part.now, early, Bool.false_eq_true, if_false]

theorem Sequencer.withContactor_drive (s : Sequencer) (j k : Contactor) (x : ContactorState)
    (same : x.drive = (s.contactor j).drive) : ((s.withContactor j x).contactor k).drive = (s.contactor k).drive := by
  cases j <;> cases k <;> first | exact same | rfl

/-- A contactor's check and watch move nothing that a fault reads. -/
structure Settles (c d : Part) : Prop where
  seq : d.seq.conn = c.seq.conn ∧ d.seq.pendingLockout = c.seq.pendingLockout
  drives : ∀ k, (d.seq.contactor k).drive = (c.seq.contactor k).drive
  rest : d = { c with seq := d.seq }

theorem Part.withContactor_settles (k : Contactor) (x : ContactorState) (same : x.drive = (c.seq.contactor k).drive) :
    Settles c (c.withContactor k x) :=
  ⟨by cases k <;> exact ⟨rfl, rfl⟩, fun j => Sequencer.withContactor_drive c.seq k j x same, rfl⟩

theorem Settles.trans {e : Part} (h : Settles c d) (h' : Settles d e) : Settles c e := by
  obtain ⟨conn, pending⟩ := h.seq
  obtain ⟨conn', pending'⟩ := h'.seq
  exact ⟨⟨conn'.trans conn, pending'.trans pending⟩, fun k => (h'.drives k).trans (h.drives k), by rw [h'.rest, h.rest]⟩

theorem Part.updateWatch_settles (k : Contactor) (awake : c.power.state ≠ .deep) : Settles c (c.updateWatch k) := by
  rw [Part.updateWatch_eq k awake]
  exact Part.withContactor_settles k _ rfl

theorem Part.failedCheck_settles (k : Contactor) (awake : c.power.state ≠ .deep) : Settles c (c.failedCheck k) :=
  (Part.withContactor_settles k { c.seq.contactor k with timer := none } rfl).trans
    (Part.updateWatch_settles k (by simpa using awake))

theorem Part.passCheck_settles (k : Contactor) (c : Part) : Settles c (c.passCheck k) := by
  rw [Part.passCheck_eq]
  exact Part.withContactor_settles k _ rfl

theorem Part.spentWatch_settles (k : Contactor) (c : Part) : Settles c (c.spentWatch k) :=
  Part.withContactor_settles k _ rfl

theorem Settles.power (h : Settles c d) : d.power = c.power := by rw [h.rest]

theorem Part.resumeSequencer_settles (awake : c.power.state ≠ .deep) : Settles c c.resumeSequencer := by
  have checked := ((Part.passCheck_settles .kPos c).trans (Part.passCheck_settles .kNeg _)).trans
    (Part.passCheck_settles .kPre _)
  have pos := checked.trans (Part.updateWatch_settles .kPos (by rwa [checked.power]))
  have neg := pos.trans (Part.updateWatch_settles .kNeg (by rwa [pos.power]))
  exact neg.trans (Part.updateWatch_settles .kPre (by rwa [neg.power]))

theorem Settles.keeps (h : Settles c d) : Part.Keeps faultFields c d := by
  rw [h.rest]
  simp [Part.Keeps]

theorem Settles.laws (h : Settles c d) (laws : c.contactorLaws = true) : d.contactorLaws = true :=
  Part.contactorLaws_of_drives h.seq.1 h.drives h.power (by rw [h.rest]) laws

theorem Settles.rests (h : Settles c d) (rest : c.seq.conn = .opened ∨ c.seq.conn = .lockedOut) : Rests c d :=
  .of_seq rest h.seq.1 h.seq.2

/-! ### The part after a fault (R106) -/

/-- What a contactor fault leaves of the part. -/
structure Faulted (c t : Part) (kind : EventKind) (k : Contactor) (cause : Cause) : Prop where
  made : FaultMade c t kind k cause
  laws : t.contactorLaws = true
  levelled : t.levelled
  raised : hasClass t.interlock.events .contactorFault = true
  state : t.power.state = .active
  lines : t.lines = c.lines
  tables : t.store.tables = c.store.tables
  mgmt : t.mgmt = c.mgmt
  packTime : t.sched.packTime = c.sched.packTime

theorem Faulted.faultOut {t : Part} {kind : EventKind} {k : Contactor} {cause : Cause} (h : Faulted c t kind k cause)
    (locked : t.seq.conn = .lockedOut) : t.interlock.faultOut = true := by
  rw [h.levelled]
  simp [Part.faultLevel, locked]

theorem Faulted.drives {t : Part} {kind : EventKind} {k : Contactor} {cause : Cause} (h : Faulted c t kind k cause) :
    t.seq.kPos.drive = false ∧ t.seq.kPre.drive = false ∧ (t.seq.conn = .lockedOut → t.seq.kNeg.drive = false) := by
  have fit := ((Part.contactorLaws_iff t).mp h.laws).1
  obtain conn | conn := h.made.conn <;> simp only [Part.drivesFit, conn, Bool.and_eq_true, Bool.not_eq_true'] at fit
  · exact ⟨fit.2, fit.1, fun locked => by simp [conn] at locked⟩
  · obtain ⟨⟨neg, pre⟩, pos⟩ := fit
    exact ⟨pos, pre, fun _ => neg⟩

theorem Part.contactorFault_faulted (awake : c.power.state ≠ .deep) (laws : c.contactorLaws = true) (kind : EventKind)
    (k : Contactor) (cause : Cause) : Faulted c (c.contactorFault kind k cause) kind k cause :=
  ⟨Part.contactorFault_made .., (Calm.contactorFault (.refl .now c) ..).contactors laws,
    Part.contactorFault_levelled awake .., Part.contactorFault_hasClass awake .., (Part.contactorFault_power awake ..).1,
    by simp, by simp, by simp, by simp⟩

/-- A part from which the fault is made shows the same fault. -/
theorem Faulted.of_rests {t : Part} {kind : EventKind} {k : Contactor} {cause : Cause} (h : Faulted d t kind k cause)
    (rests : c.seq.conn = .opened ∨ c.seq.conn = .lockedOut → Rests c d) (lines : d.lines = c.lines)
    (tables : d.store.tables = c.store.tables) (mgmt : d.mgmt = c.mgmt) (packTime : d.sched.packTime = c.sched.packTime) :
    Faulted c t kind k cause :=
  ⟨h.made.of_rests rests packTime, h.laws, h.levelled, h.raised, h.state, h.lines.trans lines, h.tables.trans tables,
    h.mgmt.trans mgmt, h.packTime.trans packTime⟩

/-- A fault that a contactor's own check or watch makes, awake. -/
theorem Settles.faulted (h : Settles c d) (awake : c.power.state ≠ .deep) (laws : c.contactorLaws = true)
    (kind : EventKind) (k : Contactor) (cause : Cause) : Faulted c (d.contactorFault kind k cause) kind k cause :=
  (Part.contactorFault_faulted (by rwa [h.power]) (h.laws laws) kind k cause).of_rests h.rests (by rw [h.rest])
    (by rw [h.rest]) (by rw [h.rest]) (by rw [h.rest])

/-! ### The fault that the entry to DEEP has overtaken (log entry 47) -/

/-- The part that wakes with FEEDBACK from DEEP, before the fault is made. -/
def Part.wokenByFeedback (c : Part) : Part := (c.addCause .feedback).woken.resumeSequencer

theorem Part.wakeFromDeep_wokenByFeedback (quiet : ∀ j ∈ q, j.wakes = false)
    (none_closed : c.power.closedFeedback.any = false) : c.wakeFromDeep q .feedback = c.wokenByFeedback := by
  rw [Part.wakeFromDeep_of_quiet quiet, Part.leaveDeep_eq]
  exact congrArg Part.resumeSequencer (Part.sleepFeedbacks_of_any_false none_closed)

theorem Part.wokenByFeedback_settles (c : Part) : Settles (c.addCause .feedback).woken c.wokenByFeedback := by
  have woken := Part.woken_woken (c.addCause .feedback)
  unfold Part.wokenByFeedback
  exact Part.resumeSequencer_settles (by rw [woken.state]; nofun)

theorem Part.wokenByFeedback_woken (c : Part) : Woken (c.addCause .feedback) c.wokenByFeedback :=
  (Part.woken_woken (c.addCause .feedback)).keeps c.wokenByFeedback_settles.keeps

/-- One contactor through the wake: its check and its watch follow the feedback, which is as it was. -/
theorem Part.wokenByFeedback_contactor (laws : c.contactorLaws = true) (deep : c.power.state = .deep) (k : Contactor) :
    c.wokenByFeedback.seq.contactor k =
      let checked : ContactorState :=
        { c.seq.contactor k with timer := (c.seq.contactor k).timer.filter (fun t => t.target != c.feedback k) }
      { checked with watch := c.watchAfter k checked } := by
  have woken := Part.woken_woken (c.addCause .feedback)
  have dark := Part.dark_of_deep laws deep
  have still := (Part.woken_still (c := c.addCause .feedback) dark).kept
  have contactor : (c.addCause .feedback).woken.seq.contactor k = c.seq.contactor k := by
    obtain ⟨pos, neg, pre⟩ := still
    cases k
    · exact pos
    · exact neg
    · exact pre
  have after := Part.resumeSequencer_contactor (c := (c.addCause .feedback).woken) (by rw [woken.state]; nofun) k
  have feedback : (c.addCause .feedback).woken.feedback k = c.feedback k := congrArg (·.feedback.get k) woken.lines
  have watch := Part.watchAfter_congr (c := c) (d := (c.addCause .feedback).woken) (k := k) woken.lines woken.packTime
    woken.tables
  dsimp only at after ⊢
  rw [contactor, feedback, watch] at after
  exact after

theorem Part.wokenByFeedback_rests (laws : c.contactorLaws = true) (deep : c.power.state = .deep) :
    Rests c c.wokenByFeedback := by
  have rests := (Part.woken_still (c := c.addCause .feedback) (Part.dark_of_deep laws deep)).rests
  have resumes := c.wokenByFeedback_settles.rests rests.conn
  exact Rests.trans ⟨rests.conn, rests.locked⟩ resumes

/-- What a wake by an overtaken fault shows. -/
structure WokenByFault (t : Part) : Prop where
  hostWake : t.power.hostWake = true
  causes : t.power.causes = 0
  patrolTimer : t.power.patrolTimer = none
  link : t.south.link = .waking
  channels : t.eval.channels = Vector.replicate 16 (Vector.replicate 16 ChanState.normal)

theorem Settles.faulted_of_deep (h : Settles c.wokenByFeedback d) (deep : c.power.state = .deep)
    (laws : c.contactorLaws = true) (laws' : c.wokenByFeedback.contactorLaws = true) (kind : EventKind) (k : Contactor)
    (cause : Cause) : Faulted c (d.contactorFault kind k cause) kind k cause ∧ WokenByFault (d.contactorFault kind k cause) := by
  have woken := c.wokenByFeedback_woken
  have active : d.power.state = .active := by rw [h.power, woken.state]
  have after := (woken.keeps h.keeps).keeps (Part.contactorFault_keeps_of_active active kind k cause)
  have faulted := h.faulted (by rw [woken.state]; nofun) laws' kind k cause
  refine ⟨faulted.of_rests (fun _ => Part.wokenByFeedback_rests laws deep) woken.lines woken.tables woken.mgmt
    woken.packTime, ?_, after.causes, after.patrolTimer, after.link, after.channels⟩
  rw [after.hostWake]
  simp [Part.hasCause, Part.addCause, WakeCause.bit]

theorem Part.wakeFromDeep_laws (quiet : ∀ j ∈ q, j.wakes = false) (none_closed : c.power.closedFeedback.any = false)
    (laws : c.contactorLaws = true) : c.wokenByFeedback.contactorLaws = true := by
  rw [← Part.wakeFromDeep_wokenByFeedback quiet none_closed]
  exact (Calm.wakeFromDeep (.refl .now c) ..).contactors laws

/-! ### The two expiries by power state -/

theorem Part.feedbackExpired_of_awake (awake : c.power.state ≠ .deep) (k : Contactor) :
    c.feedbackExpired q k = c.failCheck k := if_neg awake

theorem Part.watchExpired_of_awake (awake : c.power.state ≠ .deep) (k : Contactor) :
    c.watchExpired q k = c.spendWatch k := if_neg awake

theorem Part.checkDue_eq {k : Contactor} {tm : FbTimer} (runs : (c.seq.contactor k).timer = some tm) :
    c.checkDue k = (atOrAfter c.sched.packTime tm.expiry && c.lines.feedback.get k != tm.target) := by
  simp only [Part.checkDue, runs]
  rfl

theorem Part.watchDue_eq {k : Contactor} {e : Time} (runs : (c.seq.contactor k).watch = .timing e) :
    c.watchDue k = (atOrAfter c.sched.packTime e && c.lines.feedback.get k != (c.seq.contactor k).drive) := by
  simp only [Part.watchDue, runs]
  rfl

theorem Part.feedbackExpired_of_not_due {k : Contactor} {tm : FbTimer} (runs : (c.seq.contactor k).timer = some tm)
    (idle : atOrAfter c.sched.packTime tm.expiry = false ∨
      (c.power.state = .deep ∧ c.lines.feedback.get k = tm.target)) : c.feedbackExpired q k = c := by
  by_cases deep : c.power.state = .deep
  · have calm : ¬ c.checkDue k = true := by
      rw [Part.checkDue_eq runs]
      obtain early | ⟨-, reads⟩ := idle
      · simp [early]
      · simp [reads]
    exact (if_pos deep).trans (if_neg calm)
  · rw [Part.feedbackExpired_of_awake deep]
    exact Part.failCheck_of_early runs (idle.resolve_right fun ⟨sleeps, _⟩ => deep sleeps)

theorem Part.watchExpired_of_not_due {k : Contactor} {e : Time} (runs : (c.seq.contactor k).watch = .timing e)
    (idle : atOrAfter c.sched.packTime e = false ∨
      (c.power.state = .deep ∧ c.lines.feedback.get k = (c.seq.contactor k).drive)) : c.watchExpired q k = c := by
  by_cases deep : c.power.state = .deep
  · have calm : ¬ c.watchDue k = true := by
      rw [Part.watchDue_eq runs]
      obtain early | ⟨-, reads⟩ := idle
      · simp [early]
      · simp [reads]
    exact (if_pos deep).trans (if_neg calm)
  · rw [Part.watchExpired_of_awake deep]
    exact Part.spendWatch_of_early runs (idle.resolve_right fun ⟨sleeps, _⟩ => deep sleeps)

/-- The check that failed as the part entered DEEP fails after the wake. -/
theorem Part.feedbackExpired_of_deep {k : Contactor} {tm : FbTimer} (laws : c.contactorLaws = true)
    (deep : c.power.state = .deep) (runs : (c.seq.contactor k).timer = some tm)
    (due : atOrAfter c.sched.packTime tm.expiry = true) (other : c.lines.feedback.get k ≠ tm.target)
    (quiet : ∀ j ∈ q, j.wakes = false) (none_closed : c.power.closedFeedback.any = false) :
    c.feedbackExpired q k = (c.wokenByFeedback.failedCheck k).contactorFault (if tm.target then .failClose else .weld) k
      (.cls .contactorFault) := by
  have isDue : c.checkDue k = true := by
    rw [Part.checkDue_eq runs, due]
    simpa using other
  have still : (c.wokenByFeedback.seq.contactor k).timer = some tm := by
    have waits : (tm.target != c.feedback k) = true := by simpa [Part.feedback] using Ne.symm other
    rw [Part.wokenByFeedback_contactor laws deep, runs]
    exact Option.filter_some_pos (p := fun t : FbTimer => t.target != c.feedback k) waits
  refine (if_pos deep).trans ((if_pos isDue).trans ?_)
  rw [Part.wakeFromDeep_wokenByFeedback quiet none_closed]
  exact Part.failCheck_of_due still (by rw [c.wokenByFeedback_woken.packTime]; exact due)

/-- The watch whose expiry the entry to DEEP has overtaken makes its fault after the wake, with the cause of ACTIVE. -/
theorem Part.watchExpired_of_deep {k : Contactor} {e : Time} (laws : c.contactorLaws = true)
    (deep : c.power.state = .deep) (runs : (c.seq.contactor k).watch = .timing e)
    (due : atOrAfter c.sched.packTime e = true) (other : c.lines.feedback.get k ≠ (c.seq.contactor k).drive)
    (quiet : ∀ j ∈ q, j.wakes = false) (none_closed : c.power.closedFeedback.any = false) :
    c.watchExpired q k = (c.wokenByFeedback.spentWatch k).contactorFault .feedbackLost k (.cls .contactorFault) := by
  have isDue : c.watchDue k = true := by
    rw [Part.watchDue_eq runs, due]
    simpa using other
  have still : (c.wokenByFeedback.seq.contactor k).watch = .timing e := by
    have apart : ¬ (c.seq.contactor k).drive = c.feedback k := Ne.symm other
    rw [Part.wokenByFeedback_contactor laws deep]
    simp [Part.watchAfter, runs, apart]
  have active : c.wokenByFeedback.power.state = .active := c.wokenByFeedback_woken.state
  refine (if_pos deep).trans ((if_pos isDue).trans ?_)
  rw [Part.wakeFromDeep_wokenByFeedback quiet none_closed, Part.spendWatch_of_due still
    (by rw [c.wokenByFeedback_woken.packTime]; exact due), active]
  rfl

/-- Settles O45: the fault is made on the part whose check or watch is settled, which in DEEP is the woken one. -/
theorem contactorFaultsOpenThePack : Obligations.ContactorFaultsOpenThePack := by
  unfold Obligations.ContactorFaultsOpenThePack
  intro c q k laws faulted woken
  have shown {t : Part} {kind : EventKind} {cause : Cause} (h : Faulted c t kind k cause) : faulted t kind cause := by
    obtain ⟨pos, pre, neg⟩ := h.drives
    obtain ⟨e, recent, isKind, isContactor, isCause, stamp⟩ := h.made.event
    exact ⟨h.made.conn, fun rest => ⟨h.made.rest rest, h.faultOut (h.made.rest rest)⟩, h.made.pending, h.made.kept, pos,
      pre, neg, h.laws, ⟨e, recent.mem, isKind, isContactor, isCause, stamp⟩, h.raised, h.state, h.lines, h.tables,
      h.mgmt, h.packTime⟩
  have wakes {t : Part} (h : WokenByFault t) : woken t := ⟨h.hostWake, h.causes, h.patrolTimer, h.link, h.channels⟩
  have check : exec (.feedbackTimerExpiry k) ⟨c, q⟩ = .next ⟨c.feedbackExpired q k, q⟩ := rfl
  have watch : exec (.watchExpiry k) ⟨c, q⟩ = .next ⟨c.watchExpired q k, q⟩ := rfl
  refine ⟨fun tm runs => ?_, fun e runs => ⟨fun due => ⟨fun awake => ?_, fun deep other quiet none_closed => ?_⟩,
    fun idle => ?_⟩⟩
  · intro kind
    refine ⟨fun due => ⟨fun awake => ?_, fun deep other quiet none_closed => ?_⟩, fun idle => ?_⟩
    · rw [Part.feedbackExpired_of_awake awake, Part.failCheck_of_due runs due] at check
      exact ⟨_, check, shown ((Part.failedCheck_settles k awake).faulted awake laws ..)⟩
    · rw [Part.feedbackExpired_of_deep laws deep runs due other quiet none_closed] at check
      have settles : Settles c.wokenByFeedback (c.wokenByFeedback.failedCheck k) :=
        Part.failedCheck_settles k (by rw [c.wokenByFeedback_woken.state]; nofun)
      obtain ⟨made, awakened⟩ := settles.faulted_of_deep deep laws (Part.wakeFromDeep_laws quiet none_closed laws)
        (if tm.target then .failClose else .weld) k (.cls .contactorFault)
      exact ⟨_, check, shown made, wakes awakened⟩
    · rwa [Part.feedbackExpired_of_not_due runs idle] at check
  · rw [Part.watchExpired_of_awake awake, Part.spendWatch_of_due runs due] at watch
    have cause : faultCause (decide (c.power.state = .patrol)) =
        if c.power.state = .patrol then .sleepFeedback else .cls .contactorFault := by
      by_cases patrol : c.power.state = .patrol <;> simp [patrol, faultCause]
    exact ⟨_, watch, shown (cause ▸ (Part.spentWatch_settles k c).faulted awake laws ..)⟩
  · rw [Part.watchExpired_of_deep laws deep runs due other quiet none_closed] at watch
    obtain ⟨made, awakened⟩ := (Part.spentWatch_settles k c.wokenByFeedback).faulted_of_deep deep laws
      (Part.wakeFromDeep_laws quiet none_closed laws) .feedbackLost k (.cls .contactorFault)
    exact ⟨_, watch, shown made, wakes awakened⟩
  · rwa [Part.watchExpired_of_not_due runs idle] at watch

end Sys2Proof.Machine
end

section
/-!
# The events that wake the part (O29)
-/
namespace Sys2Proof.Machine

variable {c d : Part} {q : List Instr}

/-! ### An event and the loss of the link in PATROL (R97, R153) -/

theorem Returned.congr {t : Part} (h : Returned d t) (power : d.power = c.power)
    (packTime : d.sched.packTime = c.sched.packTime) (tables : d.store.tables = c.store.tables)
    (link : d.south.link = c.south.link) (state : d.sched.state = c.sched.state) : Returned c t := by
  obtain ⟨active, step, causes, escalating, hostWake, patrols, sweeps, supervision, stays, run⟩ := h
  rw [power] at patrols stays
  rw [packTime, tables] at supervision
  rw [link] at stays
  rw [state] at run
  exact ⟨active, step, causes, escalating, hostWake, patrols, sweeps, supervision, stays, run⟩

/-- The event class with its record, before any notice. -/
def Part.countEvent (k : FaultClass) (c : Part) : Part :=
  let recorded := c.recordTrip (packKey k) c.now none
  Part.refreshAction { recorded with interlock.events := recorded.interlock.events ||| k.bit }

theorem Part.eventClass_eq (k : FaultClass) (c : Part) : c.eventClass k =
    if c.classActive k then c.countEvent k else (c.countEvent k).notice k := rfl

@[simp] theorem Part.countEvent_keeps (k : FaultClass) (c : Part) : Part.Keeps [.sched, .eval, .records, .interlock,
    .eventClasses, .seq, .conn, .contactors, .eventQueue, .reports, .store, .copy, .write] c (c.countEvent k) := by
  simp [Part.countEvent, Part.Keeps]

theorem Part.eventClass_of_wakes {k : FaultClass} (event : k.isEvent = true) (patrol : c.power.state = .patrol)
    (wakes : c.store.tables.wakes k = true) (inactive : hasClass c.interlock.events k = false) :
    c.eventClass k = (c.countEvent k).escalate .classActivated (some k) := by
  have calm : ¬ c.classActive k = true := by rw [Part.classActive_of_event event, inactive]; nofun
  rw [Part.eventClass_eq, if_neg calm]
  exact if_pos ⟨by simpa using patrol, by simpa [Part.tables] using wakes⟩

theorem Part.eventClass_of_known {k : FaultClass} (event : k.isEvent = true)
    (known : c.store.tables.wakes k = false ∨ hasClass c.interlock.events k = true) :
    c.eventClass k = c.countEvent k := by
  by_cases active : c.classActive k = true
  · rw [Part.eventClass_eq, if_pos active]
  · rw [Part.classActive_of_event event] at active
    rw [Part.eventClass_eq, Part.classActive_of_event event, if_neg active]
    exact Part.notice_of_quiet (.inr (by simpa using known.resolve_right active))

/-- A class that an event activates, with its wake flag set, escalates the patrol. -/
theorem Part.eventClass_returned {k : FaultClass} (event : k.isEvent = true) (patrol : c.power.state = .patrol)
    (wakes : c.store.tables.wakes k = true) (inactive : hasClass c.interlock.events k = false) :
    Returned c (c.eventClass k) ∧ (c.eventClass k).reported
      (powerPayload .patrol (c.power.causes ||| 32#8) c.sched.packTime c.power.patrols (some k)) := by
  have bit : BitVec.twoPow 8 WakeCause.classActivated.bit = 32#8 := by decide
  have told := Part.escalate_reported .classActivated (some k) (c.countEvent k)
  have power : (c.countEvent k).power = c.power := by simp
  have time : (c.countEvent k).sched.packTime = c.sched.packTime := by simp
  rw [power, time, bit] at told
  rw [Part.eventClass_of_wakes event patrol wakes inactive]
  exact ⟨(Part.escalate_returned ..).congr power time (by simp) (by simp) (by simp), told⟩

theorem Part.southCheckFail_lost (patrol : c.power.state = .patrol) (up : c.south.link = .up)
    (limit : c.store.tables.params.linkThreshold ≤ c.south.errorCount + 1) : Returned c c.southCheckFail ∧
      (c.south.linkLost = true ∨ c.store.tables.wakes .linkDown = false → c.southCheckFail.reported
        (powerPayload .patrol (c.power.causes ||| 64#8) c.sched.packTime c.power.patrols none)) := by
  let counted : Part := { c with
    south.crcErrors := bump16 c.south.crcErrors, south.errorCount := c.south.errorCount + 1, south.goodRun := 0 }
  have fails : c.southCheckFail = counted.enterDown true := (if_pos up).trans (if_pos limit)
  have lost : Lost counted (counted.enterDown true) := Part.enterDown_lost (c := counted) patrol
  rw [fails]
  refine ⟨lost.toReturned.congr rfl rfl rfl rfl rfl, fun plain => lost.link_told fun wakes => ?_⟩
  obtain ⟨unlost, -, awake, -⟩ := wakes
  obtain known | asleep := plain
  · exact Bool.noConfusion (known.symm.trans unlost)
  · exact Bool.noConfusion (asleep.symm.trans awake)

/-! ### A feedback that closes in DEEP (R147, R148) -/

/-- The part woken by feedbacks that close in DEEP, up to its POWER report. -/
def Part.wokenByClosing (f : ContactorFlags) (c : Part) : Part := ((c.closedDeep f).addCause .feedback).woken

theorem Part.wokenByClosing_woken (f : ContactorFlags) (c : Part) :
    Woken ((c.closedDeep f).addCause .feedback) (c.wokenByClosing f) := Part.woken_woken _

theorem Part.wokenByClosing_hostWake (f : ContactorFlags) (c : Part) : (c.wokenByClosing f).power.hostWake = true := by
  rw [(c.wokenByClosing_woken f).hostWake]
  simp [Part.hasCause, Part.addCause, WakeCause.bit]

theorem Part.deepFeedback_wakes {f : ContactorFlags} (deep : c.power.state = .deep) (quiet : ∀ j ∈ q, j.wakes = false)
    (none_closed : c.power.closedFeedback = {}) (seen : (f.and c.power.openFeedback).any = true) :
    c.deepFeedback q f =
      ((c.wokenByClosing f).sleepFeedbacks (f.and c.power.openFeedback)).resumeSequencer := by
  have closed : ((c.closedDeep f).addCause .feedback).power.closedFeedback = f.and c.power.openFeedback := by
    simp [Part.closedDeep, Part.addCause, none_closed, ContactorFlags.or]
  rw [Part.deepFeedback_of_deep deep seen, Part.wakeFromDeep_of_quiet quiet, Part.leaveDeep_eq, closed]
  rfl

theorem Part.wokenByClosing_reported (no_class : c.power.escalating = none) (f : ContactorFlags) :
    (c.wokenByClosing f).reported
      (powerPayload .deep (c.power.causes ||| 8#8) c.sched.packTime c.power.patrols none) := by
  have told := Part.woken_reported ((c.closedDeep f).addCause .feedback)
  rw [← no_class]
  exact told

theorem Part.leaveDeep_hostWake (member : c.hasCause .feedback = true) : c.leaveDeep.power.hostWake = true := by
  rw [(Part.leaveDeep_woken c).hostWake, member, Bool.or_true]
  rfl

theorem Part.wokenByClosed_hostWake (f : ContactorFlags) :
    ((c.closedDeep f).wakeFromDeep q .feedback).power.hostWake = true := by
  unfold Part.wakeFromDeep
  refine Part.leaveDeep_hostWake ?_
  simp [Part.hasCause, Part.arriveTogether, Part.addCause, WakeCause.bit]

/-! ### WAKE_IN and north activity together (R146; log entry 42) -/

theorem WakeCause.wakeLine_bits : BitVec.twoPow 8 WakeCause.wakeLine.bit = 1#8 := by decide

theorem WakeCause.feedback_bits : BitVec.twoPow 8 WakeCause.feedback.bit = 8#8 := by decide

/-- DEEP with WAKE_IN asserted and a transition on north-in. -/
def Part.lineAndActivity (c : Part) : Part :=
  { c with lines.wakeIn := true, power.causes := c.power.causes ||| 3#8 }

theorem Part.arriveTogether_eq (c : Part) (x : Together) (arrives : c.together c.lines q = x) : c.arriveTogether q =
    { c with
      lines.wakeIn := c.lines.wakeIn || x.wakeIn,
      lines.feedback := c.lines.feedback.or x.closed,
      power.causes := c.power.causes ||| x.causes,
      power.closedFeedback := c.power.closedFeedback.or (x.closed.and c.power.openFeedback) } := by
  rw [← arrives]
  rfl

theorem ContactorFlags.or_none (f : ContactorFlags) : f.or {} = f := by simp [ContactorFlags.or]

theorem ContactorFlags.none_and (f : ContactorFlags) : ContactorFlags.and {} f = {} := by simp [ContactorFlags.and]

theorem Part.wakeIn_with_activity (deep : c.power.state = .deep) (clear : c.lines.wakeIn = false)
    (quiet : ∀ j ∈ q, j.wakes = false) : c.wakeIn (.northActivity :: q) true = c.lineAndActivity.leaveDeep := by
  let woken : Part := { c with lines.wakeIn := true }
  have arrives : (woken.addCause .wakeLine).together (woken.addCause .wakeLine).lines (.northActivity :: q) =
      { causes := 2#8 } := by
    rw [Part.together, Part.together_quiet _ _ _ quiet]
    rfl
  rw [Part.wakeIn_of_assert clear, Part.powerCause_of_deep (c := woken) deep, Part.wakeFromDeep,
    Part.arriveTogether_eq _ _ arrives]
  refine congrArg Part.leaveDeep ?_
  have causes : c.power.causes ||| BitVec.twoPow 8 WakeCause.wakeLine.bit ||| 2#8 = c.power.causes ||| 3#8 := by
    rw [BitVec.or_assoc]
    rfl
  simp only [Part.lineAndActivity, woken, Part.addCause, ContactorFlags.or_none, ContactorFlags.none_and, causes,
    Bool.or_false]

theorem Part.activity_with_wakeIn (deep : c.power.state = .deep) (clear : c.lines.wakeIn = false)
    (quiet : ∀ j ∈ q, j.wakes = false) :
    c.northActivity (.wakeInAssert .asserted :: q) = c.lineAndActivity.leaveDeep := by
  have arrives : (c.addCause .northActivity).together (c.addCause .northActivity).lines (.wakeInAssert .asserted :: q) =
      { causes := 1#8, wakeIn := true } := by
    rw [Part.together, Part.together_quiet _ _ _ quiet]
    simp [Part.addCause, clear, Together.add, WakeCause.wakeLine_bits]
  rw [Part.northActivity_of_watching (.inl deep), Part.powerCause_of_deep deep, Part.wakeFromDeep,
    Part.arriveTogether_eq _ _ arrives]
  refine congrArg Part.leaveDeep ?_
  have causes : c.power.causes ||| BitVec.twoPow 8 WakeCause.northActivity.bit ||| 1#8 = c.power.causes ||| 3#8 := by
    rw [BitVec.or_assoc]
    rfl
  simp only [Part.lineAndActivity, Part.addCause, ContactorFlags.or_none, ContactorFlags.none_and, causes,
    Bool.or_true]

theorem ContactorFlags.or_assoc (f g h : ContactorFlags) : (f.or g).or h = f.or (g.or h) := by
  simp [ContactorFlags.or, Bool.or_assoc]

theorem ContactorFlags.or_comm (f g : ContactorFlags) : f.or g = g.or f := by
  simp [ContactorFlags.or, Bool.or_comm]

theorem ContactorFlags.or_and (f g h : ContactorFlags) : (f.or g).and h = (f.and h).or (g.and h) := by
  simp [ContactorFlags.or, ContactorFlags.and, Bool.and_or_distrib_right]

/-! ### WAKE_IN and a feedback together (R146, R150; log entry 42) -/

/-- DEEP with WAKE_IN asserted, the feedback of K+ closed, and what arrives with them. -/
def Part.lineAndFeedback (q : List Instr) (c : Part) : Part :=
  let x := c.together { c.lines with wakeIn := true } q
  { c with
    lines.wakeIn := true,
    lines.feedback := c.lines.feedback.or (x.closed.or { kPos := true }),
    power.causes := c.power.causes ||| 1#8 ||| (x.causes ||| 8#8),
    power.closedFeedback := c.power.closedFeedback.or ((x.closed.or { kPos := true }).and c.power.openFeedback) }

theorem Part.wakeIn_with_feedback (deep : c.power.state = .deep) (clear : c.lines.wakeIn = false)
    (seen : c.power.openFeedback.kPos = true) :
    c.wakeIn (.deepFeedbackClosed true false false :: q) true = (c.lineAndFeedback q).leaveDeep := by
  let woken : Part := { c with lines.wakeIn := true }
  let x := c.together { c.lines with wakeIn := true } q
  have arrives : (woken.addCause .wakeLine).together (woken.addCause .wakeLine).lines
      (.deepFeedbackClosed true false false :: q) =
      { x with causes := x.causes ||| 8#8, closed := x.closed.or { kPos := true } } := by
    have rest : (woken.addCause .wakeLine).together (woken.addCause .wakeLine).lines q = x :=
      Part.together_congr c (woken.addCause .wakeLine) _ q rfl rfl (fun _ => rfl) (fun _ => rfl)
    rw [Part.together, rest]
    simp [Together.add, ContactorFlags.and, ContactorFlags.any, Part.addCause, woken, seen, WakeCause.feedback_bits]
  rw [Part.wakeIn_of_assert clear, Part.powerCause_of_deep (c := woken) deep, Part.wakeFromDeep,
    Part.arriveTogether_eq _ _ arrives]
  refine congrArg Part.leaveDeep ?_
  simp [Part.lineAndFeedback, woken, Part.addCause, x, WakeCause.wakeLine_bits]

theorem Part.feedback_with_wakeIn (deep : c.power.state = .deep) (clear : c.lines.wakeIn = false)
    (seen : c.power.openFeedback.kPos = true) :
    c.deepFeedback (.wakeInAssert .asserted :: q) { kPos := true } = (c.lineAndFeedback q).leaveDeep := by
  let closes := (c.closedDeep { kPos := true }).addCause .feedback
  let x := c.together { c.lines with wakeIn := true } q
  let y := closes.together { c.lines with wakeIn := true, feedback := c.lines.feedback.or { kPos := true } } q
  have agrees : y.Agrees x :=
    Part.together_agrees (c := c) (d := closes) rfl rfl { c.lines with wakeIn := true } _
  have arrives : closes.together closes.lines (.wakeInAssert .asserted :: q) =
      { y with causes := y.causes ||| 1#8, wakeIn := true } := by
    rw [Part.together]
    simp [Together.add, closes, Part.closedDeep, Part.addCause, clear, WakeCause.wakeLine_bits, y]
  have causes : c.power.causes ||| 8#8 ||| (y.causes ||| 1#8) = c.power.causes ||| 1#8 ||| (x.causes ||| 8#8) := by
    rw [← agrees.causes]
    ac_rfl
  have lines : (c.lines.feedback.or { kPos := true }).or y.closed =
      c.lines.feedback.or (x.closed.or { kPos := true }) := by
    rw [agrees.closed, ContactorFlags.or_assoc, ContactorFlags.or_comm x.closed]
  have closed : (c.power.closedFeedback.or (ContactorFlags.and { kPos := true } c.power.openFeedback)).or
      (y.closed.and c.power.openFeedback) =
      c.power.closedFeedback.or ((x.closed.or { kPos := true }).and c.power.openFeedback) := by
    rw [agrees.closed, ContactorFlags.or_assoc, ContactorFlags.or_comm x.closed, ContactorFlags.or_and]
  rw [Part.deepFeedback_of_deep deep (by simp [ContactorFlags.and, ContactorFlags.any, seen]), Part.wakeFromDeep,
    Part.arriveTogether_eq _ _ arrives]
  refine congrArg Part.leaveDeep ?_
  simp only [closes, Part.closedDeep, Part.addCause, WakeCause.feedback_bits, causes, lines, closed, Bool.or_true]
  rfl

/-! ### The fault of a feedback that closes (R120) -/

theorem Part.sleepFeedback_raised (active : c.power.state = .active) (f : ContactorFlags) (k : Contactor)
    (before : f.get k = true ∨ hasClass c.interlock.events .contactorFault = true) :
    hasClass (c.sleepFeedback f k).interlock.events .contactorFault = true := by
  unfold Part.sleepFeedback
  split
  · exact Part.contactorFault_hasClass (by simp [active]) ..
  next clear => exact before.resolve_left clear

/-- A wake from DEEP with the feedback of K+ closed makes the fault. -/
theorem Part.sleepFeedbacks_raised (active : c.power.state = .active) (f : ContactorFlags) (pos : f.kPos = true) :
    hasClass (c.sleepFeedbacks f).interlock.events .contactorFault = true := by
  have first := Part.sleepFeedback_power active f .kPos
  have second := Part.sleepFeedback_power (c := c.sleepFeedback f .kPos) (by rw [first, active]) f .kNeg
  exact Part.sleepFeedback_raised (by rw [second, first, active]) f .kPre
    (.inr (Part.sleepFeedback_raised (by rw [first, active]) f .kNeg
      (.inr (Part.sleepFeedback_raised active f .kPos (.inl pos)))))

theorem Part.leaveDeep_raised (pos : c.power.closedFeedback.kPos = true) :
    hasClass c.leaveDeep.interlock.events .contactorFault = true := by
  have raised := Part.sleepFeedbacks_raised c.woken_woken.state c.power.closedFeedback pos
  rw [Part.leaveDeep_eq]
  simpa using raised

/-- After both sources have been taken, either command finds nothing more to do. -/
theorem Part.taken_twice {t : Part} (active : t.power.state = .active) (set : t.lines.wakeIn = true) :
    t.wakeIn q true = t ∧ t.northActivity q = t ∧ ∀ f, t.deepFeedback q f = t := by
  refine ⟨Part.wakeIn_of_set set, ?_, fun f => Part.deepFeedback_of_active active f⟩
  refine (if_neg (by simp [active])).trans ?_
  simp only [Part.powerCause, active]

/-! ### A feedback that closes as a patrol starts (R152; log entry 42) -/

theorem Part.startPatrol_power (c : Part) : c.startPatrol.power = { c.power with
    causes := c.power.causes ||| BitVec.twoPow 8 WakeCause.patrolTimer.bit, patrolTimer := none, state := .patrol,
    step := .running, sleepSent := false, leftDeep := .patrol } := by
  simp [Part.startPatrol, Part.addCause]

theorem Part.objectsToNormal_rests (rest : c.seq.conn = .opened ∨ c.seq.conn = .lockedOut) :
    Rests c c.objectsToNormal := by
  let cleared : Part := { c.clearRecords with
    eval.channels := Vector.replicate 16 (Vector.replicate 16 ChanState.normal), eval.sum := ChanState.normal,
    eval.sense := Vector.replicate 16 ObjState.normal, eval.lost := Vector.replicate 16 ObjState.normal,
    sched.missed := Vector.replicate 16 0,
    interlock.tripped := c.clearRecords.interlock.tripped.filter (fun o => !o.cls.ofEvaluator) }
  have kept : Rests c cleared := .of_seq rest (by simp [cleared]) (by simp [cleared])
  exact kept.trans (Part.refreshAction_rests kept.conn)

theorem Part.startPatrol_rests (rest : c.seq.conn = .opened ∨ c.seq.conn = .lockedOut) : Rests c c.startPatrol := by
  let stopped : Part := { c.addCause .patrolTimer with power.patrolTimer := none }
  have normal : Rests c stopped.objectsToNormal :=
    (Rests.of_seq (c := c) (t := stopped) rest rfl rfl).trans (Part.objectsToNormal_rests (c := stopped) rest)
  let started : Part := { stopped.objectsToNormal with
    power.state := .patrol, power.step := .running, power.sleepSent := false, power.leftDeep := .patrol }
  have same : Rests stopped.objectsToNormal started := .of_seq normal.conn rfl rfl
  have formed := (normal.trans same).trans (Part.refreshAction_rests same.conn)
  have waking : Rests c started.refreshAction.enterWaking := formed.trans (.of_seq formed.conn)
  have awake : started.refreshAction.enterWaking.power.state ≠ .deep := by simp [started]
  exact waking.trans ((Part.resumeSequencer_settles awake).rests waking.conn)

/-- The feedback of K+ closes at the moment at which the patrol starts: its fault escalates the patrol at once. -/
theorem Part.patrolClosed_escalates (patrol : c.power.state = .patrol) (seen : c.power.openFeedback.kPos = true) :
    let t := c.patrolClosed { kPos := true }
    t.power.state = .active ∧ t.power.hostWake = true ∧ t.lines.feedback.kPos = true ∧
      hasClass t.interlock.events .contactorFault = true ∧
      (c.seq.conn = .opened ∨ c.seq.conn = .lockedOut → t.seq.conn = .lockedOut) := by
  intro t
  let closed : Part := { c with lines.feedback := c.lines.feedback.or { kPos := true } }
  let faulty := (closed.withContactor .kPos { closed.seq.contactor .kPos with watch := .spent }).contactorFault
    .feedbackLost .kPos .sleepFeedback
  have handed : t = faulty.resumeSequencer.advance := by
    simp [t, Part.patrolClosed, Part.sleepFeedbacks, Part.sleepFeedback, ContactorFlags.and, ContactorFlags.get, seen,
      faulty, closed]
  have awake : (closed.withContactor .kPos { closed.seq.contactor .kPos with watch := .spent }).power.state ≠ .deep := by
    simp [closed, patrol]
  obtain ⟨active, hostWake⟩ := Part.contactorFault_power awake .feedbackLost .kPos .sleepFeedback
  have raised := Part.contactorFault_hasClass awake .feedbackLost .kPos .sleepFeedback
  have made := Part.contactorFault_made .feedbackLost .kPos .sleepFeedback
    (closed.withContactor .kPos { closed.seq.contactor .kPos with watch := .spent })
  have power : t.power = faulty.power := by simp [handed]
  refine ⟨power ▸ active, power ▸ hostWake patrol, ?_, ?_, fun rest => ?_⟩
  · simp [handed, faulty, closed, ContactorFlags.or]
  · have same : t.interlock.events = faulty.interlock.events := by simp [handed]
    rw [same]
    exact raised
  · have locked : faulty.seq.conn = .lockedOut := made.rest rest
    have resumed : faulty.resumeSequencer.seq.conn = .lockedOut :=
      (Part.resumeSequencer_settles (by rw [active]; nofun)).seq.1.trans locked
    rw [handed, Part.advance_of_atRest (by rw [resumed]; rfl), resumed]

/-! ### What the two sources that arrive together show (log entry 42) -/

theorem Part.lineAndActivity_woken (c : Part) : Woken c.lineAndActivity c.lineAndActivity.leaveDeep :=
  Part.leaveDeep_woken _

theorem Part.lineAndFeedback_woken (q : List Instr) (c : Part) :
    Woken (c.lineAndFeedback q) (c.lineAndFeedback q).leaveDeep := Part.leaveDeep_woken _

theorem Part.lineAndFeedback_shows (seen : c.power.openFeedback.kPos = true) :
    let t := (c.lineAndFeedback q).leaveDeep
    t.power.hostWake = true ∧ t.lines.wakeIn = true ∧ t.lines.feedback.kPos = true ∧
      hasClass t.interlock.events .contactorFault = true := by
  have woken := c.lineAndFeedback_woken q
  refine ⟨?_, ?_, ?_, Part.leaveDeep_raised ?_⟩
  · rw [woken.hostWake]
    simp [Part.hasCause, Part.lineAndFeedback, WakeCause.bit]
  · rw [woken.lines]
    rfl
  · rw [woken.lines]
    simp [Part.lineAndFeedback, ContactorFlags.or]
  · simp [Part.lineAndFeedback, ContactorFlags.or, ContactorFlags.and, seen]

/-! ### The commands that wake the part -/

theorem exec_wakeInAssert (c : Part) (q : List Instr) :
    exec (.wakeInAssert .asserted) ⟨c, q⟩ = .next ⟨c.wakeIn q true, q⟩ := rfl

theorem exec_northActivity (c : Part) (q : List Instr) :
    exec .northActivity ⟨c, q⟩ = .next ⟨c.northActivity q, q⟩ := rfl

theorem exec_deepFeedbackClosed (a b d : Bool) (c : Part) (q : List Instr) :
    exec (.deepFeedbackClosed a b d) ⟨c, q⟩ =
      .next ⟨c.deepFeedback q { kPos := a, kNeg := b, kPre := d }, q⟩ := rfl

/-- A transition on north-in, as the commands give it (R4). -/
def touchesNorth (i : Instr) : Prop :=
  i = .northActivity ∨ ∃ bs, i = .mgmtReqAccept bs ∨ i = .northCommand bs ∨ i = .broadcastCommand bs ∨
    i = .northFrameDiscard bs ∨ i = .northFrameCheckFail (.frame bs)

theorem exec_of_touchesNorth {i : Instr} (north : touchesNorth i)
    (watching : c.power.state = .deep ∨ c.power.state = .patrol) :
    exec i ⟨c, q⟩ = .next ⟨c.powerCause q .northActivity, q⟩ := by
  have frame (r : Reception) : c.receiveNorth q r = c.powerCause q .northActivity :=
    Part.receiveNorth_of_watching watching r
  obtain rfl | ⟨bs, rfl | rfl | rfl | rfl | rfl⟩ := north
  · exact exec_eq_next rfl (Part.northActivity_of_watching watching)
  all_goals exact exec_eq_next rfl (frame _)

theorem touchesNorth_other {i : Instr} (north : touchesNorth i) : i ≠ .wakeInAssert .asserted ∧
    ∀ a b d, i ≠ .deepFeedbackClosed a b d := by
  obtain rfl | ⟨bs, rfl | rfl | rfl | rfl | rfl⟩ := north <;> exact ⟨nofun, nofun⟩

/-! ### Two sources together, by their commands (log entry 42) -/

theorem exec_taken_twice {t : Part} (active : t.power.state = .active) (set : t.lines.wakeIn = true) :
    exec (.wakeInAssert .asserted) ⟨t, q⟩ = .next ⟨t, q⟩ ∧ exec .northActivity ⟨t, q⟩ = .next ⟨t, q⟩ ∧
      ∀ a b d, exec (.deepFeedbackClosed a b d) ⟨t, q⟩ = .next ⟨t, q⟩ := by
  obtain ⟨again, still_active, closed⟩ := Part.taken_twice (q := q) active set
  exact ⟨by rw [exec_wakeInAssert, again], by rw [exec_northActivity, still_active],
    fun a b d => by rw [exec_deepFeedbackClosed, closed]⟩

theorem exec_wakeIn_and_activity (deep : c.power.state = .deep) (clear : c.lines.wakeIn = false)
    (quiet : ∀ j ∈ q, j.wakes = false) :
    exec (.wakeInAssert .asserted) ⟨c, .northActivity :: q⟩ =
      .next ⟨c.lineAndActivity.leaveDeep, .northActivity :: q⟩ ∧
    exec .northActivity ⟨c, .wakeInAssert .asserted :: q⟩ =
      .next ⟨c.lineAndActivity.leaveDeep, .wakeInAssert .asserted :: q⟩ :=
  ⟨by rw [exec_wakeInAssert, Part.wakeIn_with_activity deep clear quiet],
    by rw [exec_northActivity, Part.activity_with_wakeIn deep clear quiet]⟩

theorem exec_wakeIn_and_feedback (deep : c.power.state = .deep) (clear : c.lines.wakeIn = false)
    (seen : c.power.openFeedback.kPos = true) :
    exec (.wakeInAssert .asserted) ⟨c, .deepFeedbackClosed true false false :: q⟩ =
      .next ⟨(c.lineAndFeedback q).leaveDeep, .deepFeedbackClosed true false false :: q⟩ ∧
    exec (.deepFeedbackClosed true false false) ⟨c, .wakeInAssert .asserted :: q⟩ =
      .next ⟨(c.lineAndFeedback q).leaveDeep, .wakeInAssert .asserted :: q⟩ :=
  ⟨by rw [exec_wakeInAssert, Part.wakeIn_with_feedback deep clear seen],
    by rw [exec_deepFeedbackClosed, Part.feedback_with_wakeIn deep clear seen]⟩

theorem exec_patrol_and_feedback (deep : c.power.state = .deep) (expired : c.power.patrolTimer = some 0) :
    exec .patrolTimerExpiry ⟨c, q⟩ = .next ⟨c.startPatrol, q⟩ ∧ c.startPatrol.power.state = .patrol ∧
      exec (.deepFeedbackClosed true false false) ⟨c.startPatrol, q⟩ =
        .next ⟨c.startPatrol.patrolClosed { kPos := true }, q⟩ := by
  have power := c.startPatrol_power
  have patrol : c.startPatrol.power.state = .patrol := by rw [power]
  have moment : c.startPatrol.power.leftDeep = .patrol := by rw [power]
  refine ⟨exec_eq_next rfl (if_pos ⟨deep, expired⟩), patrol, ?_⟩
  have closes : c.startPatrol.deepFeedback q { kPos := true } = c.startPatrol.patrolClosed { kPos := true } := by
    simp only [Part.deepFeedback, patrol, moment]
  rw [exec_deepFeedbackClosed, closes]

/-! ### An event and a check failure in PATROL, by their commands -/

theorem exec_chainSpoof (running : c.south.link ≠ .off) {bs : List Byte} (spoof : sortSouth (.frame bs) = .spoof) :
    ∃ d : Part, exec (.chainSpoof bs) ⟨c, q⟩ = .next ⟨d.eventClass .chainSpoof, q⟩ ∧ d.power = c.power ∧
      d.sched = c.sched ∧ d.store.tables = c.store.tables ∧ d.interlock = c.interlock ∧
      d.south.link = c.south.link :=
  ⟨{ c.goodFrame with south.spoofs := bump16 c.goodFrame.south.spoofs },
    exec_eq_next rfl ((Part.receiveSouth_running running).trans (by rw [spoof]; rfl)), by simp, by simp, by simp,
    by simp, by simp⟩

theorem exec_southFrameCheckFail {r : Reception} (failed : checkReception r = none) (running : c.south.link ≠ .off) :
    exec (.southFrameCheckFail r) ⟨c, q⟩ = .next ⟨c.southCheckFail, q⟩ :=
  exec_eq_next rfl ((Part.receiveSouth_running running).trans (by simp only [sortSouth, failed]))

/-! ### The obligation -/

/-- Settles O29: each event by its power state, with the report that its return to ACTIVE makes. -/
theorem wakeEventsReturnToActive : Obligations.WakeEventsReturnToActive := by
  refine ⟨fun c q => ?_, fun i c q source => ?_⟩
  · intro told escalated quiet
    have payload {t : Part} {left : PowerState} {causes : BitVec 8} {cls : Option FaultClass}
        (made : t.reported (powerPayload left causes c.sched.packTime c.power.patrols cls)) :
        told t left causes ((cls.map (·.number)).getD 0) := made
    have returns {t : Part} (h : Returned c t) : escalated t :=
      ⟨h.state, h.step, h.causes, h.escalating, h.hostWake, h.patrols, h.sweeps, h.supervision, h.link, h.run⟩
    refine ⟨fun clear asleep no_class alone => ?_, fun watching no_class alone => ?_, fun a b e deep no_class still closed =>
      ?_, fun bs patrol running spoof => ?_, fun r failed patrol up limit => ?_, fun deep clear no_class closed still => ?_,
      fun deep clear seen => ?_, fun deep expired seen => ?_⟩
    · have reported := Part.powerCause_reported (c := { c with lines.wakeIn := true }) (q := q) asleep no_class alone .wakeLine
      exact ⟨_, by rw [exec_wakeInAssert, Part.wakeIn_of_assert clear], payload reported⟩
    · have asleep : c.power.state ≠ .active := fun active => by
        obtain h | h := watching <;> exact PowerState.noConfusion (h.symm.trans active)
      have reported := Part.powerCause_reported (q := q) asleep no_class alone .northActivity
      exact ⟨_, by rw [exec_northActivity, Part.northActivity_of_watching watching], payload reported⟩
    · intro seen some_seen
      let f : ContactorFlags := { kPos := a, kNeg := b, kPre := e }
      have any : (f.and c.power.openFeedback).any = true := by
        have shown : (seen.kPos || seen.kNeg || seen.kPre) = true := by
          simpa only [Bool.or_eq_true, or_assoc] using some_seen
        exact shown
      exact ⟨c.wokenByClosing f, payload (Part.wokenByClosing_reported no_class f), (c.wokenByClosing_woken f).state,
        c.wokenByClosing_hostWake f, by rw [exec_deepFeedbackClosed, Part.deepFeedback_wakes deep still closed any]; rfl⟩
    · obtain ⟨d, effect, power, sched, tables, interlock, link⟩ := exec_chainSpoof (q := q) running spoof
      refine ⟨_, effect, fun wakes inactive => ?_, fun known => ?_⟩
      · obtain ⟨returned, made⟩ := Part.eventClass_returned (c := d) (k := .chainSpoof) rfl (by rw [power, patrol])
          (by rw [tables, wakes]) (by rw [interlock, inactive])
        rw [power, sched] at made
        exact ⟨returns (returned.congr power (by rw [sched]) tables link (by rw [sched])), payload made⟩
      · rw [Part.eventClass_of_known rfl (by rw [tables, interlock]; exact known)]
        have same : (d.countEvent .chainSpoof).power = d.power ∧
            (d.countEvent .chainSpoof).sched.run = d.sched.run := by simp
        exact ⟨same.1.trans power, same.2.trans (by rw [sched])⟩
    · obtain ⟨returned, made⟩ := Part.southCheckFail_lost patrol up limit
      exact ⟨_, exec_southFrameCheckFail failed (by rw [up]; nofun), returns returned, fun plain => payload (made plain)⟩
    · intro i j
      obtain ⟨first, second⟩ := exec_wakeIn_and_activity deep clear still
      have woken := c.lineAndActivity_woken
      obtain ⟨again, twice, -⟩ := exec_taken_twice (q := q) woken.state (by rw [woken.lines]; rfl)
      have made := Part.leaveDeep_reported (c := c.lineAndActivity) closed
      have shown : c.lineAndActivity.power.escalating = none := no_class
      rw [shown] at made
      exact ⟨_, first, second, again, twice, woken.state, woken.causes, payload made⟩
    · intro i j
      obtain ⟨first, second⟩ := exec_wakeIn_and_feedback (q := q) deep clear seen
      have woken := c.lineAndFeedback_woken q
      obtain ⟨hostWake, line, feedback, raised⟩ := Part.lineAndFeedback_shows (q := q) seen
      obtain ⟨again, -, twice⟩ := exec_taken_twice (q := q) woken.state line
      exact ⟨_, first, second, again, twice .., woken.state, woken.causes, hostWake, line, feedback, raised⟩
    · obtain ⟨starts, patrol, closes⟩ := exec_patrol_and_feedback (q := q) deep expired
      obtain ⟨active, hostWake, feedback, raised, locks⟩ := Part.patrolClosed_escalates patrol
        (by rw [c.startPatrol_power, seen])
      exact ⟨_, _, starts, patrol, closes, active, hostWake, feedback, raised,
        fun rest => locks (Part.startPatrol_rests rest).conn⟩
  · obtain ⟨rfl, clear, asleep⟩ | ⟨north, watching⟩ | ⟨deep, a, b, e, rfl, closes⟩ := source
    · have awakened := Part.powerCause_awakened (c := { c with lines.wakeIn := true }) (q := q) asleep .wakeLine
      refine ⟨_, by rw [exec_wakeInAssert, Part.wakeIn_of_assert clear], awakened.state, awakened.step, awakened.causes,
        awakened.escalating, awakened.supervision, awakened.packTime, awakened.tables, awakened.mgmt, fun still => ?_,
        awakened.objects, awakened.link, fun other => awakened.hostWake (other.resolve_right nofun)⟩
      rw [awakened.lines still]
      rfl
    · obtain ⟨not_line, not_feedback⟩ := touchesNorth_other north
      have asleep : c.power.state ≠ .active := fun active => by
        obtain h | h := watching <;> exact PowerState.noConfusion (h.symm.trans active)
      have awakened := Part.powerCause_awakened (q := q) asleep .northActivity
      refine ⟨_, exec_of_touchesNorth north watching, awakened.state, awakened.step, awakened.causes,
        awakened.escalating, awakened.supervision, awakened.packTime, awakened.tables, awakened.mgmt, fun still => ?_,
        awakened.objects, awakened.link,
        fun other => awakened.hostWake (other.resolve_right fun ⟨a, b, d, h⟩ => not_feedback a b d h)⟩
      rw [awakened.lines still, if_neg not_line]
    · let f : ContactorFlags := { kPos := a, kNeg := b, kPre := e }
      have seen : (f.and c.power.openFeedback).any = true := by
        obtain ⟨rfl, one⟩ | ⟨rfl, one⟩ | ⟨rfl, one⟩ := closes <;> simp [f, ContactorFlags.and, ContactorFlags.any, one]
      have awakened := Part.wakeFromDeep_awakened (c := c.closedDeep f) (q := q) deep .feedback
      refine ⟨_, by rw [exec_deepFeedbackClosed, Part.deepFeedback_of_deep deep seen], awakened.state, awakened.step,
        awakened.causes, awakened.escalating, awakened.supervision, awakened.packTime, awakened.tables, awakened.mgmt,
        fun still => ?_, awakened.objects, awakened.link, fun _ => Part.wokenByClosed_hostWake f⟩
      rw [awakened.lines still]
      rfl

end Sys2Proof.Machine
end

section
/-!
# The limits of a precharge and of a soft open, and the reading test (O46)
-/
namespace Sys2Proof.Machine

variable {c d : Part} {q : List Instr}

/-! ### MAIN_CLOSING (R109, R111) -/

theorem Part.advanceMain_of_unsettled (unsettled : c.settled .kPos = false) : c.advanceMain = c := by
  have first : (if c.seq.conn = .mainClosing ∧ c.settled .kPos = true then c.drive .kPre false else c) = c :=
    if_neg (by simp [unsettled])
  simp only [Part.advanceMain, first]
  exact if_neg (by simp [unsettled])

/-- DRV_POS closes, and its check runs. -/
theorem Part.enterMain_of_waiting (pos : c.seq.kPos.drive = false) (reads : c.lines.feedback.kPos = false) :
    c.enterMain = { c with
      seq.conn := .mainClosing, seq.prechargeEnd := none,
      seq.kPos :=
        { drive := true,
          timer := some { expiry := c.sched.packTime + BitVec.ofNat 32 (c.store.tables.params.feedbackMs * 1000),
                          target := true },
          watch := .armed } } := by
  let closing : Part := { c with seq.conn := .mainClosing, seq.prechargeEnd := none }
  have driven := Part.drive_waiting (c := closing) (k := .kPos) (v := true) (by simp [closing, pos])
    (by simp [closing, reads])
  have entered : c.enterMain = (closing.drive .kPos true).advanceMain := rfl
  rw [entered, driven]
  exact Part.advanceMain_of_unsettled rfl

/-- DRV_POS closes with FB_POS closed: its check passes, and DRV_PRE opens. -/
theorem Part.enterMain_of_reading (pos : c.seq.kPos.drive = false) (reads : c.lines.feedback.kPos = true)
    (pre : c.seq.kPre.drive = true) :
    c.enterMain.seq.conn = (if c.lines.feedback.kPre then .mainClosing else .closed) ∧
      c.enterMain.seq.kPos.drive = true ∧ c.enterMain.seq.kPre.drive = false ∧ c.enterMain.seq.kNeg = c.seq.kNeg := by
  let closed : Part := { c with
    seq.conn := .mainClosing, seq.prechargeEnd := none, seq.kPos := { drive := true, timer := none, watch := .armed } }
  have entered : c.enterMain = closed.advanceMain := by
    have driven := Part.drive_settled (c := { c with seq.conn := .mainClosing, seq.prechargeEnd := none }) (k := .kPos)
      (v := true) (by simp [pos]) (by simp [reads])
    exact congrArg Part.advanceMain driven
  rw [entered, Part.advanceMain_of_settled rfl rfl]
  have change : (closed.seq.contactor .kPre).drive ≠ false := by simp [closed, pre]
  cases follows : c.lines.feedback.kPre with
  | true =>
    rw [Part.drive_waiting change (by simp [closed, follows])]
    exact ⟨rfl, rfl, rfl, rfl⟩
  | false =>
    rw [Part.drive_settled change (by simp [closed, follows])]
    have settled (d : Part) : d.enterClosed.seq.conn = .closed ∧ d.enterClosed.seq.kPos = d.seq.kPos ∧
        d.enterClosed.seq.kPre = d.seq.kPre ∧ d.enterClosed.seq.kNeg = d.seq.kNeg := by
      unfold Part.enterClosed
      rw [Part.logEvent_seq]
      exact ⟨rfl, rfl, rfl, rfl⟩
    obtain ⟨conn, kPos, kPre, kNeg⟩ := settled
      (closed.withContactor .kPre { drive := false, timer := none, watch := .armed })
    exact ⟨conn, congrArg (·.drive) kPos, congrArg (·.drive) kPre, kNeg⟩

/-! ### OPENING from SOFT_OPENING (R115, R116) -/

/-- DRV_POS opens, and OPENING waits for FB_POS. -/
theorem Part.startOpening_of_waiting (soft : c.seq.conn = .softOpening) (pos : c.seq.kPos.drive = true)
    (pre : c.seq.kPre.drive = false) (reads : c.lines.feedback.kPos = true) (neg : c.seq.kNeg.drive = true)
    (cause : Cause) : c.startOpening cause = { c with
      seq.conn := .opening, seq.softEnd := none, seq.prechargeEnd := none, seq.tPc := none,
      seq.kPos :=
        { drive := false,
          timer := some { expiry := c.sched.packTime + BitVec.ofNat 32 (c.store.tables.params.feedbackMs * 1000),
                          target := false },
          watch := .armed } } := by
  have driven := Part.drive_waiting (c := c) (k := .kPos) (v := false) (by simp [pos]) (by simp [reads])
  have still : (c.drive .kPos false).drive .kPre false = c.drive .kPos false :=
    Part.drive_of_same (by rw [driven]; exact pre)
  have entered : c.enterOpening cause = { c with
      seq.conn := .opening, seq.softEnd := none, seq.prechargeEnd := none, seq.tPc := none,
      seq.kPos :=
        { drive := false,
          timer := some { expiry := c.sched.packTime + BitVec.ofNat 32 (c.store.tables.params.feedbackMs * 1000),
                          target := false },
          watch := .armed } } := by
    unfold Part.enterOpening
    dsimp only
    rw [still, driven, if_pos soft]
    rfl
  rw [Part.startOpening, entered]
  exact Part.advanceOpening_of_closed reads neg

/-- With FB_POS open DRV_NEG opens at once, and with FB_NEG open too the opening ends. -/
theorem Part.startOpening_of_open (reads : c.lines.feedback.kPos = false) (cause : Cause) :
    let t := c.startOpening cause
    t.seq.kPos.drive = false ∧ t.seq.kNeg.drive = false ∧ t.seq.kPre.drive = false ∧
      (c.lines.feedback.kNeg = true → t.seq.conn = .opening) ∧
      (c.lines.feedback.kNeg = false →
        t.seq.conn = if c.seq.pendingLockout.isSome then .lockedOut else .opened) := by
  intro t
  obtain ⟨only, opening, pos, pre, -, -, -, -, -, -, pending⟩ := Part.enterOpening_shows cause c
  have lines : (c.enterOpening cause).lines = c.lines := congrArg (·.lines) only
  have goes := Part.advanceOpening_of_open opening (by rw [lines, reads])
  have seq := Part.drive_seq .kNeg false (c.enterOpening cause)
  have neg : ((c.enterOpening cause).drive .kNeg false).seq.kNeg.drive = false := Part.drive_drive .kNeg false _
  have result : t = (c.enterOpening cause).advanceOpening := rfl
  clear_value t
  rw [goes, lines] at result
  subst result
  dsimp only
  cases negReads : c.lines.feedback.kNeg with
  | true =>
    rw [if_neg nofun]
    refine ⟨(congrArg (·.kPos.drive) seq).trans pos, neg, (congrArg (·.kPre.drive) seq).trans pre, fun _ => ?_, nofun⟩
    exact (congrArg (·.conn) seq).trans opening
  | false =>
    obtain ⟨conn, kPos, kPre, kNeg, -⟩ := Part.endOpening_shows ((c.enterOpening cause).drive .kNeg false)
    have same : ((c.enterOpening cause).drive .kNeg false).seq.pendingLockout = c.seq.pendingLockout :=
      (congrArg (·.pendingLockout) seq).trans pending
    rw [if_pos rfl]
    refine ⟨kPos, kNeg, kPre, nofun, fun _ => ?_⟩
    rw [conn, same]
    cases c.seq.pendingLockout <;> rfl

/-! ### A failed precharge (R110) -/

theorem Part.eventClass_seq (k : FaultClass) (c : Part) : (c.eventClass k).seq = (c.countEvent k).seq := by
  rw [Part.eventClass_eq]
  split
  · rfl
  · exact Part.notice_seq ..

theorem Part.eventClass_raised (k : FaultClass) (c : Part) : hasClass (c.eventClass k).interlock.events k = true := by
  have counted : (c.countEvent k).interlock.events = c.interlock.events ||| k.bit := by simp [Part.countEvent]
  have kept : (c.eventClass k).interlock.events = (c.countEvent k).interlock.events := by
    rw [Part.eventClass_eq]
    split
    · rfl
    · simp
  rw [kept, counted, hasClass_set]
  simp

theorem Part.enterLockedOut_prechargeEnd (before : ConnState) (c : Part) :
    (c.enterLockedOut before).seq.prechargeEnd = c.seq.prechargeEnd := by
  rw [Part.enterLockedOut_seq, Part.logEvent_seq]
  exact (congrArg (·.prechargeEnd) (Part.openDrives_contactors c)).trans rfl

/-- A new action in OPEN can push one more record, and leaves the precharge limit as it is (R113). -/
theorem Part.refreshAction_of_opened (opened : c.seq.conn = .opened) :
    c.refreshAction.seq.prechargeEnd = c.seq.prechargeEnd ∧
      ∀ e, c.Recent e 0 → c.refreshAction.Recent e 1 := by
  have shown (d : Part) (seq : c.refreshAction.seq = d.seq) (kept : d.seq.prechargeEnd = c.seq.prechargeEnd)
      (recent : ∀ e, c.Recent e 0 → d.Recent e 1) : c.refreshAction.seq.prechargeEnd = c.seq.prechargeEnd ∧
      ∀ e, c.Recent e 0 → c.refreshAction.Recent e 1 :=
    ⟨(congrArg (·.prechargeEnd) seq).trans kept, fun e newest => (recent e newest).congr (congrArg (·.events) seq)⟩
  have same (seq : c.refreshAction.seq = c.seq) := shown c seq rfl fun e newest => newest.mono (by omega)
  let asked : Part := { c with interlock.effective := c.effectiveAction }
  have formed : c.refreshAction.seq = c.ordered.seq := Part.refreshAction_seq c
  by_cases known : c.effectiveAction = c.interlock.effective
  · exact same (formed.trans (congrArg Part.seq (if_pos known)))
  · have order : c.ordered.seq = (asked.takeAction c.effectiveAction).seq := congrArg Part.seq (if_neg known)
    by_cases lockout : c.effectiveAction = .lockout
    · rw [Part.takeAction_of_opened (c := asked) opened lockout] at order
      have ordered := Part.withOrder_seq (c := asked) (a := c.effectiveAction)
        (fun locked => ConnState.noConfusion (opened.symm.trans locked))
      refine shown _ (formed.trans order) ?_ fun e newest => ?_
      · rw [Part.enterLockedOut_prechargeEnd, ordered]
      · exact (newest.congr (by rw [ordered])).enterLockedOut (by omega) .opened
    · rw [Part.takeAction_of_quiet (c := asked) (.inr (.inr (.inl ⟨opened, lockout⟩)))] at order
      exact same (formed.trans order)

/-- What a failed precharge leaves. -/
structure PrechargeFailed (c t : Part) : Prop where
  conn : t.seq.conn = .opened ∨ t.seq.conn = .lockedOut
  kPos : t.seq.kPos.drive = false
  kNeg : t.seq.kNeg.drive = false
  kPre : t.seq.kPre.drive = false
  prechargeEnd : t.seq.prechargeEnd = none
  event : ∃ r ∈ t.seq.events, r.kind = .prechargeAbort ∧ r.cause = .cls .prechargeFail ∧ r.before = .precharging ∧
    r.after = .opened ∧ r.time = c.sched.packTime ∧ r.current = c.eval.shunt.map (·.current) ∧
    r.linkVoltage = c.eval.shunt.map (·.linkVoltage)
  raised : hasClass t.interlock.events .prechargeFail = true

/-- The part that a failed precharge leaves before PRECHARGE_FAIL is activated. -/
def Part.prechargeAborted (c : Part) : Part :=
  Part.logEvent .prechargeAbort none (.cls .prechargeFail) .precharging .opened
    { c.openDrives with seq.conn := .opened, seq.prechargeEnd := none }

theorem Part.prechargeFail_eq (c : Part) : c.prechargeFail = c.prechargeAborted.eventClass .prechargeFail := rfl

theorem Part.prechargeFail_failed (c : Part) : PrechargeFailed c c.prechargeFail := by
  obtain ⟨pos, neg, pre⟩ := Part.openDrives_drives c
  let aborted : Part := { c.openDrives with seq.conn := .opened, seq.prechargeEnd := none }
  have last := Part.appendEvent_last .prechargeAbort none (.cls .prechargeFail) .precharging .opened
    (aborted.eval.shunt.map (·.current)) (aborted.eval.shunt.map (·.linkVoltage)) aborted
  have seq : c.prechargeAborted.seq = _ :=
    Part.logEvent_seq .prechargeAbort none (.cls .prechargeFail) .precharging .opened aborted
  have time : aborted.sched.packTime = c.sched.packTime := by simp [aborted]
  have shunt : aborted.eval = c.eval := by simp [aborted]
  have dark : c.prechargeAborted.seq.Dark := by
    rw [seq]
    exact ⟨.inl rfl, pos, neg, pre⟩
  have opened : c.prechargeAborted.seq.conn = .opened := by rw [seq]
  let counted : Part := { c.prechargeAborted.recordTrip (packKey .prechargeFail) c.prechargeAborted.now none with
    interlock.events := (c.prechargeAborted.recordTrip (packKey .prechargeFail) c.prechargeAborted.now none).interlock.events
      ||| FaultClass.prechargeFail.bit }
  have counted_seq : counted.seq = c.prechargeAborted.seq := by simp [counted]
  have formed : c.prechargeFail.seq = counted.refreshAction.seq := Part.eventClass_seq ..
  obtain ⟨kept, recent⟩ := Part.refreshAction_of_opened (c := counted) (by rw [counted_seq, opened])
  have still := (Part.refreshAction_still (c := counted) (by rw [counted_seq]; exact dark)).dark
    (by rw [counted_seq]; exact dark)
  have newest : c.prechargeAborted.Recent _ 0 := Part.recent_of_last last
  have member := (recent _ (newest.congr (by rw [counted_seq]))).mem
  rw [← formed] at member
  refine ⟨formed ▸ still.conn, formed ▸ still.kPos, formed ▸ still.kNeg, formed ▸ still.kPre, ?_,
    ⟨_, member, rfl, rfl, rfl, rfl, time, by rw [shunt], by rw [shunt]⟩, Part.eventClass_raised ..⟩
  rw [formed, kept, counted_seq, seq]

/-! ### The shunt reading and its tests (R76, R109, R115) -/

/-- The reading that the samples of the SHUNT position make. -/
def Sweep.reading (w : Sweep) (i u l : Int) : ShuntReading :=
  { current := i, packVoltage := u, linkVoltage := l, sampleTime := w.sampleTime, sweep := w.number }

theorem Part.writeShunt_of_reading {w : Sweep} {v : PositionValues} {i u l : Int}
    (prompt : hasPos w.skewed v.position = false) (current : v.valueAt 1 = some i) (pack : v.valueAt 2 = some u)
    (link : v.valueAt 3 = some l) :
    c.writeShunt w v = Part.newReading (w.reading i u l) { c with eval.shunt := some (w.reading i u l) } := by
  unfold Part.writeShunt
  rw [prompt, current, pack, link]
  rfl

theorem Part.writeShunt_of_none {w : Sweep} {v : PositionValues}
    (unread : hasPos w.skewed v.position = true ∨ v.valueAt 1 = none ∨ v.valueAt 2 = none ∨ v.valueAt 3 = none) :
    c.writeShunt w v = c := by
  unfold Part.writeShunt
  split
  next prompt current pack link => simp [prompt, current, pack, link] at unread
  next => rfl

theorem Part.usable_iff (reference : Option Time) (r : ShuntReading) : c.usable reference r = true ↔
    (∃ b, reference = some b ∧ isAfter r.sampleTime b = true) ∧
      (c.sched.packTime - r.sampleTime).toNat ≤ c.store.tables.header.maxAge * 1000 := by
  cases reference with
  | none => exact ⟨nofun, fun ⟨⟨b, absent, _⟩, _⟩ => nomatch absent⟩
  | some b =>
    have tested : c.usable (some b) r = (isAfter r.sampleTime b &&
        decide ((c.sched.packTime - r.sampleTime).toNat ≤ c.store.tables.header.maxAge * 1000)) := rfl
    rw [tested, Bool.and_eq_true, decide_eq_true_iff]
    refine and_congr_left fun _ => ⟨fun passed => ⟨b, rfl, passed⟩, fun ⟨b', same, passed⟩ => ?_⟩
    cases same
    exact passed

theorem Part.newReading_of_precharging {r : ShuntReading} (precharging : c.seq.conn = .precharging) :
    c.newReading r = if c.usable c.seq.tPc r then c.prechargeTest r else c := by
  simp only [Part.newReading, precharging]

theorem Part.newReading_of_soft {r : ShuntReading} (soft : c.seq.conn = .softOpening) :
    c.newReading r = if c.usable c.seq.tSo r then c.softOpenTest r else c := by
  simp only [Part.newReading, soft]

theorem Part.newReading_of_other {r : ShuntReading} (not_precharging : c.seq.conn ≠ .precharging)
    (not_soft : c.seq.conn ≠ .softOpening) : c.newReading r = c := by
  unfold Part.newReading
  split
  next precharging => exact absurd precharging not_precharging
  next soft => exact absurd soft not_soft
  all_goals rfl

theorem Part.newReading_shunt (r : ShuntReading) (c : Part) : (c.newReading r).eval.shunt = c.eval.shunt := by simp

/-! ### The reading test in PRECHARGING (R109) -/

/-- What the test of a usable reading in PRECHARGING does. -/
structure PrechargeTested (c t : Part) (r : ShuntReading) : Prop where
  fails : c.store.tables.params.prechargeCurrent < r.current.natAbs → PrechargeFailed c t
  goes_on : r.current.natAbs ≤ c.store.tables.params.prechargeCurrent →
    ¬ (c.store.tables.params.minPackVoltage ≤ r.packVoltage ∧
      c.store.tables.params.prechargeRatio * r.packVoltage ≤ r.linkVoltage * 1000) → t = c
  closes : r.current.natAbs ≤ c.store.tables.params.prechargeCurrent →
    (c.store.tables.params.minPackVoltage ≤ r.packVoltage ∧
      c.store.tables.params.prechargeRatio * r.packVoltage ≤ r.linkVoltage * 1000) → t = c.enterMain

theorem Part.prechargeTest_tested (r : ShuntReading) (c : Part) : PrechargeTested c (c.prechargeTest r) r := by
  refine ⟨fun high => ?_, fun low flat => ?_, fun low charged => ?_⟩
  · have fails : c.prechargeTest r = c.prechargeFail := if_pos high
    exact fails ▸ c.prechargeFail_failed
  · exact (if_neg (Nat.not_lt.mpr low)).trans (if_neg flat)
  · exact (if_neg (Nat.not_lt.mpr low)).trans (if_pos charged)

theorem Part.softOpenTest_of_high {r : ShuntReading} (high : c.store.tables.params.breakCurrent < r.current.natAbs) :
    c.softOpenTest r = c := if_neg (Nat.not_le.mpr high)

theorem Part.softOpenTest_of_low {r : ShuntReading} (low : r.current.natAbs ≤ c.store.tables.params.breakCurrent) :
    c.softOpenTest r = Part.startOpening (c.seq.openingCause.getD .request) { c with seq.softEnd := none } := if_pos low

/-- Settles O46: the reading test and the two limits meet in the failed precharge and in the start of OPENING. -/
theorem prechargeAndSoftOpenLimitsOpen : Obligations.PrechargeAndSoftOpenLimitsOpen := by
  refine ⟨fun c w e v n shunt => ?_, fun c w v => ⟨Part.writeShunt_of_none, fun i u l prompt current pack link => ?_⟩,
    fun c q => ?_⟩
  · intro fed sensed
    simp only [Part.evalPosition, shunt, sensed, fed]
  · intro reading read t params wait used charged
    have taken : t = read.newReading reading := Part.writeShunt_of_reading prompt current pack link
    have usable (reference : Option Time) : read.usable reference reading = true ↔ used reference :=
      Part.usable_iff (c := read) reference reading
    clear_value t
    subst taken
    refine ⟨Part.newReading_shunt .., Part.newReading_of_other (c := read), fun precharging => ?_, fun soft => ?_⟩
    · have tests := Part.newReading_of_precharging (c := read) (r := reading) precharging
      have tested := Part.prechargeTest_tested reading read
      refine ⟨fun unused => tests.trans (if_neg fun use => unused ((usable _).mp use)), fun use high => ?_,
        fun use low flat => ?_, fun use low full pos => ?_⟩
      · rw [tests.trans (if_pos ((usable _).mpr use))]
        exact ⟨(tested.fails high).conn, (tested.fails high).kPos, (tested.fails high).kNeg, (tested.fails high).kPre,
          (tested.fails high).prechargeEnd, (tested.fails high).event, (tested.fails high).raised⟩
      · exact (tests.trans (if_pos ((usable _).mpr use))).trans (tested.goes_on low flat)
      · have closes := (tests.trans (if_pos ((usable _).mpr use))).trans (tested.closes low full)
        rw [closes]
        refine ⟨fun opens => Part.enterMain_of_waiting (c := read) pos opens, fun follows pre => ?_⟩
        exact Part.enterMain_of_reading (c := read) pos follows pre
    · have tests := Part.newReading_of_soft (c := read) (r := reading) soft
      refine ⟨fun idle => ?_, fun use low pos pre => ?_⟩
      · by_cases use : used c.seq.tSo
        · rw [tests.trans (if_pos ((usable _).mpr use))]
          exact Part.softOpenTest_of_high (c := read) (idle.resolve_left (not_not.mpr use))
        · exact tests.trans (if_neg fun use' => use ((usable _).mp use'))
      · rw [tests.trans (if_pos ((usable _).mpr use)), Part.softOpenTest_of_low (c := read) low]
        exact ⟨fun follows neg => Part.startOpening_of_waiting (c := { read with seq.softEnd := none }) soft pos pre follows
          neg _, fun opens => Part.startOpening_of_open (c := { read with seq.softEnd := none }) opens _⟩
  · intro wait
    have limit : exec .prechargeLimitExpiry ⟨c, q⟩ = .next ⟨c.prechargeExpired, q⟩ := rfl
    have soft_limit : exec .softOpenWaitExpiry ⟨c, q⟩ = .next ⟨c.softOpenExpired, q⟩ := rfl
    have dueAt {e : Time} {timer : Option Time} (runs : timer = some e) :
        timerDue c.now timer = atOrAfter c.sched.packTime e := by rw [runs]; rfl
    refine ⟨fun e precharging runs => ⟨fun due => ?_, fun early => ?_⟩,
      fun e soft runs pos pre => ⟨fun due follows neg => ?_, fun due opens => ?_, fun early => ?_⟩⟩
    · have fails : c.prechargeExpired = c.prechargeFail := if_pos ⟨precharging, (dueAt runs).trans due⟩
      obtain ⟨conn, kPos, kNeg, kPre, ended, ⟨r, member, kind, cause, before, after, time, -, -⟩, raised⟩ :=
        c.prechargeFail_failed
      rw [fails] at limit
      exact ⟨_, limit, conn, kPos, kNeg, kPre, ended, ⟨r, member, kind, cause, before, after, time⟩, raised,
        by simp [Part.prechargeFail], by simp [Part.prechargeFail]⟩
    · have stays : c.prechargeExpired = c := if_neg fun h => Bool.noConfusion ((early.symm.trans (dueAt runs).symm).trans h.2)
      rwa [stays] at limit
    · have starts : c.softOpenExpired = _ := if_pos ⟨soft, (dueAt runs).trans due⟩
      have waits := Part.startOpening_of_waiting (c := { c with
        seq.underLoad := c.eval.shunt.map (fun r => (r.current, r.linkVoltage)), seq.softEnd := none })
        soft pos pre follows neg (c.seq.openingCause.getD .request)
      exact exec_eq_next soft_limit (starts.trans waits)
    · have starts : c.softOpenExpired = _ := if_pos ⟨soft, (dueAt runs).trans due⟩
      rw [starts] at soft_limit
      exact ⟨_, soft_limit, Part.startOpening_of_open (c := { c with
        seq.underLoad := c.eval.shunt.map (fun r => (r.current, r.linkVoltage)), seq.softEnd := none }) opens _⟩
    · have stays : c.softOpenExpired = c := if_neg fun h => Bool.noConfusion ((early.symm.trans (dueAt runs).symm).trans h.2)
      rwa [stays] at soft_limit

end Sys2Proof.Machine
end

section
/-!
# The close of a sweep (O42)
-/
namespace Sys2Proof.Machine

variable {c d : Part} {q : List Instr} {w : Sweep}

/-! ### What the evaluator reaches outside PATROL (R72, R97)

Outside PATROL no activation escalates, so neither the links nor the power state, nor the open sweeps, move. -/

/-- What feeding the evaluator's objects may change outside PATROL. -/
abbrev evalFields : List Field :=
  [.sched, .missed, .eval, .objects, .shunt, .records, .interlock, .tripped, .latches, .eventClasses, .seq, .conn,
    .contactors, .eventQueue, .reports, .store, .copy, .write]

theorem power_of_evalFields (kept : Part.Keeps evalFields c d) : d.power = c.power := by
  simp only [Part.Keeps] at kept
  simp_all

theorem keeps_foldl_awake {α : Type} {step : Part → α → Part}
    (keeps : ∀ c x, c.power.state ≠ .patrol → Part.Keeps evalFields c (step c x)) (l : List α)
    (awake : c.power.state ≠ .patrol) : Part.Keeps evalFields c (l.foldl step c) := by
  induction l generalizing c with
  | nil => exact .refl _ c
  | cons x l ih => exact (keeps c x awake).trans (ih (by rwa [power_of_evalFields (keeps c x awake)]))

theorem keeps_foldl_fst_awake {α β : Type} {step : Part × β → α → Part × β}
    (keeps : ∀ ct x, ct.1.power.state ≠ .patrol → Part.Keeps evalFields ct.1 (step ct x).1) (l : List α) (ct : Part × β)
    (awake : ct.1.power.state ≠ .patrol) : Part.Keeps evalFields ct.1 (l.foldl step ct).1 := by
  induction l generalizing ct with
  | nil => exact .refl _ ct.1
  | cons x l ih =>
    exact (keeps ct x awake).trans (ih (step ct x) (by rwa [power_of_evalFields (keeps ct x awake)]))

theorem Part.handChange_keeps_of_not_patrol (awake : c.power.state ≠ .patrol) (ch : Change)
    (key : Direction → FaultKey) (t : Time) (v : Option Int) (f : Forming) :
    Part.Keeps evalFields c (c.handChange ch key t v f) := by
  cases ch with
  | none => exact .refl _ c
  | trip x =>
    have trips : c.handChange (.trip x) key t v f = (c.recordTrip (key x) t v).countTrip (key x).object f :=
      Part.tripObject_of_not_patrol (c := c.recordTrip (key x) t v) (by simpa using awake) (key x).object f
    rw [trips]
    exact (Part.recordTrip_keeps ..).step (Part.countTrip_keeps ..)
  | clear x => exact (Part.recordClear_keeps (key x) t c).step (Part.clearObject_keeps (key x).object _ f)
  | offer x =>
    cases v with
    | none => exact .refl _ c
    | some v => exact (Part.recordOffer_keeps (key x) v c).mono (by decide)

/-- An object of the evaluator replaced, and its change handed on. -/
theorem Part.fed_keeps_of_not_patrol (awake : c.power.state ≠ .patrol) (eval : Evaluator) (ch : Change)
    (key : Direction → FaultKey) (t : Time) (v : Option Int) (f : Forming) :
    Part.Keeps evalFields c (Part.handChange ch key t v { c with eval := eval } f) := by
  have fed : Part.Keeps evalFields c { c with eval := eval } := by simp [Part.Keeps]
  exact fed.trans (Part.handChange_keeps_of_not_patrol (c := { c with eval := eval }) awake ch key t v f)

theorem Part.feedChannel_keeps_of_not_patrol {ct : Part × Tally} (awake : ct.1.power.state ≠ .patrol) (run : RunKind)
    (s : Time) (kind : ModuleKind) (p : Nat) (x : ChanValue) :
    Part.Keeps evalFields ct.1 (Part.feedChannel run s kind p x ct).1 := by
  unfold Part.feedChannel
  dsimp only
  split
  · split
    · exact .refl _ ct.1
    · exact Part.fed_keeps_of_not_patrol awake ..
  · exact .refl _ ct.1

theorem Part.feedSense_keeps_of_not_patrol {ct : Part × Tally} (awake : ct.1.power.state ≠ .patrol) (run : RunKind)
    (s : Time) (p : Nat) (faulty : Bool) : Part.Keeps evalFields ct.1 (Part.feedSense run s p faulty ct).1 := by
  unfold Part.feedSense
  split
  · exact .refl _ ct.1
  · exact Part.fed_keeps_of_not_patrol awake ..

theorem Part.feedSum_keeps_of_not_patrol {ct : Part × Tally} (awake : ct.1.power.state ≠ .patrol) (run : RunKind)
    (s : Time) (v : Int) : Part.Keeps evalFields ct.1 (Part.feedSum run s v ct).1 := by
  unfold Part.feedSum
  split
  · exact .refl _ ct.1
  · exact Part.fed_keeps_of_not_patrol awake ..

theorem Part.feedLost_keeps_of_not_patrol (awake : c.power.state ≠ .patrol) (run : RunKind) (p : Nat) (missed : Bool)
    (f : Forming) : Part.Keeps evalFields c (c.feedLost run p missed f) :=
  Part.fed_keeps_of_not_patrol awake ..

/-! ### The shunt reading and a closed sweep -/

theorem Part.prechargeFail_keeps_of_not_patrol (awake : c.power.state ≠ .patrol) :
    Part.Keeps evalFields c c.prechargeFail := by
  have aborted : Part.Keeps evalFields c c.prechargeAborted := by simp [Part.prechargeAborted, Part.Keeps]
  rw [Part.prechargeFail_eq]
  exact aborted.trans ((Part.eventClass_keeps_of_not_patrol (by rwa [power_of_evalFields aborted]) _).mono (by decide))

theorem Part.newReading_keeps_of_not_patrol (awake : c.power.state ≠ .patrol) (r : ShuntReading) :
    Part.Keeps evalFields c (c.newReading r) := by
  unfold Part.newReading
  split
  · split
    · unfold Part.prechargeTest
      dsimp only
      split
      · exact Part.prechargeFail_keeps_of_not_patrol awake
      · split
        · exact (Part.enterMain_keeps c).mono (by decide)
        · exact .refl _ c
    · exact .refl _ c
  · split
    · unfold Part.softOpenTest
      split
      · have stopped : Part.Keeps evalFields c { c with seq.softEnd := none } := by simp [Part.Keeps]
        exact stopped.trans ((Part.startOpening_keeps ..).mono (by decide))
      · exact .refl _ c
    · exact .refl _ c
  all_goals exact .refl _ c

theorem Part.writeShunt_keeps_of_not_patrol (awake : c.power.state ≠ .patrol) (w : Sweep) (v : PositionValues) :
    Part.Keeps evalFields c (c.writeShunt w v) := by
  unfold Part.writeShunt
  split
  next i u l _ _ _ _ =>
    have taken : Part.Keeps evalFields c { c with eval.shunt := some (w.reading i u l) } := by simp [Part.Keeps]
    exact taken.trans
      (Part.newReading_keeps_of_not_patrol (c := { c with eval.shunt := some (w.reading i u l) }) awake _)
  next => exact .refl _ c

theorem Part.evalPosition_keeps_of_not_patrol {ct : Part × Tally} (awake : ct.1.power.state ≠ .patrol) (w : Sweep)
    (x : MapEntry × PositionValues) : Part.Keeps evalFields ct.1 (Part.evalPosition w x ct).1 := by
  have fed := keeps_foldl_fst_awake (fun ct v awake =>
    Part.feedChannel_keeps_of_not_patrol (ct := ct) awake w.runKind w.sampleTime x.1.kind x.1.position v) x.2.channels ct
    awake
  have sensed := fed.trans (Part.feedSense_keeps_of_not_patrol (by rwa [power_of_evalFields fed]) w.runKind w.sampleTime
    x.1.position x.2.faulty)
  unfold Part.evalPosition
  dsimp only
  split
  · exact sensed
  · exact sensed.trans (Part.writeShunt_keeps_of_not_patrol (by rwa [power_of_evalFields sensed]) w x.2)

theorem Part.evaluate_keeps_of_not_patrol (awake : c.power.state ≠ .patrol) (w : Sweep) :
    Part.Keeps evalFields c (c.evaluate w).1 := by
  have stepOne := keeps_foldl_fst_awake (fun ct x awake => Part.evalPosition_keeps_of_not_patrol (ct := ct) awake w x)
    (w.replies c.tables) (c, ({} : Tally)) awake
  unfold Part.evaluate
  dsimp only
  split
  · exact stepOne.trans (Part.feedSum_keeps_of_not_patrol (by rwa [power_of_evalFields stepOne]) ..)
  · exact stepOne

theorem Part.evaluate_missed (w : Sweep) (c : Part) : (c.evaluate w).1.sched.missed = c.sched.missed := by simp

/-! ### The missed-reply counts (R54) -/

theorem Part.accountPosition_missed (w : Sweep) (p : Nat) (c : Part) :
    (c.accountPosition w p).sched.missed = setPos c.sched.missed p
      (if hasPos w.replied p then 0 else min 15 (atPos c.sched.missed 0 p + 1)) := by
  unfold Part.accountPosition
  dsimp only
  split
  · simp
  · split <;> simp

theorem Part.accountPosition_keeps_of_not_patrol (awake : c.power.state ≠ .patrol) (w : Sweep) (p : Nat) :
    Part.Keeps evalFields c (c.accountPosition w p) := by
  have counted (n : Nat) : Part.Keeps evalFields c { c with sched.missed := setPos c.sched.missed p n } := by
    simp [Part.Keeps]
  have fed (n : Nat) (missed : Bool) := (counted n).trans (Part.feedLost_keeps_of_not_patrol
    (c := { c with sched.missed := setPos c.sched.missed p n }) awake w.runKind p missed .now)
  unfold Part.accountPosition
  dsimp only
  split
  · exact fed 0 false
  · split
    · exact fed _ true
    · exact counted _

theorem Part.account_keeps_of_not_patrol (awake : c.power.state ≠ .patrol) (w : Sweep) :
    Part.Keeps evalFields c (c.account w) :=
  keeps_foldl_awake (fun _ p awake => Part.accountPosition_keeps_of_not_patrol awake w p) _ awake

/-- A fold of moves that spare a view spares it. -/
theorem foldl_spares {α β : Type} {step : Part → β → Part} (view : Part → α) (l : List β)
    (spares : ∀ c x, x ∈ l → view (step c x) = view c) (c : Part) : view (l.foldl step c) = view c := by
  induction l generalizing c with
  | nil => rfl
  | cons x l ih =>
    exact (ih (fun c y later => spares c y (List.mem_cons_of_mem x later)) _).trans (spares c x List.mem_cons_self)

theorem mem_positionsOf {s : PosSet} {p : Nat} : p ∈ positionsOf s ↔ p ∈ allPositions ∧ hasPos s p = true :=
  List.mem_filter

theorem Part.account_missed {p : Nat} (range : p ∈ allPositions) (w : Sweep) (c : Part) :
    atPos (c.account w).sched.missed 0 p =
      if hasPos w.target p then (if hasPos w.replied p then 0 else min 15 (atPos c.sched.missed 0 p + 1))
      else atPos c.sched.missed 0 p := by
  obtain ⟨low, high⟩ := mem_allPositions_iff.mp range
  have other (d : Part) (n : Nat) (apart : n ≠ p) :
      atPos (d.accountPosition w n).sched.missed 0 p = atPos d.sched.missed 0 p := by
    rw [Part.accountPosition_missed, atPos_setPos_of_ne _ 0 _ apart.symm]
  have own (d : Part) : atPos (d.accountPosition w p).sched.missed 0 p =
      if hasPos w.replied p then 0 else min 15 (atPos d.sched.missed 0 p + 1) := by
    rw [Part.accountPosition_missed, atPos_setPos_self _ 0 _ low high]
  by_cases target : hasPos w.target p = true
  · rw [if_pos target]
    exact foldl_at (step := fun d n => d.accountPosition w n) (fun d n => atPos d.sched.missed 0 n) (fun _ => True)
      (fun old => if hasPos w.replied p then 0 else min 15 (old + 1)) (fun _ _ _ => trivial) (fun d _ => own d)
      (fun d n _ apart => other d n apart) (allPositions_nodup.filter _) (mem_positionsOf.mpr ⟨range, target⟩) c trivial
  · rw [if_neg target]
    refine foldl_spares (step := fun d n => d.accountPosition w n) (fun d => atPos d.sched.missed 0 p) _
      (fun d n member => other d n fun same => ?_) c
    exact target (same ▸ (mem_positionsOf.mp member).2)

/-! ### The reports of a sweep (R131 to R133) -/

/-- Reports offered in their order. -/
def Part.offerSweep (payloads : List (List Byte)) (c : Part) : Part :=
  payloads.foldl (fun c payload => c.offerReport .sweep payload) c

/-- The payload of a replied position's DETAIL report, if there is one. -/
def detailOf (t : Tables) (w : Sweep) (v : PositionValues) : Option (List Byte) :=
  match t.byPosition v.position, w.buffers.find? (fun b => b.position == v.position) with
  | some e, some b => some (detailPayload w e b.taken v)
  | _, _ => none

theorem Part.detailReport_eq (w : Sweep) (v : PositionValues) (c : Part) : c.detailReport w v =
    match detailOf c.store.tables w v with
    | some payload => c.offerReport .sweep payload
    | none => c := by
  unfold Part.detailReport detailOf
  simp only [Part.tables]
  cases c.store.tables.byPosition v.position <;> cases w.buffers.find? (fun b => b.position == v.position) <;> rfl

theorem Part.details_eq (w : Sweep) (vs : List PositionValues) (t : Tables) (tables : c.store.tables = t) :
    vs.foldl (fun c v => c.detailReport w v) c = c.offerSweep (vs.filterMap (detailOf t w)) := by
  induction vs generalizing c with
  | nil => rfl
  | cons v vs ih =>
    have head := Part.detailReport_eq w v c
    rw [tables] at head
    cases detail : detailOf t w v with
    | none =>
      rw [detail] at head
      rw [List.filterMap_cons_none detail, List.foldl_cons, head]
      exact ih tables
    | some payload =>
      rw [detail] at head
      rw [List.filterMap_cons_some detail, List.foldl_cons, head]
      exact ih (by simpa using tables)

/-- What a sweep's SUMMARY mode asks for. -/
def Sweep.Exceptional (w : Sweep) (r : SweepResults) : Prop :=
  w.replied ≠ w.target ∨ w.skewed ≠ 0 ∨ 0 < r.trips ∨ 0 < r.clears ∨ r.sumSkipped = true

theorem Sweep.exception_iff (w : Sweep) (r : SweepResults) : w.exception r = true ↔ w.Exceptional r := by
  simp [Sweep.exception, Sweep.Exceptional, or_assoc]

theorem Sweep.summarised_iff (w : Sweep) (r : SweepResults) : w.summarised r = true ↔
    w.slot.summary = .all ∨ (w.slot.summary = .exceptions ∧ w.Exceptional r) := by
  unfold Sweep.summarised
  split
  next all => simp [all]
  next exceptions => simp [exceptions, Sweep.exception_iff]
  next none => simp [none]

theorem Part.sweepReports_of_normal (normal : w.runKind = .normal) (r : SweepResults) (c : Part) :
    c.sweepReports w r = c.offerSweep ((if w.summarised r then [summaryPayload w c.south.foreign r] else []) ++
      (if w.slot.detail then r.values.filterMap (detailOf c.store.tables w) else [])) := by
  have summary : (if w.summarised r then c.offerReport .sweep (summaryPayload w c.south.foreign r) else c) =
      c.offerSweep (if w.summarised r then [summaryPayload w c.south.foreign r] else []) := by
    split <;> rfl
  have tables (payloads : List (List Byte)) : (c.offerSweep payloads).store.tables = c.store.tables :=
    foldl_spares (step := fun c payload => c.offerReport .sweep payload) (fun d => d.store.tables) payloads
      (fun d payload _ => by simp) c
  unfold Part.sweepReports
  rw [normal]
  dsimp only
  rw [summary, Part.offerSweep, Part.offerSweep, List.foldl_append]
  split
  · exact Part.details_eq w r.values _ (tables _)
  · rfl

/-! ### The values of a sweep's replied positions -/

/-- What a replied position hands to the evaluation. -/
def replyAt (t : Tables) (w : Sweep) (p : Nat) : Option (MapEntry × PositionValues) :=
  match t.byPosition p, w.buffers.find? (fun b => b.position == p) with
  | some e, some b => some (e, e.values b)
  | _, _ => none

theorem Sweep.replies_eq (w : Sweep) (t : Tables) : w.replies t = (positionsOf w.replied).filterMap (replyAt t w) := rfl

theorem replyAt_position (t : Tables) (w : Sweep) (p : Nat) : (replyAt t w p).map (fun x => x.2.position) =
    if (t.byPosition p).isSome && w.buffers.any (fun b => b.position == p) then some p else none := by
  have searched : w.buffers.any (fun b => b.position == p) = (w.buffers.find? (fun b => b.position == p)).isSome :=
    Bool.eq_iff_iff.mpr (List.any_eq_true.trans List.find?_isSome.symm)
  rw [searched]
  unfold replyAt
  cases entry : t.byPosition p with
  | none => rfl
  | some e =>
    have place : e.position = p := by simpa using List.find?_some entry
    cases w.buffers.find? (fun b => b.position == p) with
    | none => rfl
    | some b => exact congrArg some place

theorem filterMap_ite_some {α : Type} (p : α → Bool) (l : List α) :
    l.filterMap (fun x => if p x then some x else none) = l.filter p := by
  rw [← List.filterMap_eq_filter]
  rfl

theorem Sweep.replies_positions (w : Sweep) (t : Tables) :
    (w.replies t).map (fun x => x.2.position) = allPositions.filter (fun p => hasPos w.replied p &&
      (t.byPosition p).isSome && w.buffers.any (fun b => b.position == p)) := by
  rw [Sweep.replies_eq, List.map_filterMap]
  simp only [replyAt_position]
  rw [filterMap_ite_some, positionsOf, List.filter_filter]
  refine List.filter_congr fun p _ => ?_
  rw [Bool.and_comm, Bool.and_assoc]

/-! ### The close (R12, R53) -/

/-- What the close of a sweep leaves outside PATROL. -/
structure ClosedBy (c t : Part) (w : Sweep) : Prop where
  missed : ∀ p ∈ allPositions, atPos t.sched.missed 0 p =
    if hasPos w.target p then (if hasPos w.replied p then 0 else min 15 (atPos c.sched.missed 0 p + 1))
    else atPos c.sched.missed 0 p
  heard : w.replied ≠ 0 → t.south = { c.south with silentRun := 0 } ∧
    t.sched.sweeps = c.sched.sweeps.filter (fun x => decide (x.number ≠ w.number))
  first_silent : w.replied = 0 → c.south.silentRun = 0 → t.south = { c.south with silentRun := 1 } ∧
    t.sched.sweeps = c.sched.sweeps.filter (fun x => decide (x.number ≠ w.number))
  silent : w.replied = 0 → 1 ≤ c.south.silentRun → t.south.link = .down ∧ t.south.linkLost = true ∧
    t.south.downEvents = min (c.south.downEvents + 1) 65535 ∧ t.sched.sweeps = []
  packTime : t.sched.packTime = c.sched.packTime
  tables : t.store.tables = c.store.tables
  mgmt : t.mgmt = c.mgmt
  power : t.power = c.power

/-- The sweep has left the tracker, and the answers of the sequencer wait. -/
def Part.sweepTaken (w : Sweep) (c : Part) : Part :=
  { c with sched.sweeps := c.sched.sweeps.filter (fun x => decide (x.number ≠ w.number)), reports.held := some [] }

/-- The close up to the silent-sweep count. -/
def Part.accounted (w : Sweep) (c : Part) : Part := ((c.sweepTaken w).evaluate w).1.account w

/-- The close before its patrol may end. -/
def Part.closedSweep (w : Sweep) (c : Part) : Part :=
  (((c.accounted w).silentReport w).sweepReports w ((c.sweepTaken w).evaluate w).2).releaseAnswers

theorem Part.closeSweep_eq (w : Sweep) (c : Part) : c.closeSweep w = (c.closedSweep w).patrolDone := rfl

theorem Part.patrolDone_of_not_patrol (awake : c.power.state ≠ .patrol) : c.patrolDone = c :=
  if_neg fun patrol => awake patrol.1

theorem Part.accounted_keeps (awake : c.power.state ≠ .patrol) (w : Sweep) :
    Part.Keeps evalFields (c.sweepTaken w) (c.accounted w) := by
  have evaluated := Part.evaluate_keeps_of_not_patrol (c := c.sweepTaken w) awake w
  exact evaluated.trans (Part.account_keeps_of_not_patrol (by rw [power_of_evalFields evaluated]; exact awake) w)

theorem Part.closedSweep_kept (w : Sweep) (c : Part) : Part.Keeps [.sched, .reports] ((c.accounted w).silentReport w)
    (c.closedSweep w) := (Part.sweepReports_keeps ..).step (Part.releaseAnswers_keeps _)

theorem Part.silentReport_power (awake : c.power.state ≠ .patrol) (w : Sweep) : (c.silentReport w).power = c.power := by
  unfold Part.silentReport
  split
  · rfl
  · split
    · exact Part.enterDown_power true awake
    · rfl

theorem Part.closedSweep_closed (awake : c.power.state ≠ .patrol) (w : Sweep) : ClosedBy c (c.closedSweep w) w := by
  have kept := Part.accounted_keeps awake w
  have after := Part.closedSweep_kept w c
  have power : (c.accounted w).power = c.power := power_of_evalFields (c := c.sweepTaken w) kept
  have south : (c.accounted w).south = c.south := by
    simp only [Part.Keeps] at kept
    simp_all [Part.sweepTaken]
  have sweeps : (c.accounted w).sched.sweeps = c.sched.sweeps.filter (fun x => decide (x.number ≠ w.number)) := by
    simp only [Part.Keeps] at kept
    simp_all [Part.sweepTaken]
  have missed (p : Nat) (range : p ∈ allPositions) := Part.account_missed range w ((c.sweepTaken w).evaluate w).1
  have south' : (c.closedSweep w).south = ((c.accounted w).silentReport w).south := by
    simp [Part.closedSweep]
  have sweeps' : (c.closedSweep w).sched.sweeps = ((c.accounted w).silentReport w).sched.sweeps := by
    simp [Part.closedSweep]
  have power' : (c.closedSweep w).power = ((c.accounted w).silentReport w).power := by simp [Part.closedSweep]
  refine ⟨fun p range => ?_, fun heard => ?_, fun none_heard first => ?_, fun none_heard again => ?_, ?_, ?_, ?_, ?_⟩
  · have same : (c.closedSweep w).sched.missed = (c.accounted w).sched.missed := by simp [Part.closedSweep]
    have counted := missed p range
    rw [Part.evaluate_missed] at counted
    rw [same]
    exact counted
  · have quiet : (c.accounted w).silentReport w = { c.accounted w with south.silentRun := 0 } := if_pos heard
    rw [south', sweeps', quiet, ← south]
    exact ⟨rfl, sweeps⟩
  · have quiet : (c.accounted w).silentReport w = { c.accounted w with south.silentRun := 1 } :=
      (if_neg (not_not.mpr none_heard)).trans (if_neg (by rw [south, first]; decide))
    rw [south', sweeps', quiet, ← south]
    exact ⟨rfl, sweeps⟩
  · have lost : (c.accounted w).silentReport w = (c.accounted w).enterDown true :=
      (if_neg (not_not.mpr none_heard)).trans (if_pos (by rw [south]; exact again))
    have awake' : (c.accounted w).power.state ≠ .patrol := by rw [power]; exact awake
    rw [south', sweeps', lost, Part.enterDown_south true awake', Part.enterDown_sweeps true awake']
    refine ⟨rfl, rfl, ?_, rfl⟩
    change bump16 (c.accounted w).south.downEvents = _
    rw [south]
    rfl
  · simp [Part.closedSweep, Part.accounted, Part.sweepTaken]
  · simp [Part.closedSweep, Part.accounted, Part.sweepTaken]
  · simp [Part.closedSweep, Part.accounted, Part.sweepTaken]
  · rw [power', Part.silentReport_power (by rw [power]; exact awake), power]

theorem Part.closeSweep_of_not_patrol (awake : c.power.state ≠ .patrol) (w : Sweep) :
    c.closeSweep w = c.closedSweep w := by
  rw [Part.closeSweep_eq]
  exact Part.patrolDone_of_not_patrol (by rw [(Part.closedSweep_closed awake w).power]; exact awake)

theorem Part.closeSweep_closed (awake : c.power.state ≠ .patrol) (w : Sweep) : ClosedBy c (c.closeSweep w) w := by
  rw [Part.closeSweep_of_not_patrol awake]
  exact Part.closedSweep_closed awake w

theorem Part.goodFrame_silentRun (c : Part) : c.goodFrame.south.silentRun = c.south.silentRun := by
  unfold Part.goodFrame
  split
  · split <;> rfl
  · rfl

theorem Part.goodFrame_downEvents (c : Part) : c.goodFrame.south.downEvents = c.south.downEvents := by
  unfold Part.goodFrame
  split
  · split <;> rfl
  · rfl

/-! ### The close by the last SAMPLE (R52, R53) -/

/-- The sweep with the number is the only thing that a stored sample changes in the tracker. -/
theorem filter_map_replaced (l : List Sweep) (w x : Sweep) (same : x.number = w.number) :
    (l.map (fun y => if y.number = w.number then x else y)).filter (fun y => decide (y.number ≠ w.number)) =
      l.filter (fun y => decide (y.number ≠ w.number)) := by
  induction l with
  | nil => rfl
  | cons y l ih =>
    by_cases hit : y.number = w.number
    · simpa [hit, same] using ih
    · simpa [hit] using ih

/-- A sample that completes its sweep closes it. -/
theorem Part.storeSample_closed (awake : c.power.state ≠ .patrol) {p : Nat} {s : SampleData}
    (last : addPos w.replied p = w.target) :
    ClosedBy c (c.storeSample w p s) { w with replied := w.target } := by
  let late : Bool := decide (c.tables.header.skewLimit < skew s.taken w.sampleTime)
  let stored : Part := { c with
    sched.sweeps := c.sched.sweeps.map (fun x => if x.number = w.number then w.store p s late else x),
    sched.skewedSamples := if late then bump16 c.sched.skewedSamples else c.sched.skewedSamples }
  have closes : c.storeSample w p s = stored.closeSweep (w.store p s late) := if_pos last
  have closed := Part.closeSweep_closed (c := stored) awake (w.store p s late)
  have sweeps : stored.sched.sweeps.filter (fun x => decide (x.number ≠ w.number)) =
      c.sched.sweeps.filter (fun x => decide (x.number ≠ w.number)) :=
    filter_map_replaced c.sched.sweeps w (w.store p s late) rfl
  have replied : (w.store p s late).replied = w.target := last
  have heard := closed.heard
  have first_silent := closed.first_silent
  have silent := closed.silent
  have missed := closed.missed
  rw [replied] at heard first_silent silent missed
  rw [closes]
  exact ⟨missed, fun some_reply => ⟨(heard some_reply).1, (heard some_reply).2.trans sweeps⟩,
    fun none_heard first => ⟨(first_silent none_heard first).1, (first_silent none_heard first).2.trans sweeps⟩, silent,
    closed.packTime, closed.tables, closed.mgmt, closed.power⟩

/-- Settles O42: the order of the close is the model's definition; what it leaves follows from its four steps. -/
theorem sweepClosesInOrder : Obligations.SweepClosesInOrder := by
  refine ⟨fun c q n w awake found due => ?_, fun c w r => ?_, fun c w => ?_, fun c q awake => ?_⟩
  · intro e
    refine exec_eq_next (effect := rfl) ?_
    have closes : c.closeTime n = c.closeSweep w := by
      simp only [Part.closeTime, found]
      exact if_pos due
    exact closes.trans (Part.closeSweep_of_not_patrol awake w)
  · intro exception made offer summary details
    have payloads : details = r.values.filterMap (detailOf c.store.tables w) := rfl
    have offers (l : List (List Byte)) : offer c l = c.offerSweep l := rfl
    have asked : w.summarised r = true ↔ made := Sweep.summarised_iff w r
    refine ⟨fun patrol => ?_, fun normal asks plain => ?_, fun normal asks detailed => ?_, fun normal refuses plain => ?_,
      fun normal refuses detailed => ?_⟩
    · simp only [Part.sweepReports, patrol]
    · rw [Part.sweepReports_of_normal normal, if_pos (asked.mpr asks), plain, offers]
      rfl
    · rw [Part.sweepReports_of_normal normal, if_pos (asked.mpr asks), if_pos detailed, offers, payloads]
    · rw [Part.sweepReports_of_normal normal, if_neg fun asks => refuses (asked.mp asks), plain]
      rfl
    · rw [Part.sweepReports_of_normal normal, if_neg fun asks => refuses (asked.mp asks), if_pos detailed, offers, payloads]
      rfl
  · have values : (c.evaluate w).2.values = (w.replies c.store.tables).map (·.2) := rfl
    rw [values, List.map_map]
    exact Sweep.replies_positions w c.store.tables
  · intro closed
    have shown {d t : Part} {w : Sweep} (h : ClosedBy d t w) (missed : d.sched.missed = c.sched.missed)
        (run : d.south.silentRun = c.south.silentRun) (events : d.south.downEvents = c.south.downEvents)
        (sched : d.sched = c.sched) (tables : d.store.tables = c.store.tables) (mgmt : d.mgmt = c.mgmt)
        (power : d.power = c.power) : closed d t w := by
      obtain ⟨counts, heard, first_silent, silent, packTime, sameTables, sameMgmt, samePower⟩ := h
      rw [sched] at counts heard first_silent packTime
      rw [run] at first_silent silent
      rw [events] at silent
      exact ⟨counts, heard, first_silent, silent, packTime, sameTables.trans tables, sameMgmt.trans mgmt,
        samePower.trans power⟩
    refine ⟨fun n w found => ⟨fun early => ?_, fun due => ?_⟩, fun bs p f s w running sorted read found target fresh last => ?_⟩
    · refine exec_eq_next (effect := rfl) ?_
      simp only [Part.closeTime, found]
      exact if_neg (by simpa [Part.now] using early)
    · have closes : c.closeTime n = c.closeSweep w := by
        simp only [Part.closeTime, found]
        exact if_pos due
      exact ⟨_, exec_eq_next rfl closes,
        shown (Part.closeSweep_closed awake w) rfl rfl rfl rfl rfl rfl rfl⟩
    · have sched : c.goodFrame.sched = c.sched := by simp
      have power : c.goodFrame.power = c.power := by simp
      have taken : c.goodFrame.takeSample p f = c.goodFrame.storeSample w p s := by
        rw [Part.takeSample_of_sweep read (by rw [sched]; exact found), if_neg (by simp [target]), if_neg (by simp [fresh])]
      have effect : exec (.sample bs) ⟨c, q⟩ = .next ⟨c.goodFrame.takeSample p f, q⟩ :=
        exec_eq_next rfl ((Part.receiveSouth_running running).trans (by rw [sorted]))
      rw [taken] at effect
      refine ⟨_, effect, shown (Part.storeSample_closed (by rw [power]; exact awake) last) (by rw [sched]) ?_ ?_ sched
        (by simp) (by simp) power⟩
      · exact Part.goodFrame_silentRun c
      · exact Part.goodFrame_downEvents c

end Sys2Proof.Machine
end

section
/-!
# The tamper and service lines (O47)
-/
namespace Sys2Proof.Machine

variable {c d : Part} {q : List Instr}

/-! ### What the entry to LOCKED_OUT alone does to the store (R118) -/

/-- The store moves by an entry to LOCKED_OUT alone, and the tamper latch, the bank fields and the TAMPER object stay. -/
structure Bars (c d : Part) : Prop where
  stays : c.seq.conn = .lockedOut → d.seq.conn = .lockedOut
  store : d.store = c.store ∨ (c.seq.conn ≠ .lockedOut ∧ d.LockedWriting)
  read : d.store.recordRead = c.store.recordRead
  active : d.store.copy.active = c.store.copy.active
  floor : d.store.copy.floor = c.store.copy.floor
  tamper : d.store.copy.tamper = c.store.copy.tamper
  object : packObject .tamper ∈ c.interlock.tripped → packObject .tamper ∈ d.interlock.tripped

theorem Bars.trans {e : Part} (h : Bars c d) (h' : Bars d e) : Bars c e := by
  refine ⟨h'.stays ∘ h.stays, ?_, h'.read.trans h.read, h'.active.trans h.active, h'.floor.trans h.floor,
    h'.tamper.trans h.tamper, h'.object ∘ h.object⟩
  obtain same | ⟨out, locked, writes⟩ := h.store
  · obtain same' | ⟨out', writing⟩ := h'.store
    · exact .inl (same'.trans same)
    · exact .inr ⟨fun locked => out' (h.stays locked), writing⟩
  · obtain same' | ⟨out', -⟩ := h'.store
    · exact .inr ⟨out, h'.stays locked, by rw [same']; exact writes⟩
    · exact absurd locked out'

theorem Bars.of_same (store : d.store = c.store := by simp) (conn : d.seq.conn = c.seq.conn := by simp)
    (tripped : d.interlock.tripped = c.interlock.tripped := by simp) : Bars c d :=
  ⟨conn.trans, .inl store, by rw [store], by rw [store], by rw [store], by rw [store], by rw [tripped]; exact id⟩

theorem Bars.refl (c : Part) : Bars c c := .of_same rfl rfl rfl

/-- The condition under which the trip that may follow does not show in the store. -/
theorem Bars.same (h : Bars c d) (out : c.seq.conn = .lockedOut ∨ d.seq.conn ≠ .lockedOut) : d.store = c.store := by
  obtain same | ⟨left, locked, -⟩ := h.store
  · exact same
  · exact absurd locked (out.resolve_left left)

theorem Bars.writes (h : Bars c d) (write : c.store.write ≠ .idle) : d.store.write ≠ .idle := by
  obtain same | ⟨-, -, writes⟩ := h.store
  · rwa [same]
  · exact writes

theorem Part.refreshAction_bars (c : Part) : Bars c c.refreshAction :=
  ⟨(Part.refreshAction_locks c).stays, Part.refreshAction_store c, by simp, by simp, by simp, by simp, by simp⟩

theorem Part.countTrip_bars (o : FaultObject) (c : Part) : Bars c (c.countTrip o) := by
  unfold Part.countTrip
  split
  · exact .refl c
  · let counted : Part := { c with
      interlock.tripped := c.interlock.tripped ++ [o],
      interlock.latches := if c.tables.latches o.cls then c.interlock.latches ||| o.cls.bit else c.interlock.latches }
    have added : Bars c counted :=
      ⟨id, .inl rfl, rfl, rfl, rfl, rfl, fun member => List.mem_append_left _ member⟩
    exact added.trans counted.refreshAction_bars

theorem Part.countEvent_bars (k : FaultClass) (c : Part) : Bars c (c.countEvent k) :=
  Bars.trans (d := { c.recordTrip (packKey k) c.now none with
    interlock.events := (c.recordTrip (packKey k) c.now none).interlock.events ||| k.bit }) .of_same
    (Part.refreshAction_bars _)

theorem Part.eventClass_bars (k : FaultClass) (c : Part) : Bars c (c.eventClass k) := by
  rw [Part.eventClass_eq]
  split
  · exact c.countEvent_bars k
  · exact (c.countEvent_bars k).trans .of_same

/-! ### A contactor fault and the wake from DEEP -/

theorem Part.faultTransition_store (kind : EventKind) (k : Contactor) (cause : Cause) (c : Part) :
    (c.faultTransition kind k cause).store = c.store ∨
      (c.seq.conn ≠ .lockedOut ∧ (c.faultTransition kind k cause).LockedWriting) := by
  by_cases opening : c.seq.conn = .opening
  · have out : c.seq.conn ≠ .lockedOut := by rw [opening]; nofun
    rw [Part.faultTransition_of_opening opening]
    dsimp only
    have goes {d : Part} (same : d.store = c.store) :
        d.advanceOpening.store = c.store ∨ (c.seq.conn ≠ .lockedOut ∧ d.advanceOpening.LockedWriting) :=
      (Part.advanceOpening_store d).imp (·.trans same) fun writing => ⟨out, writing⟩
    split
    · exact goes (by simp)
    · split
      · obtain same | writing := Part.endOpening_store ((c.setPending .contactorFault).logEvent kind (some k) cause
          .opening .opening)
        · exact goes (same.trans (by simp))
        · rw [Part.advanceOpening_of_not_opening (by rw [writing.1]; nofun)]
          exact .inr ⟨out, writing⟩
      · exact goes (by simp)
  · cases rest : c.seq.conn.atRest with
    | false =>
      have out : c.seq.conn ≠ .lockedOut := fun locked => by simp [locked, ConnState.atRest] at rest
      rw [Part.faultTransition_of_moving rest opening]
      exact (Part.advanceOpening_store _).imp (·.trans (by simp)) fun writing => ⟨out, writing⟩
    | true =>
      obtain opened | locked := (ConnState.atRest_iff _).mp rest
      · have entered : c.faultTransition kind k cause =
            ((c.setPending .contactorFault).logEvent kind (some k) cause .opened .lockedOut).enterLockedOut .opened := by
          simp only [Part.faultTransition, opened]
        rw [entered]
        exact .inr ⟨by rw [opened]; nofun, Part.enterLockedOut_writing _ _⟩
      · have logged : c.faultTransition kind k cause =
            (c.setPending .contactorFault).logEvent kind (some k) cause .lockedOut .lockedOut := by
          simp only [Part.faultTransition, locked]
        rw [logged]
        exact .inl (by simp)

theorem Part.faultTransition_bars (kind : EventKind) (k : Contactor) (cause : Cause) (c : Part) :
    Bars c (c.faultTransition kind k cause) :=
  ⟨fun locked => (Part.faultTransition_made kind k cause c).rest (.inr locked), Part.faultTransition_store kind k cause c,
    by simp, by simp, by simp, by simp, by simp⟩

theorem Part.contactorFault_bars (active : c.power.state = .active) (read : c.store.recordRead = true)
    (kind : EventKind) (k : Contactor) (cause : Cause) : Bars c (c.contactorFault kind k cause) := by
  rw [Part.contactorFault_active active, Part.readRecord_of_read read]
  exact (Part.faultTransition_bars kind k cause c).trans (Part.eventClass_bars ..)

theorem Part.sleepFeedback_bars (active : c.power.state = .active) (read : c.store.recordRead = true)
    (f : ContactorFlags) (k : Contactor) : Bars c (c.sleepFeedback f k) := by
  unfold Part.sleepFeedback
  split
  · have settles := Part.spentWatch_settles k c
    have same : Bars c (c.spentWatch k) := .of_same (by rw [settles.rest]) settles.seq.1 (by rw [settles.rest])
    exact same.trans (Part.contactorFault_bars (by rw [settles.power]; exact active) (same.read.trans read) ..)
  · exact .refl c

theorem Part.sleepFeedbacks_bars (active : c.power.state = .active) (read : c.store.recordRead = true)
    (f : ContactorFlags) : Bars c (c.sleepFeedbacks f) := by
  have first := Part.sleepFeedback_power active f .kPos
  have second := Part.sleepFeedback_power (c := c.sleepFeedback f .kPos) (by rw [first, active]) f .kNeg
  have pos := Part.sleepFeedback_bars active read f .kPos
  have neg := Part.sleepFeedback_bars (c := c.sleepFeedback f .kPos) (by rw [first, active]) (pos.read.trans read) f .kNeg
  exact (pos.trans neg).trans
    (Part.sleepFeedback_bars (by rw [second, first, active]) ((pos.trans neg).read.trans read) f .kPre)

theorem Part.objectsToNormal_bars (c : Part) : Bars c c.objectsToNormal := by
  let cleared : Part := { c.clearRecords with
    eval.channels := Vector.replicate 16 (Vector.replicate 16 ChanState.normal), eval.sum := ChanState.normal,
    eval.sense := Vector.replicate 16 ObjState.normal, eval.lost := Vector.replicate 16 ObjState.normal,
    sched.missed := Vector.replicate 16 0,
    interlock.tripped := c.clearRecords.interlock.tripped.filter (fun o => !o.cls.ofEvaluator) }
  have store : cleared.store = c.store := by simp [cleared]
  have kept : Bars c cleared := ⟨(by simp [cleared] : cleared.seq.conn = c.seq.conn).trans, .inl store, by rw [store],
    by rw [store], by rw [store], by rw [store], fun member => by
      refine List.mem_filter.mpr ⟨?_, rfl⟩
      simpa using member⟩
  exact kept.trans (Part.refreshAction_bars cleared)

theorem Part.woken_bars (c : Part) : Bars c c.woken := by
  let stopped : Part := { c with power.patrolTimer := none }
  let active : Part := { stopped.objectsToNormal with power.state := .active, power.step := .none }
  have normal : Bars c active :=
    ((Bars.of_same (c := c) (d := stopped) rfl rfl rfl).trans stopped.objectsToNormal_bars).trans (.of_same rfl rfl rfl)
  have formed := (normal.trans (d := active) (e := active.restartSupervision) .of_same).trans
    (Part.refreshAction_bars _)
  exact formed.trans (.of_same (by simp [Part.woken, active, stopped]) (by simp [Part.woken, active, stopped])
    (by simp [Part.woken, active, stopped]))

theorem Part.leaveDeep_bars (read : c.store.recordRead = true) : Bars c c.leaveDeep := by
  have woken := c.woken_bars
  have handed := Part.sleepFeedbacks_bars c.woken_woken.state (woken.read.trans read) c.power.closedFeedback
  have state : (c.woken.sleepFeedbacks c.power.closedFeedback).power.state ≠ .deep := by
    have kept := Part.sleepFeedbacks_keeps_of_active c.woken_woken.state c.power.closedFeedback
    have power : (c.woken.sleepFeedbacks c.power.closedFeedback).power = c.woken.power := by
      simp only [Part.Keeps] at kept
      simp_all
    rw [power, c.woken_woken.state]
    nofun
  have settles := Part.resumeSequencer_settles state
  rw [Part.leaveDeep_eq]
  exact (woken.trans handed).trans (.of_same (by rw [settles.rest]) settles.seq.1 (by rw [settles.rest]))

theorem Part.powerCause_bars (read : c.store.recordRead = true) (w : WakeCause) : Bars c (c.powerCause q w) := by
  cases state : c.power.state with
  | active =>
    have stays : c.powerCause q w = c := by simp only [Part.powerCause, state]
    rw [stays]
    exact .refl c
  | sleepEntry =>
    rw [Part.powerCause_of_sleepEntry state]
    exact .of_same
  | deep =>
    rw [Part.powerCause_of_deep state]
    have arrived : Bars c ((c.addCause w).arriveTogether q) := .of_same
    exact arrived.trans (Part.leaveDeep_bars (arrived.read.trans read))
  | patrol =>
    rw [Part.powerCause_of_patrol state]
    exact .of_same

theorem Part.powerCause_active (w : WakeCause) (c : Part) : (c.powerCause q w).power.state = .active := by
  by_cases active : c.power.state = .active
  · have stays : c.powerCause q w = c := by simp only [Part.powerCause, active]
    rwa [stays]
  · exact (Part.powerCause_awakened active w).state

theorem Part.powerCause_lines (w : WakeCause) (c : Part) :
    (c.powerCause q w).lines.tamperIn = c.lines.tamperIn ∧ (c.powerCause q w).lines.serviceIn = c.lines.serviceIn ∧
      (c.power.state ≠ .deep ∨ (∀ j ∈ q, j.wakes = false) → (c.powerCause q w).lines = c.lines) := by
  by_cases deep : c.power.state = .deep
  · rw [Part.powerCause_of_deep deep, Part.wakeFromDeep, (Part.leaveDeep_woken _).lines]
    refine ⟨rfl, rfl, fun alone => ?_⟩
    rw [Part.arriveTogether_quiet _ _ (alone.resolve_left (not_not.mpr deep))]
    rfl
  · have kept : (c.powerCause q w).lines = c.lines := by
      by_cases active : c.power.state = .active
      · have stays : c.powerCause q w = c := by simp only [Part.powerCause, active]
        rw [stays]
      · exact (Part.powerCause_awakened active w).lines (.inl deep)
    exact ⟨by rw [kept], by rw [kept], fun _ => kept⟩

/-! ### The setting of the tamper latch (R161, R177) -/

theorem Part.tripTamper_bars (c : Part) : Bars c c.tripTamper :=
  Bars.trans (d := c.recordTrip (packKey .tamper) c.now none) .of_same (Part.countTrip_bars ..)

theorem Part.mem_countTrip (o : FaultObject) (c : Part) : o ∈ (c.countTrip o).interlock.tripped := by
  unfold Part.countTrip
  split
  next tripped => simpa using tripped
  next => simp

theorem Part.mem_tripTamper (c : Part) : packObject .tamper ∈ c.tripTamper.interlock.tripped := Part.mem_countTrip ..

/-- A record write asked for: it begins, waits behind one in progress, or merges with one that waits (R161). -/
structure WriteAsked (w : RecordWrite) (r : ServiceRecord) (now : Time) (w' : RecordWrite) : Prop where
  begins : w = .idle → w' = .inProgress r (now + 6000#32)
  waits : ∀ f d, w = .inProgress f d → w' = .inProgressWaiting f d
  merges : ∀ f d, w = .inProgressWaiting f d → w' = .inProgressWaiting f d

theorem Part.requestWrite_asked (c : Part) :
    WriteAsked c.store.write c.store.copy c.sched.packTime c.requestWrite.store.write :=
  ⟨fun idle => by rw [Part.requestWrite_of_idle idle]; rfl, fun _ _ first => by rw [Part.requestWrite_of_writing (.inl first)],
    fun _ _ waiting => by rw [Part.requestWrite_of_writing (.inr waiting)]⟩

theorem Part.requestWrite_seq (c : Part) : c.requestWrite.seq.conn = c.seq.conn := by simp

theorem Part.raiseTamper_of_awake (awake : c.power.state ≠ .deep) : c.raiseTamper = c.requestWrite.tripTamper :=
  if_neg awake

theorem Part.raiseTamper_of_deep (deep : c.power.state = .deep) : c.raiseTamper =
    Part.requestWrite { c.tripTamper with store.write := c.store.write } := if_pos deep

/-- What the raised latch leaves of the record copy and of the write, unless its trip enters LOCKED_OUT. -/
structure Raised (c t : Part) : Prop where
  stays : c.seq.conn = .lockedOut → t.seq.conn = .lockedOut
  kept : c.seq.conn = .lockedOut ∨ t.seq.conn ≠ .lockedOut → t.store.copy = c.store.copy ∧
    WriteAsked c.store.write c.store.copy c.sched.packTime t.store.write
  writes : t.store.write ≠ .idle
  read : t.store.recordRead = c.store.recordRead
  active : t.store.copy.active = c.store.copy.active
  floor : t.store.copy.floor = c.store.copy.floor
  tamper : t.store.copy.tamper = c.store.copy.tamper
  object : packObject .tamper ∈ t.interlock.tripped

theorem Raised.bars {t u : Part} (h : Raised c t) (h' : Bars t u) : Raised c u := by
  refine ⟨h'.stays ∘ h.stays, fun out => ?_, h'.writes h.writes, h'.read.trans h.read, h'.active.trans h.active,
    h'.floor.trans h.floor, h'.tamper.trans h.tamper, h'.object h.object⟩
  have before : c.seq.conn = .lockedOut ∨ t.seq.conn ≠ .lockedOut :=
    out.imp_right fun free locked => free (h'.stays locked)
  have same := h'.same (out.imp h.stays id)
  rw [same]
  exact h.kept before

theorem Part.raiseTamper_raised (c : Part) : Raised c c.raiseTamper := by
  have asked := c.requestWrite_asked
  by_cases deep : c.power.state = .deep
  · let tripped : Part := { c.tripTamper with store.write := c.store.write }
    have bars := c.tripTamper_bars
    have asked' := tripped.requestWrite_asked
    have time : tripped.sched.packTime = c.sched.packTime := by simp [tripped]
    have copy : tripped.requestWrite.store.copy = c.tripTamper.store.copy := by simp [tripped]
    have conn : tripped.requestWrite.seq.conn = c.tripTamper.seq.conn := by simp [tripped]
    rw [Part.raiseTamper_of_deep deep]
    refine ⟨fun locked => conn.trans (bars.stays locked), fun out => ?_, Part.requestWrite_ne_idle _, ?_, ?_, ?_, ?_, ?_⟩
    · have same : c.tripTamper.store = c.store := bars.same (out.imp_right fun free => by rwa [conn] at free)
      rw [time] at asked'
      refine ⟨copy.trans (by rw [same]), ?_⟩
      have fields : tripped.store.copy = c.store.copy := congrArg (·.copy) same
      rw [fields] at asked'
      exact asked'
    · exact (by simp [tripped] : tripped.requestWrite.store.recordRead = c.tripTamper.store.recordRead).trans bars.read
    · rw [copy, bars.active]
    · rw [copy, bars.floor]
    · rw [copy, bars.tamper]
    · have kept : tripped.requestWrite.interlock = c.tripTamper.interlock := by simp [tripped]
      rw [kept]
      exact c.mem_tripTamper
  · have bars := c.requestWrite.tripTamper_bars
    have copy : c.requestWrite.store.copy = c.store.copy := by simp
    have conn := c.requestWrite_seq
    rw [Part.raiseTamper_of_awake deep]
    refine ⟨fun locked => bars.stays (conn.trans locked), fun out => ?_, bars.writes (Part.requestWrite_ne_idle c),
      bars.read.trans (by simp), bars.active.trans (by rw [copy]), bars.floor.trans (by rw [copy]),
      bars.tamper.trans (by rw [copy]), Part.mem_tripTamper _⟩
    have same := bars.same (out.imp_left conn.trans)
    rw [same]
    exact ⟨copy, asked⟩

theorem Part.raiseTamper_power (c : Part) : c.raiseTamper.power = c.power := by simp

/-- The record copy with the tamper latch set. -/
def Part.latchSet (c : Part) : Part := { c with store.copy := { c.store.copy with tamper := true } }

/-- The latch is set on a record that has been read. -/
structure TamperSet (q : List Instr) (c t : Part) : Prop where
  raised : Raised c.latchSet t
  state : t.power.state = .active
  tamperIn : t.lines.tamperIn = c.lines.tamperIn
  serviceIn : t.lines.serviceIn = c.lines.serviceIn
  lines : c.power.state ≠ .deep ∨ (∀ j ∈ q, j.wakes = false) → t.lines = c.lines

theorem Part.setTamper_set (read : c.store.recordRead = true) (clear : c.store.copy.tamper = false) :
    TamperSet q c (c.setTamper q) := by
  have sets : c.setTamper q = c.latchSet.raiseTamper.powerCause q .tamper := by
    unfold Part.setTamper
    rw [Part.readRecord_of_read read]
    exact if_neg (by simp [clear])
  have raised := c.latchSet.raiseTamper_raised
  obtain ⟨tamperIn, serviceIn, lines⟩ := Part.powerCause_lines (q := q) .tamper c.latchSet.raiseTamper
  have same : c.latchSet.raiseTamper.lines = c.lines := by simp [Part.latchSet]
  have power : c.latchSet.raiseTamper.power = c.power := Part.raiseTamper_power _
  rw [same, power] at lines
  rw [same] at tamperIn serviceIn
  rw [sets]
  exact ⟨raised.bars (Part.powerCause_bars (raised.read.trans read) .tamper), Part.powerCause_active .tamper _, tamperIn,
    serviceIn, lines⟩

theorem Part.setTamper_of_set (read : c.store.recordRead = true) (set : c.store.copy.tamper = true) :
    c.setTamper q = c := by
  unfold Part.setTamper
  rw [Part.readRecord_of_read read]
  exact if_pos set

/-! ### A latch that is set before the boot (log entry 10) -/

/-- What the setting of the latch leaves where the record has not been read. -/
structure LatchedUnread (q : List Instr) (c t : Part) : Prop where
  read : t.store.recordRead = true
  tamper : t.store.copy.tamper = true
  active : t.store.copy.active = (c.store.record.getD {}).active
  floor : t.store.copy.floor = (c.store.record.getD {}).floor
  object : packObject .tamper ∈ t.interlock.tripped
  locks : (c.store.record.getD {}).lockout = true → t.seq.conn = .lockedOut
  wakes : (c.store.record.getD {}).tamper = false → t.power.state = .active ∧ t.store.write ≠ .idle
  tamperIn : t.lines.tamperIn = c.lines.tamperIn
  serviceIn : t.lines.serviceIn = c.lines.serviceIn
  lines : c.power.state ≠ .deep ∨ (∀ j ∈ q, j.wakes = false) → t.lines = c.lines

theorem Part.setTamper_unread (unread : c.store.recordRead = false) : LatchedUnread q c (c.setTamper q) := by
  have record : c.bootRecord = c.store.record.getD {} := by simp [Part.bootRecord, unread]
  obtain ⟨active, floor, tamper⟩ := c.readRecord_copy
  rw [record] at active floor tamper
  have lines : c.readRecord.lines = c.lines := by simp
  have locks (lockout : (c.store.record.getD {}).lockout = true) : c.readRecord.seq.conn = .lockedOut :=
    (Part.readRecord_locked unread (by rwa [record])).1
  cases set : (c.store.record.getD {}).tamper with
  | true =>
    have stays : c.setTamper q = c.readRecord := if_pos (tamper.trans set)
    rw [stays]
    exact ⟨c.readRecord_read, tamper.trans set, active, floor, Part.readRecord_tamper unread (by rwa [record]), locks,
      fun clear => Bool.noConfusion (set.symm.trans clear), by rw [lines], by rw [lines], fun _ => lines⟩
  | false =>
    have after : c.setTamper q = c.readRecord.setTamper q := by
      unfold Part.setTamper
      rw [Part.readRecord_of_read (c := c.readRecord) c.readRecord_read]
    have same : c.readRecord.power = c.power := by
      rw [Part.readRecord_of_unread unread, if_neg (by rw [record, set]; nofun)]
      unfold Part.withRecord
      dsimp only
      split <;> simp
    obtain ⟨raised, state, tamperIn, serviceIn, still⟩ :=
      Part.setTamper_set (q := q) (c := c.readRecord) c.readRecord_read (tamper.trans set)
    rw [same, lines] at still
    rw [lines] at tamperIn serviceIn
    rw [after]
    exact ⟨raised.read.trans c.readRecord_read, raised.tamper, raised.active.trans active, raised.floor.trans floor,
      raised.object, fun lockout => raised.stays (locks lockout), fun _ => ⟨state, raised.writes⟩, tamperIn, serviceIn,
      still⟩

/-! ### A tamper in DEEP that locks the pack out (R89, R113, R161) -/

theorem Part.effectiveAction_of_lockout {k : FaultClass} (active : c.classActive k = true)
    (asks : c.store.tables.actionOf k = some .lockout) : c.effectiveAction = .lockout := by
  obtain ⟨-, above, -⟩ := foldl_sup (fun k => (c.store.tables.actionOf k).getD .none) c.activeClasses .none
  have high := above k (Part.mem_activeClasses_iff.mpr active)
  rw [asks] at high
  have table : c.store.tables.interlock ≠ none := fun empty => by
    simp [Tables.actionOf, Tables.entryOf, empty] at asks
  have found : c.effectiveAction =
      c.activeClasses.foldl (fun a k => a.sup ((c.store.tables.actionOf k).getD .none)) .none := by
    unfold Part.effectiveAction
    split
    next empty => exact absurd empty table
    next => rfl
  rw [← found] at high
  revert high
  cases c.effectiveAction <;> decide

/-- The part with one more object counted, before the action that follows. -/
def Part.withObject (o : FaultObject) (c : Part) : Part := { c with
  interlock.tripped := c.interlock.tripped ++ [o],
  interlock.latches := if c.tables.latches o.cls then c.interlock.latches ||| o.cls.bit else c.interlock.latches }

theorem Part.countTrip_of_new {o : FaultObject} (new : o ∉ c.interlock.tripped) :
    c.countTrip o = (c.withObject o).refreshAction := if_neg (by simpa using new)

/-- A trip of TAMPER whose action is LOCKOUT takes the pack from OPEN to LOCKED_OUT. -/
theorem Part.tripTamper_locks (opened : c.seq.conn = .opened) (asks : c.store.tables.actionOf .tamper = some .lockout)
    (new : packObject .tamper ∉ c.interlock.tripped) (lower : c.interlock.effective ≠ .lockout) :
    c.tripTamper.seq.conn = .lockedOut ∧ c.tripTamper.store.copy = { c.store.copy with lockout := true } := by
  let recorded := c.recordTrip (packKey .tamper) c.now none
  let counted := recorded.withObject (packObject .tamper)
  have interlock : recorded.interlock = c.interlock := by simp [recorded]
  have conn : counted.seq.conn = .opened := (by simp [counted, Part.withObject, recorded] : _ = c.seq.conn).trans opened
  have trips : c.tripTamper = counted.refreshAction :=
    Part.countTrip_of_new (c := recorded) (by rw [interlock]; exact new)
  have active : counted.classActive .tamper = true := by
    have object : packObject .tamper ∈ counted.interlock.tripped :=
      List.mem_append_right recorded.interlock.tripped (List.mem_singleton.mpr rfl)
    exact (Part.classActive_of_condition rfl).mpr
      ⟨fun down => FaultClass.noConfusion down.1, .inl ((Part.hasObject_iff _).mpr ⟨packObject .tamper, object, rfl⟩)⟩
  have tables : counted.store.tables = c.store.tables := by simp [counted, Part.withObject, recorded]
  have action : counted.effectiveAction = .lockout := Part.effectiveAction_of_lockout active (by rw [tables, asks])
  have before : counted.interlock.effective ≠ .lockout := by
    have same : counted.interlock.effective = c.interlock.effective := congrArg (·.effective) interlock
    rwa [same]
  have locked : counted.refreshAction.seq.conn = .lockedOut := by
    rw [Part.refreshAction_conn_of_opened conn, if_pos ⟨action, before⟩]
  have bars := c.tripTamper_bars
  have flag := (Part.refreshAction_locks counted).flag
  rw [trips] at bars ⊢
  have locks : counted.refreshAction.store.copy.lockout = true := by
    rw [flag, locked, conn]
    exact Bool.or_true _
  have copied (a b : ServiceRecord) (active : b.active = a.active) (floor : b.floor = a.floor)
      (tamper : b.tamper = a.tamper) (lockout : b.lockout = true) : b = { a with lockout := true } := by
    cases a
    cases b
    simp_all
  exact ⟨locked, copied _ _ bars.active bars.floor bars.tamper locks⟩

theorem Part.setTamper_locks (deep : c.power.state = .deep) (read : c.store.recordRead = true)
    (clear : c.store.copy.tamper = false) (idle : c.store.write = .idle) (opened : c.seq.conn = .opened)
    (asks : c.store.tables.actionOf .tamper = some .lockout) (new : packObject .tamper ∉ c.interlock.tripped)
    (lower : c.interlock.effective ≠ .lockout) :
    (c.setTamper q).seq.conn = .lockedOut ∧ (c.setTamper q).store.write =
      .inProgress { c.store.copy with tamper := true, lockout := true } (c.sched.packTime + 6000#32) := by
  let tripped : Part := { c.latchSet.tripTamper with store.write := c.store.write }
  have sets : c.setTamper q = c.latchSet.raiseTamper.powerCause q .tamper := by
    unfold Part.setTamper
    rw [Part.readRecord_of_read read]
    exact if_neg (by simp [clear])
  have raises : c.latchSet.raiseTamper = tripped.requestWrite := Part.raiseTamper_of_deep (c := c.latchSet) deep
  obtain ⟨locked, copy⟩ := Part.tripTamper_locks (c := c.latchSet) opened asks new lower
  have begins := tripped.requestWrite_asked.begins idle
  have time : tripped.sched.packTime = c.sched.packTime := by simp [tripped, Part.latchSet]
  have copied : tripped.store.copy = { c.store.copy with tamper := true, lockout := true } := copy
  have conn : tripped.requestWrite.seq.conn = .lockedOut := tripped.requestWrite_seq.trans locked
  have recorded : tripped.requestWrite.store.recordRead = true := by
    have kept := c.latchSet.raiseTamper_raised.read.trans read
    rwa [raises] at kept
  have bars := Part.powerCause_bars (q := q) recorded .tamper
  rw [sets, raises]
  refine ⟨bars.stays conn, ?_⟩
  rw [bars.same (.inl conn), begins, time, copied]

/-! ### The deassertion of SERVICE_IN (R50, R176) -/

theorem Part.abortUpdate_of_open (other : c.store.update ≠ .commitPending) : c.abortUpdate =
    Part.updateReport (.aborted c.store.update) c.store.target
      { c with store.update := .idle, store.abortPending := false } := by
  unfold Part.abortUpdate
  dsimp only
  rw [if_neg other]
  rfl

theorem Part.abortUpdate_of_commit (pending : c.store.update = .commitPending) : c.abortUpdate =
    let released := Part.releaseHold { c with store.update := .idle, store.abortPending := false }
    released.updateReport (.aborted .commitPending) released.store.target := by
  unfold Part.abortUpdate
  dsimp only
  rw [if_pos pending, pending]

theorem Part.serviceAbort_of_programming (programming : c.mgmt.programming ≠ none)
    (busy : c.store.update = .ready ∨ c.store.update = .checking ∨ c.store.update = .commitPending) :
    c.serviceAbort = { c with store.abortPending := true } := by
  have some : c.mgmt.programming.isSome = true := Option.isSome_iff_ne_none.mpr programming
  obtain h | h | h := busy <;> simp only [Part.serviceAbort, h, some, if_true]

theorem Part.serviceAbort_of_free (free : c.mgmt.programming = none)
    (busy : c.store.update = .ready ∨ c.store.update = .checking ∨ c.store.update = .commitPending) :
    c.serviceAbort = c.abortUpdate := by
  obtain h | h | h := busy <;> simp only [Part.serviceAbort, h, free, Option.isSome_none, Bool.false_eq_true, if_false]

theorem Part.serviceAbort_of_idle (idle : c.store.update = .idle ∨ c.store.update = .switching) :
    c.serviceAbort = c := by
  obtain h | h := idle <;> simp only [Part.serviceAbort, h]

theorem Part.serviceAbort_of_erasing (erasing : c.store.update = .erasing) :
    c.serviceAbort = { c with store.abortPending := true } := by
  simp only [Part.serviceAbort, erasing]

theorem Part.serviceAbort_idle (free : c.mgmt.programming = none) (not_erasing : c.store.update ≠ .erasing)
    (not_switching : c.store.update ≠ .switching) : c.serviceAbort.store.update = .idle := by
  have aborted : c.abortUpdate.store.update = .idle := by
    unfold Part.abortUpdate
    dsimp only
    split <;> simp [Part.updateReport]
  cases update : c.store.update with
  | idle => rw [Part.serviceAbort_of_idle (.inl update), update]
  | erasing => exact absurd update not_erasing
  | switching => exact absurd update not_switching
  | ready => rw [Part.serviceAbort_of_free free (.inl update), aborted]
  | checking => rw [Part.serviceAbort_of_free free (.inr (.inl update)), aborted]
  | commitPending => rw [Part.serviceAbort_of_free free (.inr (.inr update)), aborted]

theorem Part.abortUpdate_of_held (pending : c.store.update = .commitPending) (held : c.sched.holdInEffect = true) :
    c.abortUpdate =
      let freed : Part := { c with
        store.update := .idle, store.abortPending := false, sched.hold := false, sched.holdInEffect := false }
      let released := freed.startNormalRun false
      released.updateReport (.aborted .commitPending) released.store.target := by
  rw [Part.abortUpdate_of_commit pending]
  exact congrArg (fun p : Part => p.updateReport (.aborted .commitPending) p.store.target)
    (Part.releaseHold_of_effect (c := { c with store.update := .idle, store.abortPending := false }) held)

theorem Part.startNormalRun_of_stopped (stopped : c.sched.state = .stopped) (hold : Bool) :
    c.startNormalRun hold = c := if_neg (by rw [stopped]; nofun)

/-! ### The two lines by their commands -/

theorem Part.tamperIn_of_assert (clear : c.lines.tamperIn = false) (locked : c.lines.serviceIn = false) :
    c.tamperIn q true = Part.latchTamper q { c with lines.tamperIn := true } := if_pos ⟨rfl, clear, locked⟩

theorem Part.latchTamper_of_free (free : c.mgmt.programming = none) : c.latchTamper q = c.setTamper q :=
  if_neg (by simp [free])

theorem Part.latchTamper_of_programming (programming : c.mgmt.programming ≠ none) :
    c.latchTamper q = { c with store.tamperPending := true } := if_pos (Option.isSome_iff_ne_none.mpr programming)

theorem Part.serviceIn_of_deassert (set : c.lines.serviceIn = true) (calm : c.lines.tamperIn = false) :
    c.serviceIn q false = Part.serviceAbort { c with lines.serviceIn := false } := by
  have aborted : (Part.serviceAbort { c with lines.serviceIn := false }).lines.tamperIn = false := by simp [calm]
  exact (if_pos ⟨rfl, set⟩).trans (if_neg (by rw [aborted]; nofun))

theorem Part.serviceIn_of_tampered (set : c.lines.serviceIn = true) (tampered : c.lines.tamperIn = true) :
    c.serviceIn q false = (Part.serviceAbort { c with lines.serviceIn := false }).latchTamper q := by
  have aborted : (Part.serviceAbort { c with lines.serviceIn := false }).lines.tamperIn = true := by simp [tampered]
  exact (if_pos ⟨rfl, set⟩).trans (if_pos aborted)

/-- Settles O47: the lines act by the setting of the latch and the abort of an update. -/
theorem tamperAndServiceLinesAct : Obligations.TamperAndServiceLinesAct := by
  intro c q asked same free
  have assert_eq {t : Part} (h : c.tamperIn q true = t) : exec (.tamperInAssert .asserted) ⟨c, q⟩ = .next ⟨t, q⟩ :=
    exec_eq_next rfl h
  have service_eq {t : Part} (h : c.serviceIn q false = t) :
      exec (.serviceInDeassert .deasserted) ⟨c, q⟩ = .next ⟨t, q⟩ := exec_eq_next rfl h
  have asks {d t : Part} (raised : Raised d.latchSet t) (copy : d.store.copy = c.store.copy)
      (write : d.store.write = c.store.write) (conn : d.seq.conn = c.seq.conn)
      (time : d.sched.packTime = c.sched.packTime) : asked t := fun out => by
    have kept := raised.kept (out.imp_left conn.trans)
    obtain ⟨copied, begins, waits, merges⟩ := kept
    have latch : d.latchSet.store.copy = { c.store.copy with tamper := true } :=
      congrArg (fun r : ServiceRecord => { r with tamper := true }) copy
    rw [latch] at copied begins
    exact ⟨congrArg (·.lockout) copied, fun idle => (begins (write.trans idle)).trans (by rw [← time]; rfl),
      fun f d first => waits f d (write.trans first), fun f d waiting => merges f d (write.trans waiting)⟩
  have shows {t : Part} {l : Lines} (tamperIn : t.lines.tamperIn = true) (serviceIn : t.lines.serviceIn = false)
      (lines : c.power.state ≠ .deep ∨ (∀ j ∈ q, j.wakes = false) → t.lines = l) (wakeIn : l.wakeIn = c.lines.wakeIn)
      (feedback : l.feedback = c.lines.feedback) : same t true false :=
    ⟨tamperIn, serviceIn, fun still => ⟨by rw [lines still, wakeIn], by rw [lines still, feedback]⟩⟩
  refine ⟨fun idle out clear unread => ?_, fun idle clear out read => ⟨fun unset => ?_, fun set => ?_⟩,
    fun busy clear out => ?_, fun quiet => assert_eq (if_neg fun act => ?_), rfl, rfl, fun out => service_eq ?_,
    fun busy set tampered ready => service_eq ?_, fun idle set tampered read => ?_, fun set calm => ?_⟩
  · let armed : Part := { c with lines.tamperIn := true }
    have sets : c.tamperIn q true = armed.setTamper q :=
      (Part.tamperIn_of_assert clear out).trans (Part.latchTamper_of_free (c := armed) idle)
    have latched := Part.setTamper_unread (q := q) (c := armed) unread
    exact ⟨_, assert_eq sets, shows latched.tamperIn (latched.serviceIn.trans out) latched.lines rfl rfl, latched.read,
      latched.tamper, latched.active, latched.floor, latched.object, by simp [armed], by simp [armed], by simp [armed],
      latched.locks, latched.wakes⟩
  · let armed : Part := { c with lines.tamperIn := true }
    have sets : c.tamperIn q true = armed.setTamper q :=
      (Part.tamperIn_of_assert clear out).trans (Part.latchTamper_of_free (c := armed) idle)
    have latched := Part.setTamper_set (q := q) (c := armed) read unset
    exact ⟨_, assert_eq sets, shows latched.tamperIn (latched.serviceIn.trans out) latched.lines rfl rfl,
      latched.raised.tamper, latched.raised.active, latched.raised.floor, latched.raised.writes,
      asks (d := armed) latched.raised rfl rfl rfl rfl, latched.raised.object, latched.state, by simp [armed],
      by simp [armed], fun deep none_written opened _ _ action new lower =>
        Part.setTamper_locks (c := armed) deep read unset none_written opened action new lower⟩
  · refine assert_eq ((Part.tamperIn_of_assert clear out).trans
      ((Part.latchTamper_of_free (c := { c with lines.tamperIn := true }) idle).trans ?_))
    exact Part.setTamper_of_set (c := { c with lines.tamperIn := true }) read set
  · exact assert_eq ((Part.tamperIn_of_assert clear out).trans
      (Part.latchTamper_of_programming (c := { c with lines.tamperIn := true }) busy))
  · obtain high | serviced := quiet
    · simp [high] at act
    · simp [serviced] at act
  · refine (if_neg (by simp [out])).trans ?_
    rw [← out]
  · let off : Part := { c with lines.serviceIn := false }
    refine (Part.serviceIn_of_tampered set tampered).trans ?_
    refine (congrArg (Part.latchTamper q) (Part.serviceAbort_of_programming (c := off) busy (.inl ready))).trans ?_
    exact Part.latchTamper_of_programming (c := { off with store.abortPending := true }) busy
  · let off : Part := { c with lines.serviceIn := false }
    have tables : off.serviceAbort.store.recordRead = true := by simpa [off] using read
    have copy : off.serviceAbort.store.copy = c.store.copy := by simp [off]
    have lines : off.serviceAbort.lines = { c.lines with serviceIn := false } := by simp [off]
    have power : off.serviceAbort.power = c.power := by simp [off]
    have sets : c.serviceIn q false = off.serviceAbort.setTamper q :=
      (Part.serviceIn_of_tampered set tampered).trans (Part.latchTamper_of_free (by simpa [off] using idle))
    have ends (not_erasing : c.store.update ≠ .erasing) (not_switching : c.store.update ≠ .switching) :
        (off.serviceAbort.setTamper q).store.update = .idle := by
      have kept : (off.serviceAbort.setTamper q).store.update = off.serviceAbort.store.update := by simp
      exact kept.trans (Part.serviceAbort_idle (c := off) idle not_erasing not_switching)
    cases unset : c.store.copy.tamper with
    | false =>
      have latched := Part.setTamper_set (q := q) (c := off.serviceAbort) tables (by rw [copy, unset])
      have still := latched.lines
      rw [power, lines] at still
      refine ⟨_, service_eq sets, shows ?_ ?_ still rfl rfl, latched.raised.tamper, ?_, ?_, fun _ =>
        ⟨latched.raised.object, latched.state, asks latched.raised copy (by simp [off]) (by simp [off]) (by simp [off])⟩, ends⟩
      · rw [latched.tamperIn, lines]
        exact tampered
      · rw [latched.serviceIn, lines]
      · exact latched.raised.active.trans (congrArg (·.active) copy)
      · exact latched.raised.floor.trans (congrArg (·.floor) copy)
    | true =>
      have stays := Part.setTamper_of_set (q := q) (c := off.serviceAbort) tables (by rw [copy, unset])
      rw [stays] at sets ends
      refine ⟨_, service_eq sets, shows ?_ ?_ (fun _ => lines) rfl rfl, ?_, ?_, ?_, nofun, ends⟩
      · rw [lines]
        exact tampered
      · rw [lines]
      · rw [copy, unset]
      · rw [copy]
      · rw [copy]
  · intro off aborted
    have acts : c.serviceIn q false = off.serviceAbort := Part.serviceIn_of_deassert set calm
    refine ⟨fun rests => service_eq (acts.trans (Part.serviceAbort_of_idle (c := off) rests)),
      fun waits => service_eq (acts.trans ?_), fun idle opens => service_eq (acts.trans ?_),
      fun idle pending unheld => service_eq (acts.trans ?_), fun idle pending held => ?_⟩
    · obtain erasing | ⟨ready, programming⟩ := waits
      · exact Part.serviceAbort_of_erasing (c := off) erasing
      · exact Part.serviceAbort_of_programming (c := off) programming (.inl ready)
    · have other : off.store.update ≠ .commitPending := by
        obtain h | h := opens
        · exact fun pending => UpdateState.noConfusion (h.symm.trans pending)
        · exact fun pending => UpdateState.noConfusion (h.symm.trans pending)
      rw [Part.serviceAbort_of_free (c := off) idle (opens.imp_right .inl), Part.abortUpdate_of_open other]
      rfl
    · rw [Part.serviceAbort_of_free (c := off) idle (.inr (.inr pending)), Part.abortUpdate_of_commit (c := off) pending,
        Part.releaseHold_of_pending (c := { off with store.update := .idle, store.abortPending := false }) unheld]
      rfl
    · intro freed
      have ends := (acts.trans (Part.serviceAbort_of_free (c := off) idle (.inr (.inr pending)))).trans
        (Part.abortUpdate_of_held (c := off) pending held)
      refine ⟨fun stopped => service_eq (ends.trans ?_), fun running none_waits => service_eq (ends.trans ?_)⟩
      · dsimp only
        rw [Part.startNormalRun_of_stopped (c := freed) stopped]
        rfl
      · have started := (Part.startNormalRun_of_running (c := freed) running false).trans
          (Part.startRun_released (c := freed) .normal none_waits)
        dsimp only
        rw [started]
        rfl

end Sys2Proof.Machine
end

section
/-!
The image of section 11.6: what the checks of R164 and the full table validation of R165 accept, field by field.
-/
namespace Sys2Proof.Machine

/-! ### The first entry that fails -/

/-- A validation of `n` entries passes when every entry is good, and names the first that is not. -/
def FindsFirst (r : Option Nat) (n : Nat) (good : Nat → Prop) : Prop :=
  ((∀ i < n, good i) → r = none) ∧ ∀ i < n, ¬ good i → (∀ j < i, good j) → r = some i

theorem firstFailing_eq_none {n : Nat} {ok : Nat → Bool} : firstFailing n ok = none ↔ ∀ i < n, ok i = true := by
  simp [firstFailing]

theorem firstFailing_eq_some {n i : Nat} {ok : Nat → Bool} :
    firstFailing n ok = some i ↔ ok i = false ∧ i < n ∧ ∀ j < i, ok j = true := by
  simp [firstFailing, List.find?_range_eq_some]

theorem firstFailing_findsFirst {n : Nat} {ok : Nat → Bool} {good : Nat → Prop}
    (same : ∀ i < n, (ok i = true ↔ good i)) : FindsFirst (firstFailing n ok) n good := by
  refine ⟨fun all => firstFailing_eq_none.2 fun i low => (same i low).2 (all i low), fun i low bad before => ?_⟩
  refine firstFailing_eq_some.2 ⟨Bool.eq_false_iff.2 fun ok => bad ((same i low).1 ok), low, fun j below => ?_⟩
  exact (same j (below.trans low)).2 (before j below)

/-! ### Fields and addresses -/

theorem within_iff {lo v hi : Nat} : within lo v hi = true ↔ lo ≤ v ∧ v ≤ hi := by simp [within]

theorem withinInt_iff {lo v hi : Int} : withinInt lo v hi = true ↔ lo ≤ v ∧ v ≤ hi := by simp [withinInt]

theorem foldl_be_lt (bs : List Byte) (acc : Nat) :
    bs.foldl (fun acc b => 256 * acc + b.toNat) acc < (acc + 1) * 256 ^ bs.length := by
  induction bs generalizing acc with
  | nil => simp
  | cons b bs ih =>
    have byte : b.toNat < 256 := b.isLt
    have grows : 256 * acc + b.toNat + 1 ≤ (acc + 1) * 256 := by omega
    calc _ < (256 * acc + b.toNat + 1) * 256 ^ bs.length := ih _
      _ ≤ (acc + 1) * 256 * 256 ^ bs.length := Nat.mul_le_mul_right _ grows
      _ = _ := by rw [List.length_cons, Nat.pow_succ]; ring

theorem Memory.field_lt (m : Memory) (a n : Nat) : m.field a n < 256 ^ n := by
  have bound := foldl_be_lt (m.readAll a n) 0
  rwa [Nat.zero_add, Nat.one_mul, Memory.readAll, List.length_map, List.length_range] at bound

theorem entryAddress_map (m : Memory) (i : Nat) : entryAddress m 1 i = tableOffset m 1 + 45 * i := by
  rw [Nat.mul_comm]; rfl

theorem entryAddress_pass (m : Memory) (i : Nat) : entryAddress m 2 i = tableOffset m 2 + 1 + 9 * i := by
  rw [Nat.mul_comm]; rfl

theorem entryAddress_slot (m : Memory) (i : Nat) : entryAddress m 3 i = tableOffset m 3 + 13 + 12 * i := by
  rw [Nat.mul_comm]; rfl

theorem entryAddress_limit (m : Memory) (i : Nat) : entryAddress m 4 i = tableOffset m 4 + 18 * i := by
  rw [Nat.mul_comm]; rfl

theorem entryAddress_interlock (m : Memory) (i : Nat) : entryAddress m 5 i = tableOffset m 5 + 2 * i := by
  rw [Nat.mul_comm]; rfl

/-! ### The parameters (R102, R141) -/

/-- The parameters in layout order: address from the table's offset, size, and range. -/
def paramRanges : List (Nat × Nat × Nat × Nat) :=
  [(0, 1, 1, 15), (1, 2, 500, 65535), (3, 2, 10, 2550), (5, 1, 5, 200), (6, 1, 1, 50), (7, 2, 800, 990),
   (9, 2, 1, 65535), (11, 2, 50, 10000), (13, 4, 1, 500000), (17, 4, 0, 500000), (21, 2, 10, 5000),
   (23, 2, 1, 1440), (25, 1, 1, 15)]

/-- Parameter `n` lies in its range; the supervision time is a multiple of 10 ms. -/
def ParamGood (m : Memory) (n : Nat) : Prop :=
  ∀ a size lo hi, paramRanges[n]? = some (a, size, lo, hi) →
    lo ≤ m.field (tableOffset m 0 + a) size ∧ m.field (tableOffset m 0 + a) size ≤ hi ∧
    (n = 2 → m.field (tableOffset m 0 + a) size % 10 = 0)

theorem paramGood_iff {m : Memory} {n : Nat} {x : Nat × Nat × Nat × Nat} (row : paramRanges[n]? = some x) :
    ParamGood m n ↔ x.2.2.1 ≤ m.field (tableOffset m 0 + x.1) x.2.1 ∧
      m.field (tableOffset m 0 + x.1) x.2.1 ≤ x.2.2.2 ∧ (n = 2 → m.field (tableOffset m 0 + x.1) x.2.1 % 10 = 0) := by
  refine ⟨fun good => good _ _ _ _ row, fun good a size lo hi found => ?_⟩
  rw [row] at found
  cases found
  exact good

theorem paramChecks_eq (m : Memory) : paramChecks (paramsOf m) =
    let v (a size : Nat) := m.field (tableOffset m 0 + a) size
    [within 1 (v 0 1) 15, within 500 (v 1 2) 65535, within 10 (v 3 2) 2550 && decide (v 3 2 % 10 = 0),
     within 5 (v 5 1) 200, within 1 (v 6 1) 50, within 800 (v 7 2) 990, within 1 (v 9 2) 65535, within 50 (v 11 2) 10000,
     within 1 (v 13 4) 500000, within 0 (v 17 4) 500000, within 10 (v 21 2) 5000, within 1 (v 23 2) 1440,
     within 1 (v 25 1) 15] := rfl

theorem paramChecks_iff (m : Memory) {n : Nat} (low : n < 13) :
    (paramChecks (paramsOf m)).getD n true = true ↔ ParamGood m n := by
  rw [paramChecks_eq]
  interval_cases n <;> rw [paramGood_iff rfl] <;> simp [within_iff, and_assoc]

theorem validateParams_findsFirst {m : Memory} (count : tableCount m 0 = 1) :
    FindsFirst (validateParams m) 13 (ParamGood m) := by
  rw [validateParams, if_neg (not_not.2 count)]
  exact firstFailing_findsFirst fun n low => paramChecks_iff m low

/-! ### The pass table and the interlock table (R23, R93) -/

theorem validatePass_findsFirst {m : Memory} (count : tableCount m 2 ≤ 12) (action : m.field (tableOffset m 2) 1 ≤ 3) :
    FindsFirst (validatePass m) (tableCount m 2) fun i => m.field (tableOffset m 2 + 1 + 9 * i + 8) 1 ≤ 3 := by
  rw [validatePass, if_pos (by simp [within, count, action])]
  exact firstFailing_findsFirst fun i _ => by rw [decide_eq_true_iff, entryAddress_pass]

/-- The action code of interlock entry `i`. -/
def actionByte (m : Memory) (i : Nat) : Nat := m.field (tableOffset m 5 + 2 * i) 1

theorem interlockEntryOk_iff (m : Memory) (i : Nat) : interlockEntryOk m i = true ↔
    actionByte m i ≤ 5 ∧ (i = 7 ∨ i = 9 ∨ i = 10 → 2 ≤ actionByte m i) ∧ (i = 13 → actionByte m i = 5) := by
  unfold interlockEntryOk
  rw [entryAddress_interlock, Bool.and_eq_true, decide_eq_true_iff]
  refine and_congr_right fun _ => ?_
  split <;> simp_all [actionByte]

theorem validateInterlock_findsFirst {m : Memory} (count : tableCount m 5 = 16) :
    FindsFirst (validateInterlock m) 16 fun i =>
      actionByte m i ≤ 5 ∧ (i = 7 ∨ i = 9 ∨ i = 10 → 2 ≤ actionByte m i) ∧ (i = 13 → actionByte m i = 5) := by
  rw [validateInterlock, if_neg (not_not.2 count)]
  exact firstFailing_findsFirst fun i _ => interlockEntryOk_iff m i

/-! ### The limit sets (R69) -/

/-- Limit `k` of set `i`, in layout order: UT, UC, LT, LC. -/
def limitField (m : Memory) (i k : Nat) : Int := signed 4 (m.field (tableOffset m 4 + 18 * i + 4 * k) 4)

/-- N_t of set `i`. -/
def tripCount (m : Memory) (i : Nat) : Nat := m.field (tableOffset m 4 + 18 * i + 16) 1

/-- N_c of set `i`. -/
def clearCount (m : Memory) (i : Nat) : Nat := m.field (tableOffset m 4 + 18 * i + 17) 1

/-- The four limits of set `i` are ordered, and lie between `lo` and `hi`. -/
def LimitsOrdered (m : Memory) (i : Nat) (lo hi : Int) : Prop :=
  lo ≤ limitField m i 2 ∧ limitField m i 2 ≤ limitField m i 3 ∧ limitField m i 3 < limitField m i 1 ∧
  limitField m i 1 ≤ limitField m i 0 ∧ limitField m i 0 ≤ hi

/-- Set `i` has counts in range, and limits as its class calls for. -/
def LimitGood (m : Memory) (i : Nat) : Prop :=
  1 ≤ tripCount m i ∧ tripCount m i ≤ 15 ∧ 1 ≤ clearCount m i ∧ clearCount m i ≤ 15 ∧
  (i < 2 → LimitsOrdered m i 0 65535) ∧ (i = 2 ∨ i = 3 → LimitsOrdered m i (-550) 1550) ∧
  (i = 4 ∨ i = 5 → LimitsOrdered m i (-8388608) 8388607) ∧
  (i = 6 ∨ i = 7 → limitField m i 2 = 0 ∧ limitField m i 3 = 0 ∧ 0 < limitField m i 1 ∧
    limitField m i 1 ≤ limitField m i 0 ∧ limitField m i 0 ≤ 65535) ∧
  (8 ≤ i → ∀ k < 4, limitField m i k = 0) ∧ (10 ≤ i → tripCount m i = 1 ∧ clearCount m i = 1)

theorem limitSetAt_eq (m : Memory) (i : Nat) : limitSetAt m i =
    { ut := limitField m i 0, uc := limitField m i 1, lt := limitField m i 2, lc := limitField m i 3,
      nt := tripCount m i, nc := clearCount m i } := by
  rw [limitSetAt, entryAddress_limit]; rfl

theorem allZero_iff (m : Memory) (i : Nat) : (∀ k < 4, limitField m i k = 0) ↔ limitField m i 0 = 0 ∧
    limitField m i 1 = 0 ∧ limitField m i 2 = 0 ∧ limitField m i 3 = 0 := by
  refine ⟨fun zero => ⟨zero 0 (by omega), zero 1 (by omega), zero 2 (by omega), zero 3 (by omega)⟩, ?_⟩
  rintro ⟨h0, h1, h2, h3⟩ k low
  interval_cases k <;> assumption

theorem limitSetOk_iff (m : Memory) {i : Nat} (low : i < 12) : limitSetOk i (limitSetAt m i) = true ↔ LimitGood m i := by
  rw [limitSetAt_eq]
  unfold limitSetOk LimitGood LimitsOrdered
  interval_cases i <;>
    simp [within_iff, withinInt_iff, allZero_iff] <;> omega

theorem validateLimits_findsFirst {m : Memory} (count : tableCount m 4 = 12) :
    FindsFirst (validateLimits m) 12 (LimitGood m) := by
  rw [validateLimits, if_neg (not_not.2 count)]
  exact firstFailing_findsFirst fun i low => limitSetOk_iff m low

/-! ### The position map -/

/-- A byte of map entry `i`. -/
def mapByte (m : Memory) (i k : Nat) : Nat := m.field (tableOffset m 1 + 45 * i + k) 1

/-- The gain of map entry `i`. -/
def mapGain (m : Memory) (i : Nat) : Int := signed 2 (m.field (tableOffset m 1 + 45 * i + 11) 2)

/-- Trim `n` of map entry `i`. -/
def mapTrim (m : Memory) (i n : Nat) : Int := signed 2 (m.field (tableOffset m 1 + 45 * i + 13 + 2 * n) 2)

/-- Map entry `i` is well formed and shares nothing with another. -/
def MapEntryGood (m : Memory) (i : Nat) : Prop :=
  1 ≤ mapByte m i 0 ∧ mapByte m i 0 ≤ 16 ∧ 1 ≤ mapByte m i 1 ∧ mapByte m i 1 ≤ 16 ∧ mapByte m i 2 ≤ 1 ∧
  (∀ j < tableCount m 1, j ≠ i → mapByte m j 0 ≠ mapByte m i 0 ∧ mapByte m j 1 ≠ mapByte m i 1) ∧
  -2048 ≤ mapGain m i ∧ mapGain m i ≤ 2047 ∧
  (mapByte m i 2 = 0 → mapByte m i 9 ≤ 12 ∧ mapByte m i 10 ≤ 4 ∧
    (∀ n < 12, -512 ≤ mapTrim m i n ∧ mapTrim m i n ≤ 511) ∧
    ∀ n < 16, 12 ≤ n → -128 ≤ mapTrim m i n ∧ mapTrim m i n ≤ 127) ∧
  (mapByte m i 2 = 1 → mapByte m i 9 = 0 ∧ mapByte m i 10 = 0 ∧
    (∀ j < tableCount m 1, j ≠ i → mapByte m j 2 ≠ 1) ∧ -32768 ≤ mapTrim m i 0 ∧ mapTrim m i 0 ≤ 32767 ∧
    ∀ n < 3, 1 ≤ n → -128 ≤ mapTrim m i n ∧ mapTrim m i n ≤ 127)

theorem mapKindByte_eq (m : Memory) (i : Nat) : mapKindByte m i = mapByte m i 2 := by
  rw [mapKindByte, entryAddress_map]; rfl

theorem mapEntryAt_eq (m : Memory) (i : Nat) : mapEntryAt m i =
    { logical := mapByte m i 0, position := mapByte m i 1, kind := moduleKindOf (mapByte m i 2),
      identity := BitVec.ofNat 48 (m.field (tableOffset m 1 + 45 * i + 3) 6), cells := mapByte m i 9,
      temps := mapByte m i 10, gain := mapGain m i, trims := (List.range 16).map (mapTrim m i) } := by
  rw [mapEntryAt, entryAddress_map]; rfl

theorem trim_mapEntryAt (m : Memory) (i : Nat) {n : Nat} (low : n < 16) :
    (mapEntryAt m i).trim (n + 1) = mapTrim m i n := by
  simp [mapEntryAt_eq, MapEntry.trim, low]

theorem moduleKindOf_eq_shunt {n : Nat} : moduleKindOf n = .shunt ↔ n ≠ 0 := by
  unfold moduleKindOf; split <;> simp_all

theorem trimsOk_cell {m : Memory} {i : Nat} (cell : mapByte m i 2 = 0) : trimsOk (mapEntryAt m i) = true ↔
    (-2048 ≤ mapGain m i ∧ mapGain m i ≤ 2047) ∧ (∀ n < 12, -512 ≤ mapTrim m i n ∧ mapTrim m i n ≤ 511) ∧
      ∀ n < 16, 12 ≤ n → -128 ≤ mapTrim m i n ∧ mapTrim m i n ≤ 127 := by
  have kind : (mapEntryAt m i).kind = .cell := by rw [mapEntryAt_eq, cell]; rfl
  have gain : (mapEntryAt m i).gain = mapGain m i := by rw [mapEntryAt_eq]
  simp only [trimsOk, kind, gain, Bool.and_eq_true, List.all_eq_true, List.mem_range, withinInt_iff]
  refine and_congr_right fun _ => and_congr (forall₂_congr fun n low => by rw [trim_mapEntryAt m i (by omega)]) ⟨?_, ?_⟩
  · intro all n low high
    have shifted := all (n - 12) (by omega)
    rwa [show n - 12 + 13 = n + 1 by omega, trim_mapEntryAt m i low] at shifted
  · intro all n low
    rw [trim_mapEntryAt m i (show n + 12 < 16 by omega)]
    exact all (n + 12) (by omega) (by omega)

theorem trimsOk_shunt {m : Memory} {i : Nat} (shunt : mapByte m i 2 = 1) : trimsOk (mapEntryAt m i) = true ↔
    (-2048 ≤ mapGain m i ∧ mapGain m i ≤ 2047) ∧ (-32768 ≤ mapTrim m i 0 ∧ mapTrim m i 0 ≤ 32767) ∧
      ∀ n < 3, 1 ≤ n → -128 ≤ mapTrim m i n ∧ mapTrim m i n ≤ 127 := by
  have kind : (mapEntryAt m i).kind = .shunt := by rw [mapEntryAt_eq, shunt]; rfl
  have gain : (mapEntryAt m i).gain = mapGain m i := by rw [mapEntryAt_eq]
  simp only [trimsOk, kind, gain, Bool.and_eq_true, withinInt_iff, trim_mapEntryAt m i (show 0 < 16 by omega),
    trim_mapEntryAt m i (show 1 < 16 by omega), trim_mapEntryAt m i (show 2 < 16 by omega), and_assoc]
  refine and_congr_right fun _ => and_congr_right fun _ => and_congr_right fun _ => and_congr_right fun _ => ⟨?_, ?_⟩
  · rintro ⟨low1, high1, range2⟩ n low high
    obtain rfl | rfl : n = 1 ∨ n = 2 := by omega
    · exact ⟨low1, high1⟩
    · exact range2
  · intro all
    exact ⟨(all 1 (by omega) (by omega)).1, (all 1 (by omega) (by omega)).2, all 2 (by omega) (by omega)⟩

theorem all_others {n i : Nat} (p : Nat → Bool) :
    ((List.range n).filter (· ≠ i)).all p = true ↔ ∀ j < n, j ≠ i → p j = true := by
  simp only [List.all_eq_true, List.mem_filter, List.mem_range, decide_eq_true_iff, and_imp]

theorem mapEntryOk_iff (m : Memory) (i : Nat) : mapEntryOk m i = true ↔ MapEntryGood m i := by
  unfold mapEntryOk MapEntryGood
  simp only [mapKindByte_eq, Bool.and_eq_true, all_others, within_iff, decide_eq_true_iff]
  obtain cell | shunt | other : mapByte m i 2 = 0 ∨ mapByte m i 2 = 1 ∨ 1 < mapByte m i 2 := by omega
  · rw [trimsOk_cell cell]
    simp only [mapEntryAt_eq, cell, moduleKindOf, if_pos, Bool.and_eq_true, within_iff]
    grind
  · rw [trimsOk_shunt shunt]
    simp only [mapEntryAt_eq, shunt, moduleKindOf, if_neg one_ne_zero, Bool.and_eq_true, decide_eq_true_iff, all_others]
    grind
  · simp [other.not_ge]

theorem validateMap_of_bad {m : Memory} {i : Nat} (count : 1 ≤ tableCount m 1 ∧ tableCount m 1 ≤ 16)
    (low : i < tableCount m 1) (bad : ¬ MapEntryGood m i) (before : ∀ j < i, MapEntryGood m j) :
    validateMap m = some i := by
  have found := (firstFailing_findsFirst fun i _ => mapEntryOk_iff m i).2 i low bad before
  rw [validateMap, if_pos (within_iff.2 count), found]

theorem validateMap_of_good {m : Memory} (count : 1 ≤ tableCount m 1 ∧ tableCount m 1 ≤ 16)
    (good : ∀ i < tableCount m 1, MapEntryGood m i) : validateMap m =
      if (mapOf m).any (fun e => e.kind == .shunt) then none else some Config.noShuntIndex := by
  have found := (firstFailing_findsFirst fun i _ => mapEntryOk_iff m i).1 good
  rw [validateMap, if_pos (within_iff.2 count), found]

/-- A map that passes has good entries alone. -/
theorem good_of_validateMap {m : Memory} (pass : validateMap m = none) : ∀ i < tableCount m 1, MapEntryGood m i := by
  unfold validateMap at pass
  split at pass
  · intro i low
    split at pass
    · cases pass
    next clean => exact (mapEntryOk_iff m i).1 (firstFailing_eq_none.1 clean i low)
  · cases pass

theorem any_shunt_iff (m : Memory) :
    (mapOf m).any (fun e => e.kind == .shunt) = true ↔ ∃ i < tableCount m 1, mapByte m i 2 ≠ 0 := by
  simp [mapOf, mapEntryAt_eq, moduleKindOf_eq_shunt]

/-! ### The schedule (R42, R43, R165) -/

/-- The schedule's entry count and header fields lie in their ranges. -/
def HeaderGood (m : Memory) : Prop :=
  let v (a size : Nat) := m.field (tableOffset m 3 + a) size
  tableCount m 3 ≤ 24 ∧ 2000 ≤ v 0 4 ∧ v 0 4 ≤ 1000000 ∧ 320 ≤ v 4 2 ∧ v 4 2 ≤ 5000 ∧ 1 ≤ v 6 2 ∧ v 6 2 ≤ 500 ∧
  1 ≤ v 8 1 ∧ v 8 1 ≤ 15 ∧ 1 ≤ v 9 2 ∧ v 9 2 ≤ 1000 ∧ 8 ≤ v 11 1 ∧ v 11 1 ≤ 56 ∧ v 12 1 < v 11 1

theorem scheduleHeaderOk_iff (h : ScheduleHeader) : scheduleHeaderOk h = true ↔
    2000 ≤ h.cycleLength ∧ h.cycleLength ≤ 1000000 ∧ 320 ≤ h.lead ∧ h.lead ≤ 5000 ∧ 1 ≤ h.skewLimit ∧
    h.skewLimit ≤ 500 ∧ 1 ≤ h.missedLimit ∧ h.missedLimit ≤ 15 ∧ 1 ≤ h.maxAge ∧ h.maxAge ≤ 1000 ∧ 8 ≤ h.highMark ∧
    h.highMark ≤ 56 ∧ h.lowMark < h.highMark := by
  simp only [scheduleHeaderOk, Bool.and_eq_true, within_iff, decide_eq_true_iff, and_assoc]

theorem headerGood_iff (m : Memory) :
    (within 0 (tableCount m 3) 24 && scheduleHeaderOk (scheduleHeaderOf m)) = true ↔ HeaderGood m := by
  rw [Bool.and_eq_true, within_iff, scheduleHeaderOk_iff, and_iff_right (Nat.zero_le _)]
  rfl

/-- A field of slot `i`. -/
def slotField (m : Memory) (i k size : Nat) : Nat := m.field (tableOffset m 3 + 13 + 12 * i + k) size

/-- Slot `i` names position `p`. -/
def SlotTargets (m : Memory) (i p : Nat) : Prop := (slotField m i 5 2).testBit (p - 1) = true

/-- Slot `i` passes the checks of R43. -/
def SlotGood (m : Memory) (i : Nat) : Prop :=
  320 ≤ slotField m i 0 4 ∧ slotField m i 0 4 + 320 ≤ m.field (tableOffset m 3) 4 ∧
  (∀ j < tableCount m 3, j ≠ i →
    slotField m j 0 4 + 320 ≤ slotField m i 0 4 ∨ slotField m i 0 4 + 320 ≤ slotField m j 0 4) ∧
  slotField m i 4 1 ≤ 1 ∧ 200 ≤ slotField m i 8 2 ∧ slotField m i 8 2 ≤ 60000 ∧ slotField m i 11 1 ≤ 2 ∧
  slotField m i 5 2 ≠ 0 ∧
  (∀ p ∈ allPositions, SlotTargets m i p → ∃ e < tableCount m 1, mapByte m e 1 = p) ∧
  (slotField m i 4 1 = 1 → ∀ p ∈ allPositions,
    (SlotTargets m i p ↔ ∃ e < tableCount m 1, mapByte m e 2 = 1 ∧ mapByte m e 1 = p))

theorem posSet_ext {s t : PosSet} : s = t ↔ ∀ p ∈ allPositions, (hasPos s p = true ↔ hasPos t p = true) := by
  refine ⟨fun same p _ => by rw [same], fun same => BitVec.eq_of_getLsbD_eq fun i low => Bool.eq_iff_iff.2 ?_⟩
  simpa [hasPos] using same (i + 1) (mem_allPositions_iff.2 ⟨by omega, by omega⟩)

theorem hasPos_and_not (s t : PosSet) {p : Nat} (mem : p ∈ allPositions) :
    hasPos (s &&& ~~~ t) p = (hasPos s p && !hasPos t p) := by
  obtain ⟨low, high⟩ := mem_allPositions_iff.1 mem
  rw [hasPos, hasPos, hasPos, BitVec.getLsbD_and, BitVec.getLsbD_not, decide_eq_true low,
    decide_eq_true (show p - 1 < 16 by omega), Bool.true_and, Bool.true_and, Bool.true_and, Bool.true_and]

theorem hasPos_zero (p : Nat) : hasPos 0 p = false := by simp [hasPos]

theorem posSet_subset {s t : PosSet} :
    s &&& ~~~ t = 0 ↔ ∀ p ∈ allPositions, hasPos s p = true → hasPos t p = true := by
  rw [posSet_ext]
  refine forall₂_congr fun p mem => ?_
  rw [hasPos_and_not s t mem, hasPos_zero]
  cases hasPos s p <;> cases hasPos t p <;> decide

theorem hasPos_addPos_iff (s : PosSet) (q : Nat) {p : Nat} (mem : p ∈ allPositions) :
    hasPos (addPos s q) p = true ↔ hasPos s p = true ∨ q = p := by
  obtain ⟨low, high⟩ := mem_allPositions_iff.1 mem
  by_cases range : 1 ≤ q ∧ q ≤ 16
  · rw [hasPos_addPos s range.1 range.2 low, Bool.or_eq_true, decide_eq_true_iff, eq_comm (a := p)]
  · have apart : q ≠ p := by omega
    rw [addPos, posBit, if_neg range, BitVec.ofNat_eq_ofNat, BitVec.or_zero,
      or_iff_left apart]

theorem hasPos_mappedSet (map : List MapEntry) {p : Nat} (mem : p ∈ allPositions) :
    hasPos (mappedSet map) p = true ↔ ∃ e ∈ map, e.position = p := by
  have fold (s : PosSet) : hasPos (map.foldl (fun s e => addPos s e.position) s) p = true ↔
      hasPos s p = true ∨ ∃ e ∈ map, e.position = p := by
    induction map generalizing s with
    | nil => simp
    | cons e rest ih => rw [List.foldl_cons, ih, hasPos_addPos_iff _ _ mem]; simp [or_assoc]
  rw [mappedSet, fold]
  simp [hasPos]

theorem hasPos_ofNat (v : Nat) {p : Nat} (mem : p ∈ allPositions) :
    hasPos (BitVec.ofNat 16 v) p = true ↔ v.testBit (p - 1) = true := by
  obtain ⟨low, high⟩ := mem_allPositions_iff.1 mem
  have inside : p - 1 < 16 := by omega
  rw [hasPos, BitVec.getLsbD_ofNat, decide_eq_true low, decide_eq_true inside, Bool.true_and, Bool.true_and]

theorem exists_mapOf (m : Memory) (p : MapEntry → Prop) :
    (∃ e ∈ mapOf m, p e) ↔ ∃ i < tableCount m 1, p (mapEntryAt m i) := by
  simp [mapOf]

theorem mapped_iff (m : Memory) {p : Nat} (mem : p ∈ allPositions) :
    hasPos (mappedSet (mapOf m)) p = true ↔ ∃ e < tableCount m 1, mapByte m e 1 = p := by
  simp [hasPos_mappedSet _ mem, exists_mapOf, mapEntryAt_eq]

theorem mappedShunts_iff {m : Memory} (pass : validateMap m = none) {p : Nat} (mem : p ∈ allPositions) :
    hasPos (mappedSet ((mapOf m).filter fun e => e.kind == .shunt)) p = true ↔
      ∃ e < tableCount m 1, mapByte m e 2 = 1 ∧ mapByte m e 1 = p := by
  have filtered : (∃ e ∈ (mapOf m).filter (fun e => e.kind == .shunt), e.position = p) ↔
      ∃ e ∈ mapOf m, e.kind = .shunt ∧ e.position = p := by
    simp [and_assoc]
  rw [hasPos_mappedSet _ mem, filtered, exists_mapOf]
  refine exists_congr fun i => and_congr_right fun low => ?_
  obtain ⟨-, -, -, -, known, -⟩ := good_of_validateMap pass i low
  simp only [mapEntryAt_eq, moduleKindOf_eq_shunt]
  omega

theorem slotAt_eq (m : Memory) (i : Nat) : slotAt m i =
    { offset := slotField m i 0 4, kind := if slotField m i 4 1 = 0 then .sweep else .shunt,
      target := BitVec.ofNat 16 (slotField m i 5 2), mask := BitVec.ofNat 8 (slotField m i 7 1),
      window := slotField m i 8 2, sheddable := (BitVec.ofNat 8 (slotField m i 10 1)).getLsbD 0,
      patrol := (BitVec.ofNat 8 (slotField m i 10 1)).getLsbD 1,
      detail := (BitVec.ofNat 8 (slotField m i 10 1)).getLsbD 2, summary := summaryModeOf (slotField m i 11 1) } := by
  rw [slotAt, entryAddress_slot]; rfl

theorem slotOk_iff {m : Memory} (pass : validateMap m = none) (i : Nat) : slotOk m i = true ↔ SlotGood m i := by
  have subset : (slotAt m i).target &&& ~~~ mappedSet (mapOf m) = 0 ↔
      ∀ p ∈ allPositions, SlotTargets m i p → ∃ e < tableCount m 1, mapByte m e 1 = p := by
    rw [posSet_subset]
    exact forall₂_congr fun p mem => by rw [mapped_iff m mem, slotAt_eq, hasPos_ofNat _ mem]; rfl
  have equal : (slotAt m i).target = mappedSet ((mapOf m).filter fun e => e.kind == .shunt) ↔
      ∀ p ∈ allPositions, (SlotTargets m i p ↔ ∃ e < tableCount m 1, mapByte m e 2 = 1 ∧ mapByte m e 1 = p) := by
    rw [posSet_ext]
    exact forall₂_congr fun p mem => by rw [mappedShunts_iff pass mem, slotAt_eq, hasPos_ofNat _ mem]; rfl
  have nonempty : (slotAt m i).target = 0 ↔ slotField m i 5 2 = 0 := by
    have bound : slotField m i 5 2 < 65536 := Memory.field_lt m _ 2
    rw [slotAt_eq]
    exact ⟨fun zero => by simpa [Nat.mod_eq_of_lt bound] using congrArg BitVec.toNat zero, fun zero => by simp [zero]⟩
  have spacing (j : Nat) : spaced (slotAt m j).offset (slotAt m i).offset = true ↔
      slotField m j 0 4 + 320 ≤ slotField m i 0 4 ∨ slotField m i 0 4 + 320 ≤ slotField m j 0 4 := by
    rw [slotAt_eq, slotAt_eq, spaced, Bool.or_eq_true, decide_eq_true_iff, decide_eq_true_iff]
  have offset : (slotAt m i).offset = slotField m i 0 4 := by rw [slotAt_eq]
  have window : (slotAt m i).window = slotField m i 8 2 := by rw [slotAt_eq]
  have cycle : (scheduleHeaderOf m).cycleLength = m.field (tableOffset m 3) 4 := rfl
  have bytes (k size : Nat) : m.field (entryAddress m 3 i + k) size = slotField m i k size := by
    rw [entryAddress_slot]; rfl
  unfold slotOk SlotGood
  obtain sweep | shunt := eq_or_ne (slotField m i 4 1) 0
  · have kind : (slotAt m i).kind = .sweep := by rw [slotAt_eq]; exact if_pos sweep
    simp only [Bool.and_eq_true, decide_eq_true_iff, List.all_map, Function.comp_def, all_others, within_iff, subset,
      ne_eq, nonempty, spacing, kind, bytes, window, cycle]
    rw [offset]
    grind
  · have kind : (slotAt m i).kind = .shunt := by rw [slotAt_eq]; exact if_neg shunt
    simp only [Bool.and_eq_true, decide_eq_true_iff, List.all_map, Function.comp_def, all_others, within_iff, subset,
      ne_eq, nonempty, spacing, kind, bytes, window, cycle, equal]
    rw [offset]
    have known : slotField m i 4 1 ≤ 1 ↔ slotField m i 4 1 = 1 := by omega
    grind

theorem validateSchedule_findsFirst {m : Memory} (header : HeaderGood m) (pass : validateMap m = none) :
    FindsFirst (validateSchedule m) (tableCount m 3) (SlotGood m) := by
  rw [validateSchedule, if_pos ((headerGood_iff m).2 header)]
  exact firstFailing_findsFirst fun i _ => slotOk_iff pass i

/-! ### The image checks in order (R164) -/

/-- The bytes of table `id`, header and entries. -/
def tableSize (m : Memory) (id : Nat) : Nat := tableHeader id + tableCount m id * tableEntry id

/-- Address `a` belongs to table `id`. -/
def TableHolds (m : Memory) (id a : Nat) : Prop := tableOffset m id ≤ a ∧ a < tableOffset m id + tableSize m id

/-- The total length is in range and the six tables lie apart between directory and trailer. -/
def TablesPlaced (m : Memory) : Prop :=
  64 ≤ imageTotal m ∧ imageTotal m ≤ 4096 ∧
  (∀ id < 6, 28 ≤ tableOffset m id ∧ tableOffset m id + tableSize m id ≤ imageTotal m - 4) ∧
  ∀ i < 6, ∀ j < 6, i ≠ j → ∀ a, ¬ (TableHolds m i a ∧ TableHolds m j a)

theorem tableExtent_eq (m : Memory) (id : Nat) :
    tableExtent m id = (tableOffset m id, tableOffset m id + tableSize m id) := by
  rw [tableExtent, tableSize, Nat.add_assoc]

theorem extentsOverlap_iff (m : Memory) (i j : Nat) :
    extentsOverlap (tableExtent m i) (tableExtent m j) = true ↔ ∃ a, TableHolds m i a ∧ TableHolds m j a := by
  simp only [tableExtent_eq, extentsOverlap, decide_eq_true_iff, TableHolds]
  refine ⟨fun shared => ⟨max (tableOffset m i) (tableOffset m j), by omega⟩, ?_⟩
  rintro ⟨a, inI, inJ⟩
  omega

theorem mem_tableIds {i : Nat} : i ∈ tableIds ↔ i < 6 := by
  simp only [tableIds, List.mem_cons, List.not_mem_nil, or_false]
  omega

/-- The two orders of a pair make one test. -/
theorem pairs_apart_iff (p : Nat → Nat → Prop) (symm : ∀ i j, p i j → p j i) :
    (∀ i < 6, ∀ j < 6, j ≤ i ∨ p i j) ↔ ∀ i < 6, ∀ j < 6, i ≠ j → p i j := by
  refine ⟨fun ordered i hi j hj apart => ?_, fun all i hi j hj => ?_⟩
  · obtain above | below := Nat.lt_or_gt_of_ne apart
    · exact (ordered i hi j hj).resolve_left (by omega)
    · exact symm j i ((ordered j hj i hi).resolve_left (by omega))
  · exact (Nat.lt_or_ge i j).symm.imp_right fun above => all i hi j hj (by omega)

theorem lengthOk_iff (m : Memory) : lengthOk m = true ↔ TablesPlaced m := by
  have apart := pairs_apart_iff (fun i j => ∀ a, ¬ (TableHolds m i a ∧ TableHolds m j a))
    fun i j none a both => none a both.symm
  have disjoint (i j : Nat) : (!extentsOverlap (tableExtent m i) (tableExtent m j)) = true ↔
      ∀ a, ¬ (TableHolds m i a ∧ TableHolds m j a) := by
    rw [Bool.not_eq_true', ← Bool.not_eq_true, extentsOverlap_iff, not_exists]
  rw [TablesPlaced, ← apart]
  simp only [lengthOk, Bool.and_eq_true, Bool.or_eq_true, decide_eq_true_iff, List.all_eq_true, mem_tableIds, disjoint]
  simp only [tableExtent_eq, bankSize]
  grind

/-- The six validations in directory order. -/
def validations (m : Memory) : List (Option Nat) :=
  [validateParams m, validateMap m, validatePass m, validateSchedule m, validateLimits m, validateInterlock m]

theorem validateTables_eq_none {m : Memory} (all : ∀ r ∈ validations m, r = none) : validateTables m = none := by
  simp only [validations, List.forall_mem_cons] at all
  obtain ⟨params, map, pass, schedule, limits, interlock, -⟩ := all
  simp only [validateTables, params, map, pass, schedule, limits, interlock]

theorem validateTables_eq_some {m : Memory} {id i : Nat} (found : (validations m)[id]? = some (some i))
    (before : ∀ j < id, (validations m)[j]? = some none) : validateTables m = some (id, i) := by
  have low : id < 6 := (List.getElem?_eq_some_iff.1 found).1
  unfold validateTables
  have params (h : 0 < id) : validateParams m = none := by simpa [validations] using before 0 h
  have map (h : 1 < id) : validateMap m = none := by simpa [validations] using before 1 h
  have pass (h : 2 < id) : validatePass m = none := by simpa [validations] using before 2 h
  have schedule (h : 3 < id) : validateSchedule m = none := by simpa [validations] using before 3 h
  have limits (h : 4 < id) : validateLimits m = none := by simpa [validations] using before 4 h
  clear before
  interval_cases id <;> simp_all [validations]

/-- The checks of an image in order, each with its condition. -/
theorem checkImage_eq (m : Memory) (versionOk : Nat → Bool) : checkImage m versionOk =
    if formatOk m = false then .format
    else if lengthOk m = false then .length
    else if crcOk m = false then .crc
    else if versionOk (imageVersion m) = false then .versionLow
    else (validateTables m).elim .staged fun x => .table x.1 x.2 := by
  unfold checkImage
  cases formatOk m <;> cases lengthOk m <;> cases crcOk m <;> cases versionOk (imageVersion m) <;>
    cases validateTables m <;> rfl

section
variable {m : Memory} {versionOk : Nat → Bool}

theorem checkImage_of_untagged (untagged : ¬ formatOk m = true) : checkImage m versionOk = .format := by
  rw [checkImage_eq, if_pos (by simpa using untagged)]

theorem checkImage_of_misplaced (tagged : formatOk m = true) (misplaced : ¬ lengthOk m = true) :
    checkImage m versionOk = .length := by
  rw [checkImage_eq, if_neg (by simp [tagged]), if_pos (by simpa using misplaced)]

theorem checkImage_of_broken (tagged : formatOk m = true) (placed : lengthOk m = true) (broken : ¬ crcOk m = true) :
    checkImage m versionOk = .crc := by
  rw [checkImage_eq, if_neg (by simp [tagged]), if_neg (by simp [placed]), if_pos (by simpa using broken)]

theorem checkImage_of_low (tagged : formatOk m = true) (placed : lengthOk m = true) (sound : crcOk m = true)
    (low : versionOk (imageVersion m) = false) : checkImage m versionOk = .versionLow := by
  rw [checkImage_eq, if_neg (by simp [tagged]), if_neg (by simp [placed]), if_neg (by simp [sound]), if_pos low]

theorem checkImage_of_sound (tagged : formatOk m = true) (placed : lengthOk m = true) (sound : crcOk m = true)
    (high : versionOk (imageVersion m) = true) :
    checkImage m versionOk = (validateTables m).elim .staged fun x => .table x.1 x.2 := by
  rw [checkImage_eq, if_neg (by simp [tagged]), if_neg (by simp [placed]), if_neg (by simp [sound]),
    if_neg (by simp [high])]

end

theorem formatOk_iff (m : Memory) : formatOk m = true ↔ m.readAll 0 4 = [0x4A#8, 0x43#8, 0x31#8, 0x36#8] := by
  rw [formatOk, beq_iff_eq]

theorem crcOk_iff (m : Memory) : crcOk m = true ↔
    be 4 (crc32 (m.readAll 0 (imageTotal m - 4))).toNat = m.readAll (imageTotal m - 4) 4 := by
  rw [crcOk, beq_iff_eq]

end Sys2Proof.Machine
end

section
/-!
# The ends of an erase, a check and a programming (O49)
-/
namespace Sys2Proof.Machine

variable {c : Part} {q : List Instr}

/-! ### A latch that waits for a programming is moved by nothing that a set latch starts (R177) -/

@[simp] theorem Part.requestWrite_tamperPending (c : Part) :
    c.requestWrite.store.tamperPending = c.store.tamperPending := by
  unfold Part.requestWrite
  split <;> rfl

@[simp] theorem Part.enterLockedOut_tamperPending (before : ConnState) (c : Part) :
    (c.enterLockedOut before).store.tamperPending = c.store.tamperPending := by
  simp [Part.enterLockedOut]

@[simp] theorem Part.endOpening_tamperPending (c : Part) :
    c.endOpening.store.tamperPending = c.store.tamperPending := by
  unfold Part.endOpening
  cases c.seq.underLoad <;> split <;> simp

@[simp] theorem Part.advanceOpening_tamperPending (c : Part) :
    c.advanceOpening.store.tamperPending = c.store.tamperPending := by
  unfold Part.advanceOpening
  dsimp only
  repeat' split
  all_goals simp

@[simp] theorem Part.startOpening_tamperPending (cause : Cause) (c : Part) :
    (c.startOpening cause).store.tamperPending = c.store.tamperPending := by
  simp [Part.startOpening]

@[simp] theorem Part.takeAction_tamperPending (a : Action) (c : Part) :
    (c.takeAction a).store.tamperPending = c.store.tamperPending := by
  unfold Part.takeAction
  dsimp only
  repeat' split
  all_goals simp

@[simp] theorem Part.refreshAction_tamperPending (c : Part) :
    c.refreshAction.store.tamperPending = c.store.tamperPending := by
  unfold Part.refreshAction
  dsimp only
  split <;> simp

@[simp] theorem Part.countTrip_tamperPending (o : FaultObject) (c : Part) :
    (c.countTrip o).store.tamperPending = c.store.tamperPending := by
  unfold Part.countTrip
  split <;> simp [Part.formAction]

@[simp] theorem Part.eventClass_tamperPending (k : FaultClass) (c : Part) :
    (c.eventClass k).store.tamperPending = c.store.tamperPending := by
  unfold Part.eventClass
  dsimp only
  split <;> simp

@[simp] theorem Part.setCondition_tamperPending (k : FaultClass) (c : Part) :
    (c.setCondition k).store.tamperPending = c.store.tamperPending := by
  unfold Part.setCondition Part.tripObject
  split <;> simp

@[simp] theorem Part.readRecord_tamperPending (c : Part) :
    c.readRecord.store.tamperPending = c.store.tamperPending := by
  unfold Part.readRecord
  dsimp only
  repeat' split
  all_goals simp

@[simp] theorem Part.faultTransition_tamperPending (kind : EventKind) (k : Contactor) (cause : Cause) (c : Part) :
    (c.faultTransition kind k cause).store.tamperPending = c.store.tamperPending := by
  unfold Part.faultTransition
  dsimp only
  repeat' split
  all_goals simp

@[simp] theorem Part.contactorFault_tamperPending (kind : EventKind) (k : Contactor) (cause : Cause) (c : Part) :
    (c.contactorFault kind k cause).store.tamperPending = c.store.tamperPending := by
  unfold Part.contactorFault
  dsimp only
  split <;> simp

@[simp] theorem Part.sleepFeedback_tamperPending (f : ContactorFlags) (k : Contactor) (c : Part) :
    (c.sleepFeedback f k).store.tamperPending = c.store.tamperPending := by
  unfold Part.sleepFeedback
  split <;> simp

@[simp] theorem Part.sleepFeedbacks_tamperPending (f : ContactorFlags) (c : Part) :
    (c.sleepFeedbacks f).store.tamperPending = c.store.tamperPending := by
  simp [Part.sleepFeedbacks]

@[simp] theorem Part.objectsToNormal_tamperPending (c : Part) :
    c.objectsToNormal.store.tamperPending = c.store.tamperPending := by
  simp [Part.objectsToNormal, Part.formAction]

@[simp] theorem Part.leaveDeep_tamperPending (c : Part) :
    c.leaveDeep.store.tamperPending = c.store.tamperPending := by
  simp [Part.leaveDeep]

@[simp] theorem Part.powerCause_tamperPending (w : WakeCause) (c : Part) :
    (c.powerCause q w).store.tamperPending = c.store.tamperPending := by
  unfold Part.powerCause
  split <;> simp [Part.wakeFromDeep]

@[simp] theorem Part.raiseTamper_tamperPending (c : Part) :
    c.raiseTamper.store.tamperPending = c.store.tamperPending := by
  unfold Part.raiseTamper
  dsimp only
  split <;> simp [Part.tripTamper]

@[simp] theorem Part.setTamper_tamperPending (c : Part) :
    (c.setTamper q).store.tamperPending = c.store.tamperPending := by
  unfold Part.setTamper
  dsimp only
  split <;> simp

/-! ### UPDATE reports -/

/-- An UPDATE report shows the update state of its moment; the store's state and floor are those of `c`. -/
theorem Part.updateReport_eq {d : Part} {u : UpdateState} (o : UpdateOutcome) (n : BankName)
    (update : d.store.update = u) (state : d.store.state = c.store.state) (copy : d.store.copy = c.store.copy) :
    d.updateReport o n =
      d.offerReport .priority (updatePayload o n u c.store.state c.store.copy.floor) := by
  rw [Part.updateReport, update, state, copy]

/-! ### The end of an erase and of a check (R164, R168, R170) -/

theorem Part.eraseDone_of_other (other : c.store.update ≠ .erasing ∨ c.store.eraseEnd = none) : c.eraseDone = c := by
  refine if_neg fun ⟨erasing, due⟩ => ?_
  rw [other.resolve_left (not_not.2 erasing)] at due
  cases due

theorem Part.eraseDone_of_early {e : Time} (ends : c.store.eraseEnd = some e)
    (early : atOrAfter c.sched.packTime e = false) : c.eraseDone = c := by
  refine if_neg fun ⟨_, due⟩ => ?_
  rw [ends] at due
  exact absurd (due.symm.trans early) nofun

/-- The target bank after an erase, no erase running. -/
def Part.erasedBank (c : Part) : Part :=
  { c with store := { c.store.setBank c.store.target { bytes := [], state := .erased } with eraseEnd := none } }

theorem Part.eraseDone_of_due {e : Time} (erasing : c.store.update = .erasing) (ends : c.store.eraseEnd = some e)
    (due : atOrAfter c.sched.packTime e = true) : c.eraseDone =
      if c.store.abortPending then
        Part.updateReport (.aborted .erasing) c.store.target (Part.updateReport .erased c.store.target
          { c.erasedBank with store.update := .idle, store.abortPending := false })
      else Part.updateReport .erased c.store.target { c.erasedBank with store.update := .ready } :=
  if_pos ⟨erasing, by rw [ends]; exact due⟩

theorem Part.checkDone_of_other (other : c.store.update ≠ .checking) : c.checkDone = c := if_neg other

theorem Store.setBank_update_comm (s : Store) (n : BankName) (x : Bank) (u : UpdateState) :
    Store.setBank { s with update := u } n x = { s.setBank n x with update := u } := by cases n <;> rfl

theorem Part.checkDone_of_staged (checking : c.store.update = .checking)
    (staged : checkImage c.store.targetBank.bytes (fun v => decide (c.store.copy.floor < v)) = .staged) :
    c.checkDone =
      Part.updateReport (.checked .staged (some (imageVersion c.store.targetBank.bytes))) c.store.target
        { c with
          store := { c.store.setBank c.store.target { bytes := c.store.targetBank.bytes, state := .staged } with
            update := .ready, staged := some (imageVersion c.store.targetBank.bytes) } } := by
  unfold Part.checkDone
  rw [if_pos checking]
  simp only [staged, if_pos, Store.setBank_update_comm, EndCode.version]

theorem Part.checkDone_of_failed {e : EndCode} (checking : c.store.update = .checking)
    (result : checkImage c.store.targetBank.bytes (fun v => decide (c.store.copy.floor < v)) = e) (failed : e ≠ .staged) :
    c.checkDone =
      Part.updateReport (.checked e (e.version (imageVersion c.store.targetBank.bytes))) c.store.target
        { c with store.update := .ready } := by
  unfold Part.checkDone
  rw [if_pos checking]
  simp only [result, if_neg failed]

theorem EndCode.version_of_checked {e : EndCode} (other : e ≠ .format) (v : Nat) : e.version v = some v := by
  cases e with
  | format => exact absurd rfl other
  | _ => rfl

theorem Part.checkDone_of_refused (checking : c.store.update = .checking)
    (unstaged : checkImage c.store.targetBank.bytes (fun v => decide (c.store.copy.floor < v)) ≠ .staged)
    (other : checkImage c.store.targetBank.bytes (fun v => decide (c.store.copy.floor < v)) ≠ .format) :
    c.checkDone =
      Part.updateReport (.checked (checkImage c.store.targetBank.bytes (fun v => decide (c.store.copy.floor < v)))
        (some (imageVersion c.store.targetBank.bytes))) c.store.target { c with store.update := .ready } := by
  rw [Part.checkDone_of_failed checking rfl unstaged, EndCode.version_of_checked other]

/-! ### The end of a programming (R169, R176, R177) -/

/-- The part with the bytes programmed and the response made. -/
def Part.written (p : Programming) (c : Part) : Part :=
  { c with
    store := { c.store.setBank c.store.target
      { bytes := c.store.targetBank.bytes.writeAll p.offset p.data, state := .written } with staged := none },
    mgmt.programming := none,
    mgmt.responses := c.mgmt.responses ++
      [{ frame := { dest := 0, source := 0, kind := .mgmtRsp, seq := p.seq, status := 0, payload := [17] },
         restart := false }] }

theorem Part.programmed_eq (p : Programming) (c : Part) : c.programmed q p =
    let ended := if (c.written p).store.abortPending then (c.written p).abortUpdate else c.written p
    if ended.store.tamperPending then Part.setTamper q { ended with store.tamperPending := false } else ended := rfl

theorem Part.written_bytes (p : Programming) (c : Part) : ((c.written p).store.bank c.store.target).bytes =
    c.store.targetBank.bytes.writeAll p.offset p.data :=
  congrArg Bank.bytes (Store.bank_setBank_self ..)

theorem Part.written_read (p : Programming) (fits : p.offset + p.data.length ≤ bankSize) (laws : c.bankLaws = true)
    (a : Nat) : ((c.written p).store.bank c.store.target).bytes.read a =
      if p.offset ≤ a ∧ a < p.offset + p.data.length then (p.data[a - p.offset]?).getD 0
      else (c.store.bank c.store.target).bytes.read a := by
  rw [c.written_bytes p]
  exact Memory.read_writeAll ((Part.bankLaws_iff c).1 laws _) _ _ _ fits

/-- The part after a programming that ends its update. -/
def Part.writtenAborted (p : Programming) (c : Part) : Part :=
  Part.offerReport .priority (updatePayload (.aborted .ready) c.store.target .idle c.store.state c.store.copy.floor)
    { c.written p with store.update := .idle, store.abortPending := false }

theorem Part.written_aborted (p : Programming) (ready : c.store.update = .ready) :
    (c.written p).abortUpdate = c.writtenAborted p := by
  have update : (c.written p).store.update = .ready := by simp [Part.written, ready]
  have bank : (c.written p).store.target = c.store.target := by simp [Part.written, Store.target]
  rw [Part.abortUpdate_of_open (by rw [update]; nofun), update, bank]
  exact Part.updateReport_eq (c := c) _ _ rfl (by simp [Part.written]) (by simp [Part.written])

theorem Part.writtenAborted_store (p : Programming) (c : Part) : (c.writtenAborted p).store =
    { (c.written p).store with update := .idle, abortPending := false } := by
  simp [Part.writtenAborted]

theorem Part.writtenAborted_mgmt (p : Programming) (c : Part) : (c.writtenAborted p).mgmt = (c.written p).mgmt := by
  simp [Part.writtenAborted]

theorem Part.programmed_of_quiet {p : Programming} (quiet : c.store.tamperPending = false)
    (stays : c.store.abortPending = false) : c.programmed q p = c.written p := by
  rw [Part.programmed_eq]
  have latch : (c.written p).store.tamperPending = false := by simp [Part.written, quiet]
  have abort : (c.written p).store.abortPending = false := by simp [Part.written, stays]
  simp only [abort, latch, Bool.false_eq_true, if_false]

/-- The programming ends its update, and then sets the latch that waited for it. -/
theorem Part.programmed_of_abort {p : Programming} (aborts : c.store.abortPending = true)
    (ready : c.store.update = .ready) : c.programmed q p =
      if c.store.tamperPending then Part.setTamper q { c.writtenAborted p with store.tamperPending := false }
      else c.writtenAborted p := by
  have abort : (c.written p).store.abortPending = true := by simp [Part.written, aborts]
  have latch : (c.writtenAborted p).store.tamperPending = c.store.tamperPending := by
    rw [Part.writtenAborted_store]
    simp [Part.written]
  rw [Part.programmed_eq]
  simp only [abort, if_true, Part.written_aborted p ready, latch]

/-- Settles O49: the checks by `checkImage_eq`, the six tables each by the `↔` that says what its validation accepts, and
the three ends by what each leaves of the store. -/
theorem eraseCheckAndProgrammingEnd : Obligations.EraseCheckAndProgrammingEnd := by
  unfold Obligations.EraseCheckAndProgrammingEnd
  refine ⟨?_, ?_, ?_⟩
  · intro m versionOk offset count size total tagged holds placed sealed found result
    have format : tagged ↔ formatOk m = true := (formatOk_iff m).symm
    have length : placed ↔ lengthOk m = true := (lengthOk_iff m).symm
    have crc : sealed ↔ crcOk m = true := (crcOk_iff m).symm
    rw [format, length, crc]
    refine ⟨checkImage_of_untagged, checkImage_of_misplaced, checkImage_of_broken, checkImage_of_low,
      fun tag place sound high => ⟨fun clean => ?_, fun id i first before => ?_⟩⟩
    · exact (checkImage_of_sound tag place sound high).trans (by rw [validateTables_eq_none clean]; rfl)
    · exact (checkImage_of_sound tag place sound high).trans (by rw [validateTables_eq_some first before]; rfl)
  · intro m offset count first params limit trips clears ordered action logical position kind cells temps gain trim
      entryGood cycle lead skew missed age high headerGood slot targets slotGood
    have kinds (good : ∀ i < count 1, entryGood i) (i : Nat) (low : i < count 1) : kind i ≤ 1 := by
      obtain ⟨-, -, -, -, known, -⟩ := good i low
      exact known
    refine ⟨fun wrong => if_pos wrong, validateParams_findsFirst, fun wrong => ?_, fun one sixteen => ⟨?_, ?_, ?_⟩,
      fun wrong => ?_, validatePass_findsFirst, fun wrong => ?_, validateSchedule_findsFirst, fun wrong => if_pos wrong,
      validateLimits_findsFirst, fun wrong => if_pos wrong, validateInterlock_findsFirst⟩
    · have outside : ¬ (1 ≤ count 1 ∧ count 1 ≤ 16) := by omega
      exact if_neg fun ok => outside (within_iff.1 ok)
    · intro good shunt
      obtain ⟨i, low, isShunt⟩ := shunt
      rw [validateMap_of_good ⟨one, sixteen⟩ good]
      exact if_pos ((any_shunt_iff m).2 ⟨i, low, by rw [show mapByte m i 2 = 1 from isShunt]; exact one_ne_zero⟩)
    · intro good none
      refine ⟨Config.noShuntIndex, ?_⟩
      rw [validateMap_of_good ⟨one, sixteen⟩ good]
      refine if_neg fun any => ?_
      obtain ⟨i, low, other⟩ := (any_shunt_iff m).1 any
      exact none i low (le_antisymm (kinds good i low) (Nat.one_le_iff_ne_zero.2 other))
    · exact fun i low bad before => validateMap_of_bad ⟨one, sixteen⟩ low bad before
    · refine if_neg fun ok => ?_
      rw [Bool.and_eq_true, within_iff, decide_eq_true_iff] at ok
      obtain ⟨⟨-, twelve⟩, action⟩ := ok
      exact wrong.elim (not_lt_of_ge twelve) (not_lt_of_ge action)
    · exact if_neg fun ok => wrong ((headerGood_iff m).1 ok)
  · intro c q n report
    have runs (p : Programming) (programming : c.mgmt.programming = some p)
        (fits : p.offset + p.data.length ≤ bankSize) :
        exec .writeProgrammingEnd ⟨c, q⟩ = .next ⟨c.programmed q p, q⟩ := by
      rw [exec_writeProgrammingEnd, programming]
      exact if_pos fits
    refine ⟨fun e erasing ends => ⟨fun early => ?_, fun due stays => ?_, fun due aborts => ?_⟩, fun other => ?_,
      fun checking => ?_, fun other => ?_,
      fun p programming => ⟨fun fits latch read clear aborts ready laws => ?_, fun fits quiet stays laws => ?_,
        fun fits quiet aborts ready laws => ?_, fun past => ?_⟩, fun none => ?_⟩
    · exact exec_eq_next rfl (Part.eraseDone_of_early ends early)
    · refine exec_eq_next rfl ((Part.eraseDone_of_due erasing ends due).trans (.trans (if_neg (by simp [stays])) ?_))
      exact Part.updateReport_eq (c := c) _ _ rfl (by simp [Part.erasedBank]) (by simp [Part.erasedBank])
    · refine exec_eq_next rfl ((Part.eraseDone_of_due erasing ends due).trans (.trans (if_pos aborts) ?_))
      rw [Part.updateReport_eq (c := c) (u := .idle) .erased _ rfl (by simp [Part.erasedBank]) (by simp [Part.erasedBank])]
      exact Part.updateReport_eq (c := c) _ _ (by simp) (by simp [Part.erasedBank]) (by simp [Part.erasedBank])
    · exact exec_eq_next rfl (Part.eraseDone_of_other other)
    · intro m result
      refine ⟨fun staged => ?_, fun format => ?_, fun unstaged other => ?_⟩
      · refine exec_eq_next rfl ((Part.checkDone_of_staged checking staged).trans ?_)
        exact Part.updateReport_eq (c := c) _ _ rfl (by simp) (by simp)
      · exact exec_eq_next rfl ((Part.checkDone_of_failed checking format nofun).trans
          (Part.updateReport_eq (c := c) _ _ rfl rfl rfl))
      · exact exec_eq_next rfl ((Part.checkDone_of_refused checking unstaged other).trans
          (Part.updateReport_eq (c := c) _ _ rfl rfl rfl))
    · exact exec_eq_next rfl (Part.checkDone_of_other other)
    · let ended : Part := { c.writtenAborted p with store.tamperPending := false }
      have store : ended.store = { (c.written p).store with update := .idle, abortPending := false, tamperPending := false } :=
        congrArg (fun s : Store => { s with tamperPending := false }) (c.writtenAborted_store p)
      have set := Part.setTamper_set (q := q) (c := ended) (by rw [store]; simp [Part.written, read])
        (by rw [store]; simp [Part.written, clear])
      have banks : (ended.setTamper q).store.banks = (c.written p).store.banks :=
        (by simp [Store.banks] : (ended.setTamper q).store.banks = ended.store.banks).trans
          ((congrArg Store.banks store).trans rfl)
      have mgmt : (ended.setTamper q).mgmt = (c.written p).mgmt :=
        (by simp : (ended.setTamper q).mgmt = ended.mgmt).trans (c.writtenAborted_mgmt p)
      refine ⟨ended.setTamper q,
        exec_eq_next (runs p programming fits) ((Part.programmed_of_abort aborts ready).trans (if_pos latch)), fun a => ?_,
        mgmt, ?_, ?_, set.raised.tamper, set.raised.writes, set.raised.object, set.state⟩
      · rw [Store.bank_eq_of_banks banks]
        exact c.written_read p fits laws a
      · exact (by simp : (ended.setTamper q).store.update = ended.store.update).trans (by rw [store])
      · exact ended.setTamper_tamperPending
    · refine ⟨c.written p, exec_eq_next (runs p programming fits) (Part.programmed_of_quiet quiet stays),
        c.written_read p fits laws, ?_⟩
      rw [c.written_bytes p]
      rfl
    · exact ⟨_, c.written_read p fits laws, exec_eq_next (runs p programming fits) <|
        ((Part.programmed_of_abort aborts ready).trans (if_neg (by simp [quiet]))).trans (by rw [c.written_bytes p]; rfl)⟩
    · rw [exec_writeProgrammingEnd, programming]
      exact if_neg (not_le.2 past)
    · rw [exec_writeProgrammingEnd, none]

end Sys2Proof.Machine
end
